-- ==== Sys2Proof/Word.lean ====
section
/-! DEFINITION. The widths in which the part's values cross a port or a gauge link (R164), and the two input levels.
Signed quantities (forces, strokes, strains) are kept in two's complement in their wire width; arithmetic on them is done on
`BitVec.toInt`, exactly, and narrowed by the operations of `Sys2Proof.Machine`. -/
namespace Sys2Proof

/-- One byte on a port (section 1, R2). -/
abbrev Byte := BitVec 8

/-- A two-byte field: forces, strokes, strains, rates, tags, sequence numbers (R164). -/
abbrev Half := BitVec 16

/-- A signed 24-bit raw gauge count (R94). -/
abbrev Raw24 := BitVec 24

/-- A four-byte field: time stamps, the phase accumulator, durations (R164). -/
abbrev Word := BitVec 32

/-- The width of the cycle counter (R31). -/
abbrev Cycle40 := BitVec 40

/-- The level of an input line as sampled (R116). -/
inductive Level where
  | low
  | high
  deriving DecidableEq, Repr

end Sys2Proof
end

