-- ==== Sys2Proof/Syntax.lean ====
section
/-! DEFINITION. The commands of the part: one constructor of `Instr` for each row of spec/opcode_table.json.

A request row carries the port at which it is taken and its argument fields as they come off the wire (R164, chapter 10), so
that every byte a master can send has a command; the row stands for the whole select window up to the moment of taking.
An event row carries what the event brings with it: the levels sampled at a count, the bits of a gauge frame, the byte clocked. -/
namespace Sys2Proof

/-- The six ports (chapter 1): ports 0 to 3 are FRAME0 to FRAME3, port 4 DIRECTOR, port 5 LOGGER. -/
inductive PortId where
  | frame (f : Fin 4)
  | director
  | logger
  deriving DecidableEq, Repr

/-- The requests of the request code table (R165, section 10.3). -/
inductive ReqName where
  | readIdent | readEvents | clearEvents | setEventMask | reinit
  | writeBlock | readBlock | setStartBlock | start | pause | resume | stop | advance | readGenerator
  | setChannel | readChannel | stageChannel | stageScale | armCommit | disarm
  | servoExchange | trip | setFrame | readFrame
  | setGauge | captureBaseline | readGauges | setCrack | clearCrackLatch | readCrack
  | setZone | release | reloadZone | readZone
  | takeRecord | snapshot | resumeAutoSnapshot | setQueue | readQueue
  deriving DecidableEq, Repr

/-- The arguments of WRITE_BLOCK: index, kind and the ten field bytes, as bytes 0–1, bytes 2–5 and bytes 6–9 (section 10.3). -/
structure BlockArgs where
  index : Byte
  kind : Byte
  /-- field bytes 0–1: target mean, amplitude, or the JUMP target in the first byte -/
  head : Half
  /-- field bytes 2–5: rate or repeat count in the first two, duration, or frequency word -/
  body : Word
  /-- field bytes 6–9: the count of a CYCLE -/
  tail : Word
  deriving DecidableEq, Repr

/-- The PROTECTION block of section 10.4, the arguments of SET_CHANNEL. -/
structure ChannelArgs where
  channel : Byte
  fmin : Half
  fmax : Half
  rmax : Half
  ul : Half
  tol : Half
  k : Byte
  fabs : Half
  smin : Half
  smax : Half
  trackingAction : Byte
  overforceAction : Byte
  strokeAction : Byte
  method : Byte
  seconds : Half
  zone : Byte
  deriving DecidableEq, Repr

/-- The first nine bytes of FRAME RECORD (section 10.4), the arguments of SET_FRAME. -/
structure FrameArgs where
  frame : Byte
  period : Half
  lateAction : Byte
  lostAction : Byte
  tripAction : Byte
  method : Byte
  seconds : Half
  deriving DecidableEq, Repr

/-- GAUGE CONFIG of section 10.4, the arguments of SET_GAUGE. -/
structure GaugeArgs where
  gauge : Byte
  enabled : Byte
  zero : Raw24
  scale : Half
  lo : Half
  hi : Half
  n : Byte
  staleTime : Half
  driftLimit : Half
  m : Byte
  zone : Byte
  windowAction : Byte
  faultAction : Byte
  driftAction : Byte
  method : Byte
  seconds : Half
  deriving DecidableEq, Repr

/-- The first nine bytes of CRACK INPUT (section 10.4), the arguments of SET_CRACK. -/
structure CrackArgs where
  input : Byte
  enable : Byte
  sense : Byte
  n : Byte
  zone : Byte
  action : Byte
  method : Byte
  seconds : Half
  deriving DecidableEq, Repr

/-- The events of one count of the reference timer that follow the time stamp's increase (R1): the sampling event of the
crack watch (R116), a frame watchdog's decrement and expiry (R87), a gauge stale timer's (R105) and an alarm entry's
clear-timer's (R138). -/
inductive CountAct where
  | sample
  | watchdog (f : Fin 4)
  | stale (g : Fin 64)
  | clearTimer (z : Fin 4) (tag : Half)
  deriving DecidableEq, Repr

/-- What one count of the reference timer meets: the levels of CK0 to CK15 (bit i is CKi, high when set), the level of STOPn,
and the order in which the count's events come. The reference gives no order among the events of one count, so the command
carries it: events it names are taken in that order, the rest after them (`Sys2Proof.Machine.State.countSchedule`). -/
structure CountArgs where
  ck : BitVec 16
  stopn : Level
  order : List CountAct := []
  deriving DecidableEq, Repr

/-- The commands of the part, one for each row of spec/opcode_table.json. -/
inductive Instr where
  -- windows and the whole part
  | malformedRequest (p : PortId) (code : Byte) (length : Half)
  | windowAbandoned (p : PortId)
  | hardwareReset (selects : BitVec 6)
  | readIdent (p : PortId)
  | readEvents (p : PortId)
  | clearEvents (p : PortId) (events : Byte)
  | setEventMask (p : PortId) (mask : Byte)
  | reinit (p : PortId)
  -- load generator
  | writeBlock (p : PortId) (a : BlockArgs)
  | readBlock (p : PortId) (index : Byte)
  | setStartBlock (p : PortId) (index : Byte)
  | start (p : PortId)
  | pause (p : PortId)
  | resume (p : PortId)
  | stop (p : PortId) (mode : Byte)
  | advance (p : PortId)
  | readGenerator (p : PortId)
  -- channels and load sets
  | setChannel (p : PortId) (a : ChannelArgs)
  | readChannel (p : PortId) (channel : Byte)
  | stageChannel (p : PortId) (channel : Byte) (share offset : Half)
  | stageScale (p : PortId) (ascale : Half)
  | armCommit (p : PortId) (mode : Byte)
  | disarm (p : PortId)
  -- frames
  | servoExchange (p : PortId) (forceA forceB strokeA strokeB : Half)
  | trip (p : PortId) (reason : Byte)
  | setFrame (p : PortId) (a : FrameArgs)
  | readFrame (p : PortId) (frame : Option Byte)
  -- gauges and crack inputs
  | setGauge (p : PortId) (a : GaugeArgs)
  | captureBaseline (p : PortId)
  | readGauges (p : PortId) (first count : Byte)
  | setCrack (p : PortId) (a : CrackArgs)
  | clearCrackLatch (p : PortId) (inputs : Half)
  | readCrack (p : PortId)
  -- zones and the record queue
  | setZone (p : PortId) (zone isolate : Byte) (unloadRate reloadRate : Half)
  | release (p : PortId) (zone : Byte) (tag : Half)
  | reloadZone (p : PortId) (zone : Byte)
  | readZone (p : PortId) (zone : Byte)
  | takeRecord (p : PortId)
  | snapshot (p : PortId)
  | resumeAutoSnapshot (p : PortId)
  | setQueue (p : PortId) (on off : Byte) (n : Half)
  | readQueue (p : PortId)
  -- the update timer
  | update
  | commitApplyNow
  | boundary
  | commitApplyBoundary
  | pendingStopActs
  | pendingAdvanceActs
  | dwellEnd
  | rampEnd
  | boundaryRemoval
  | baselineCapture (g : Fin 64)
  | zoneRampComplete (z : Fin 4)
  -- the reference timer
  | referenceCount (t : CountArgs)
  | watchdogExpiry (f : Fin 4) (t : CountArgs)
  | staleExpiry (g : Fin 64) (t : CountArgs)
  | clearTimerExpiry (z : Fin 4) (tag : Half) (t : CountArgs)
  -- the gauge links and the port pins
  | gaugeFrame (link : Fin 2) (bits : BitVec 40)
  | selectAsserted (p : PortId)
  | portByteClocked (p : PortId) (byte : Byte)
  | selectDeassertedAfterAnswer (p : PortId)
  | gaugeLinkStartCondition (link : Fin 2)
  | gaugeLinkClockEdge (link : Fin 2) (bit : Bool)
  deriving DecidableEq, Repr

end Sys2Proof
end

