-- ==== Sys2Proof/Machine/RequestTable.lean ====
section
/-! DEFINITION. The request code table of section 10.3 (R165): each request's code, the argument lengths it accepts, and the
ports that have the right to it (R7). -/
namespace Sys2Proof.Machine

/-- The request code of each request (section 10.3). -/
def reqCode : ReqName → Byte
  | .readIdent => 0x01#8 | .readEvents => 0x02#8 | .clearEvents => 0x03#8 | .setEventMask => 0x04#8 | .reinit => 0x0E#8
  | .writeBlock => 0x10#8 | .readBlock => 0x11#8 | .setStartBlock => 0x12#8 | .start => 0x13#8 | .pause => 0x14#8
  | .resume => 0x15#8 | .stop => 0x16#8 | .advance => 0x17#8 | .readGenerator => 0x18#8
  | .setChannel => 0x20#8 | .readChannel => 0x21#8 | .stageChannel => 0x22#8 | .stageScale => 0x23#8
  | .armCommit => 0x24#8 | .disarm => 0x25#8
  | .servoExchange => 0x30#8 | .trip => 0x31#8 | .setFrame => 0x32#8 | .readFrame => 0x33#8
  | .setGauge => 0x40#8 | .captureBaseline => 0x41#8 | .readGauges => 0x42#8
  | .setCrack => 0x48#8 | .clearCrackLatch => 0x49#8 | .readCrack => 0x4A#8
  | .setZone => 0x50#8 | .release => 0x51#8 | .reloadZone => 0x52#8 | .readZone => 0x53#8
  | .takeRecord => 0x60#8 | .snapshot => 0x61#8 | .resumeAutoSnapshot => 0x62#8 | .setQueue => 0x63#8 | .readQueue => 0x64#8

/-- Every request of the table, in the order of section 10.3. -/
def allRequests : List ReqName :=
  [.readIdent, .readEvents, .clearEvents, .setEventMask, .reinit,
   .writeBlock, .readBlock, .setStartBlock, .start, .pause, .resume, .stop, .advance, .readGenerator,
   .setChannel, .readChannel, .stageChannel, .stageScale, .armCommit, .disarm,
   .servoExchange, .trip, .setFrame, .readFrame,
   .setGauge, .captureBaseline, .readGauges, .setCrack, .clearCrackLatch, .readCrack,
   .setZone, .release, .reloadZone, .readZone,
   .takeRecord, .snapshot, .resumeAutoSnapshot, .setQueue, .readQueue]

/-- The request a code names, if it is in the table (R3). -/
def requestOf? (code : Byte) : Option ReqName :=
  allRequests.find? fun r => reqCode r == code

/-- The argument lengths a request accepts: one each, except READ_FRAME's 0 or 1 (R165). -/
def reqLengths : ReqName → List Nat
  | .readIdent | .readEvents | .reinit | .start | .pause | .resume | .advance | .readGenerator | .disarm
  | .captureBaseline | .readCrack | .takeRecord | .snapshot | .resumeAutoSnapshot | .readQueue => [0]
  | .clearEvents | .setEventMask | .readBlock | .setStartBlock | .stop | .readChannel | .armCommit | .trip
  | .reloadZone | .readZone => [1]
  | .stageScale | .readGauges | .clearCrackLatch => [2]
  | .release => [3]
  | .setQueue => [4]
  | .stageChannel => [5]
  | .setZone => [6]
  | .servoExchange => [8]
  | .setFrame | .setCrack => [9]
  | .writeBlock => [12]
  | .setGauge => [24]
  | .setChannel => [25]
  | .readFrame => [0, 1]

/-- The request named by a code whose table row accepts this argument length; none for a malformed request (R3). -/
def accepted? (code : Byte) (length : Nat) : Option ReqName :=
  (requestOf? code).filter fun r => (reqLengths r).contains length

/-- The groups of ports in the access table of R7. -/
inductive PortGroup where
  | frames
  | director
  | logger
  deriving DecidableEq, Repr

/-- The group a port belongs to. -/
def portGroup : PortId → PortGroup
  | .frame _ => .frames
  | .director => .director
  | .logger => .logger

/-- The access right of a port to a request (R7). -/
def hasRight (p : PortId) (r : ReqName) : Bool :=
  match r, portGroup p with
  | .servoExchange, g | .trip, g => g == .frames
  | .takeRecord, g => g == .logger
  | .snapshot, g => g == .director || g == .logger
  | .readIdent, _ | .readEvents, _ | .readGenerator, _ | .readBlock, _ | .readChannel, _ | .readFrame, _
  | .readGauges, _ | .readCrack, _ | .readZone, _ | .readQueue, _ => true
  | .clearEvents, _ | .setEventMask, _ => true
  | .writeBlock, g | .setStartBlock, g | .start, g | .pause, g | .resume, g | .stop, g | .advance, g => g == .director
  | .setChannel, g | .stageChannel, g | .stageScale, g | .armCommit, g | .disarm, g => g == .director
  | .setFrame, g => g == .director
  | .setGauge, g | .captureBaseline, g => g == .director
  | .setCrack, g | .clearCrackLatch, g => g == .director
  | .setZone, g | .release, g | .reloadZone, g => g == .director
  | .setQueue, g | .resumeAutoSnapshot, g => g == .director
  | .reinit, g => g == .director

/-- The number of a port, by which State holds its context. -/
def portIndex : PortId → Fin 6
  | .frame f => ⟨f.val, by omega⟩
  | .director => 4
  | .logger => 5

end Sys2Proof.Machine
end

