-- ==== Sys2Proof/WellFormed.lean ====
section
/-! DEFINITION. Which commands can come about. A request may carry any bytes, so every request row is well formed; an event row
is well formed when what it brings can occur. -/
namespace Sys2Proof

/-- The order a count's events come in names no event twice. -/
def CountArgs.wellFormed (t : CountArgs) : Bool :=
  decide t.order.Nodup

/-- Well-formed commands: MALFORMED_REQUEST carries a code and a length that the request code table does not accept (R3); the
tag of CLEAR_TIMER_EXPIRY is a tag, 1 to 65535 (R128); the order a count's events come in names no event twice. -/
def Instr.wellFormed : Instr → Bool
  | .malformedRequest _ code length => (Machine.accepted? code length.toNat).isNone
  | .clearTimerExpiry _ tag t => tag != 0#16 && t.wellFormed
  | .referenceCount t => t.wellFormed
  | .watchdogExpiry _ t => t.wellFormed
  | .staleExpiry _ t => t.wellFormed
  | .windowAbandoned _ | .hardwareReset _ | .readIdent _ | .readEvents _ | .clearEvents _ _ | .setEventMask _ _ | .reinit _
  | .writeBlock _ _ | .readBlock _ _ | .setStartBlock _ _ | .start _ | .pause _ | .resume _ | .stop _ _ | .advance _
  | .readGenerator _ | .setChannel _ _ | .readChannel _ _ | .stageChannel _ _ _ _ | .stageScale _ _ | .armCommit _ _
  | .disarm _ | .servoExchange _ _ _ _ _ | .trip _ _ | .setFrame _ _ | .readFrame _ _ | .setGauge _ _ | .captureBaseline _
  | .readGauges _ _ _ | .setCrack _ _ | .clearCrackLatch _ _ | .readCrack _ | .setZone _ _ _ _ _ | .release _ _ _
  | .reloadZone _ _ | .readZone _ _ | .takeRecord _ | .snapshot _ | .resumeAutoSnapshot _ | .setQueue _ _ _ _ | .readQueue _
  | .update | .commitApplyNow | .boundary | .commitApplyBoundary | .pendingStopActs | .pendingAdvanceActs | .dwellEnd
  | .rampEnd | .boundaryRemoval | .baselineCapture _ | .zoneRampComplete _ | .gaugeFrame _ _ | .selectAsserted _
  | .portByteClocked _ _ | .selectDeassertedAfterAnswer _ | .gaugeLinkStartCondition _ | .gaugeLinkClockEdge _ _ => true

end Sys2Proof
end

