-- ==== Sys2Proof/Decode.lean ====
section
/-! DEFINITION. Reading commands from bits. The rows of spec/opcode_table.json give no bits, so `decodeTableWord` reads none.
What the reference does lay out is the bytes of each request (R164, section 10.3): `parseRequest` reads a request from its
argument bytes, as the port does when it takes one (R3), and `encodeArgs` writes them. -/
namespace Sys2Proof

/-- The command a table word spells. No row of the table gives bits, so no word spells one (DESIGN CHOICE, safe,
notes/assumptions/25.md). -/
def decodeTableWord (_nbits _w : Nat) : Option Instr := none

/-- Two bytes as a field, most significant first (R164). -/
def be2 (a b : Byte) : Half := a ++ b

/-- Three bytes as a field, most significant first (R164). -/
def be3 (a b c : Byte) : Raw24 := a ++ b ++ c

/-- Four bytes as a field, most significant first (R164). -/
def be4 (a b c d : Byte) : Word := a ++ b ++ c ++ d

/-- The bytes of a two-byte field, most significant first (R164). -/
def bytes2 (x : Half) : List Byte := [x.extractLsb' 8 8, x.extractLsb' 0 8]

/-- The bytes of a three-byte field (R164). -/
def bytes3 (x : Raw24) : List Byte := [x.extractLsb' 16 8, x.extractLsb' 8 8, x.extractLsb' 0 8]

/-- The bytes of a four-byte field (R164). -/
def bytes4 (x : Word) : List Byte := [x.extractLsb' 24 8, x.extractLsb' 16 8, x.extractLsb' 8 8, x.extractLsb' 0 8]

/-- The request a port takes, from its name and its argument bytes, each field at its place in section 10.3 and 10.4. None for
a list of bytes whose length the request does not accept, which a port never takes (R3). -/
def parseRequest (p : PortId) (r : ReqName) (args : List Byte) : Option Instr :=
  match r, args with
  | .readIdent, [] => some (.readIdent p)
  | .readEvents, [] => some (.readEvents p)
  | .clearEvents, [e] => some (.clearEvents p e)
  | .setEventMask, [m] => some (.setEventMask p m)
  | .reinit, [] => some (.reinit p)
  | .writeBlock, [i, k, a0, a1, b0, b1, b2, b3, c0, c1, c2, c3] =>
    some (.writeBlock p { index := i, kind := k, head := be2 a0 a1, body := be4 b0 b1 b2 b3, tail := be4 c0 c1 c2 c3 })
  | .readBlock, [i] => some (.readBlock p i)
  | .setStartBlock, [i] => some (.setStartBlock p i)
  | .start, [] => some (.start p)
  | .pause, [] => some (.pause p)
  | .resume, [] => some (.resume p)
  | .stop, [m] => some (.stop p m)
  | .advance, [] => some (.advance p)
  | .readGenerator, [] => some (.readGenerator p)
  | .setChannel, [c, n0, n1, x0, x1, r0, r1, u0, u1, t0, t1, k, f0, f1, s0, s1, m0, m1, ta, oa, sa, me, d0, d1, z] =>
    some (.setChannel p
      { channel := c, fmin := be2 n0 n1, fmax := be2 x0 x1, rmax := be2 r0 r1, ul := be2 u0 u1, tol := be2 t0 t1, k := k
        fabs := be2 f0 f1, smin := be2 s0 s1, smax := be2 m0 m1, trackingAction := ta, overforceAction := oa
        strokeAction := sa, method := me, seconds := be2 d0 d1, zone := z })
  | .readChannel, [c] => some (.readChannel p c)
  | .stageChannel, [c, s0, s1, o0, o1] => some (.stageChannel p c (be2 s0 s1) (be2 o0 o1))
  | .stageScale, [a0, a1] => some (.stageScale p (be2 a0 a1))
  | .armCommit, [m] => some (.armCommit p m)
  | .disarm, [] => some (.disarm p)
  | .servoExchange, [a0, a1, b0, b1, c0, c1, d0, d1] =>
    some (.servoExchange p (be2 a0 a1) (be2 b0 b1) (be2 c0 c1) (be2 d0 d1))
  | .trip, [n] => some (.trip p n)
  | .setFrame, [f, w0, w1, la, lo, tr, me, d0, d1] =>
    some (.setFrame p
      { frame := f, period := be2 w0 w1, lateAction := la, lostAction := lo, tripAction := tr, method := me
        seconds := be2 d0 d1 })
  | .readFrame, [] => some (.readFrame p none)
  | .readFrame, [f] => some (.readFrame p (some f))
  | .setGauge, [g, en, z0, z1, z2, s0, s1, l0, l1, h0, h1, n, t0, t1, d0, d1, m, z, wa, fa, da, me, e0, e1] =>
    some (.setGauge p
      { gauge := g, enabled := en, zero := be3 z0 z1 z2, scale := be2 s0 s1, lo := be2 l0 l1, hi := be2 h0 h1, n := n
        staleTime := be2 t0 t1, driftLimit := be2 d0 d1, m := m, zone := z, windowAction := wa, faultAction := fa
        driftAction := da, method := me, seconds := be2 e0 e1 })
  | .captureBaseline, [] => some (.captureBaseline p)
  | .readGauges, [a, b] => some (.readGauges p a b)
  | .setCrack, [i, en, se, n, z, a, me, d0, d1] =>
    some (.setCrack p
      { input := i, enable := en, sense := se, n := n, zone := z, action := a, method := me, seconds := be2 d0 d1 })
  | .clearCrackLatch, [a, b] => some (.clearCrackLatch p (be2 a b))
  | .readCrack, [] => some (.readCrack p)
  | .setZone, [z, i, u0, u1, r0, r1] => some (.setZone p z i (be2 u0 u1) (be2 r0 r1))
  | .release, [z, t0, t1] => some (.release p z (be2 t0 t1))
  | .reloadZone, [z] => some (.reloadZone p z)
  | .readZone, [z] => some (.readZone p z)
  | .takeRecord, [] => some (.takeRecord p)
  | .snapshot, [] => some (.snapshot p)
  | .resumeAutoSnapshot, [] => some (.resumeAutoSnapshot p)
  | .setQueue, [a, b, n0, n1] => some (.setQueue p a b (be2 n0 n1))
  | .readQueue, [] => some (.readQueue p)
  | _, _ => none

/-- The port and name of a request row; none for an event row. -/
def requestName? : Instr → Option (PortId × ReqName)
  | .readIdent p => some (p, .readIdent)
  | .readEvents p => some (p, .readEvents)
  | .clearEvents p _ => some (p, .clearEvents)
  | .setEventMask p _ => some (p, .setEventMask)
  | .reinit p => some (p, .reinit)
  | .writeBlock p _ => some (p, .writeBlock)
  | .readBlock p _ => some (p, .readBlock)
  | .setStartBlock p _ => some (p, .setStartBlock)
  | .start p => some (p, .start)
  | .pause p => some (p, .pause)
  | .resume p => some (p, .resume)
  | .stop p _ => some (p, .stop)
  | .advance p => some (p, .advance)
  | .readGenerator p => some (p, .readGenerator)
  | .setChannel p _ => some (p, .setChannel)
  | .readChannel p _ => some (p, .readChannel)
  | .stageChannel p _ _ _ => some (p, .stageChannel)
  | .stageScale p _ => some (p, .stageScale)
  | .armCommit p _ => some (p, .armCommit)
  | .disarm p => some (p, .disarm)
  | .servoExchange p _ _ _ _ => some (p, .servoExchange)
  | .trip p _ => some (p, .trip)
  | .setFrame p _ => some (p, .setFrame)
  | .readFrame p _ => some (p, .readFrame)
  | .setGauge p _ => some (p, .setGauge)
  | .captureBaseline p => some (p, .captureBaseline)
  | .readGauges p _ _ => some (p, .readGauges)
  | .setCrack p _ => some (p, .setCrack)
  | .clearCrackLatch p _ => some (p, .clearCrackLatch)
  | .readCrack p => some (p, .readCrack)
  | .setZone p _ _ _ _ => some (p, .setZone)
  | .release p _ _ => some (p, .release)
  | .reloadZone p _ => some (p, .reloadZone)
  | .readZone p _ => some (p, .readZone)
  | .takeRecord p => some (p, .takeRecord)
  | .snapshot p => some (p, .snapshot)
  | .resumeAutoSnapshot p => some (p, .resumeAutoSnapshot)
  | .setQueue p _ _ _ => some (p, .setQueue)
  | .readQueue p => some (p, .readQueue)
  | .malformedRequest _ _ _ | .windowAbandoned _ | .hardwareReset _ | .update | .commitApplyNow | .boundary
  | .commitApplyBoundary | .pendingStopActs | .pendingAdvanceActs | .dwellEnd | .rampEnd | .boundaryRemoval
  | .baselineCapture _ | .zoneRampComplete _ | .referenceCount _ | .watchdogExpiry _ _ | .staleExpiry _ _
  | .clearTimerExpiry _ _ _ | .gaugeFrame _ _ | .selectAsserted _ | .portByteClocked _ _
  | .selectDeassertedAfterAnswer _ | .gaugeLinkStartCondition _ | .gaugeLinkClockEdge _ _ => none

/-- The argument bytes of a request row (sections 10.3 and 10.4); an event row has none. -/
def encodeArgs : Instr → List Byte
  | .clearEvents _ e => [e]
  | .setEventMask _ m => [m]
  | .writeBlock _ a => [a.index, a.kind] ++ bytes2 a.head ++ bytes4 a.body ++ bytes4 a.tail
  | .readBlock _ i => [i]
  | .setStartBlock _ i => [i]
  | .stop _ m => [m]
  | .setChannel _ a =>
    [a.channel] ++ bytes2 a.fmin ++ bytes2 a.fmax ++ bytes2 a.rmax ++ bytes2 a.ul ++ bytes2 a.tol ++ [a.k]
      ++ bytes2 a.fabs ++ bytes2 a.smin ++ bytes2 a.smax
      ++ [a.trackingAction, a.overforceAction, a.strokeAction, a.method] ++ bytes2 a.seconds ++ [a.zone]
  | .readChannel _ c => [c]
  | .stageChannel _ c s o => [c] ++ bytes2 s ++ bytes2 o
  | .stageScale _ a => bytes2 a
  | .armCommit _ m => [m]
  | .servoExchange _ fa fb sa sb => bytes2 fa ++ bytes2 fb ++ bytes2 sa ++ bytes2 sb
  | .trip _ n => [n]
  | .setFrame _ a =>
    [a.frame] ++ bytes2 a.period ++ [a.lateAction, a.lostAction, a.tripAction, a.method] ++ bytes2 a.seconds
  | .readFrame _ none => []
  | .readFrame _ (some f) => [f]
  | .setGauge _ a =>
    [a.gauge, a.enabled] ++ bytes3 a.zero ++ bytes2 a.scale ++ bytes2 a.lo ++ bytes2 a.hi ++ [a.n] ++ bytes2 a.staleTime
      ++ bytes2 a.driftLimit ++ [a.m, a.zone, a.windowAction, a.faultAction, a.driftAction, a.method] ++ bytes2 a.seconds
  | .readGauges _ a b => [a, b]
  | .setCrack _ a => [a.input, a.enable, a.sense, a.n, a.zone, a.action, a.method] ++ bytes2 a.seconds
  | .clearCrackLatch _ i => bytes2 i
  | .setZone _ z i u r => [z, i] ++ bytes2 u ++ bytes2 r
  | .release _ z t => [z] ++ bytes2 t
  | .reloadZone _ z => [z]
  | .readZone _ z => [z]
  | .setQueue _ a b n => [a, b] ++ bytes2 n
  | .readIdent _ | .readEvents _ | .reinit _ | .start _ | .pause _ | .resume _ | .advance _ | .readGenerator _ | .disarm _
  | .captureBaseline _ | .readCrack _ | .takeRecord _ | .snapshot _ | .resumeAutoSnapshot _ | .readQueue _ => []
  | .malformedRequest _ _ _ | .windowAbandoned _ | .hardwareReset _ | .update | .commitApplyNow | .boundary
  | .commitApplyBoundary | .pendingStopActs | .pendingAdvanceActs | .dwellEnd | .rampEnd | .boundaryRemoval
  | .baselineCapture _ | .zoneRampComplete _ | .referenceCount _ | .watchdogExpiry _ _ | .staleExpiry _ _
  | .clearTimerExpiry _ _ _ | .gaugeFrame _ _ | .selectAsserted _ | .portByteClocked _ _
  | .selectDeassertedAfterAnswer _ | .gaugeLinkStartCondition _ | .gaugeLinkClockEdge _ _ => []

end Sys2Proof
end

