-- ==== Sys2Proof/Config.lean ====
section
/-! DEFINITION. The numbers the reference fixes for the part, each with the rule that states it. The LX-8 has no
implementation choices and no value this model leaves free, so nothing here is opaque. -/
namespace Sys2Proof.Config

/-- The part code READ_IDENT returns (R14). -/
def partCode : Half := 0x4C08#16

/-- The revision number READ_IDENT returns (R14). -/
def revision : Byte := 1#8

/-- The byte a port sends when it has no answer byte to send (R2). -/
def fillerByte : Byte := 0xFF#8

/-- Blocks in the program table (R17). -/
def blockCount : Nat := 64

/-- The largest CYCLE frequency word; a larger one is clamped to it (R18). -/
def maxFrequency : Nat := 16777216

/-- The longest DWELL duration in updates (R17, R18). -/
def maxDwell : Nat := 16777215

/-- JUMP blocks one transition evaluates at most (R33). -/
def jumpLimit : Nat := 8

/-- The value at which the cycle counter saturates, 2^40 − 1 (R31). -/
def maxCycles : Cycle40 := 0xFFFFFFFFFF#40

/-- Source entries an alarm list holds at most (R131). -/
def maxSourceEntries : Nat := 12

/-- Records the queue holds at most (R152). -/
def queueCapacity : Nat := 128

/-- The default ON threshold of the record queue (R163). -/
def defaultOn : Nat := 32

/-- The default OFF threshold of the record queue (R163). -/
def defaultOff : Nat := 8

/-- The number of samples that qualify a level of STOPn (R123). -/
def stopSamples : Nat := 2

/-- The timed seconds of an entry whose source configures none, and the default elsewhere (R58, R95, R115, R128). -/
def defaultSeconds : Half := 60#16

/-- The longest timed seconds that is not refused (R59, R86, R96, R121). -/
def maxSeconds : Nat := 3600

end Sys2Proof.Config
end

