-- ==== Sys2Proof/Machine/Parts.lean ====
section
/-! DEFINITION. The kinds of thing the part holds: the enumerations of R164, the records of each block, and alarm entries. Each
type names the rule that gives its fields; the values they take at reset are in Machine/Defaults.lean. -/
namespace Sys2Proof.Machine

/-! ### Ports (chapter 1) -/

/-- Result codes (R5). -/
inductive Result where
  | ok | denied | badreq | range | busy | state | conflict | notfound | empty
  deriving DecidableEq, Repr

/-- The seven events (R8). -/
inductive Event where
  | restart | alarm | zoneChange | genChange | commitDone | logReady | ownLate
  deriving DecidableEq, Repr

/-- Phases of a window context (R2). -/
inductive Phase where
  | idle | code | length | arguments | answer | spent
  deriving DecidableEq, Repr

/-- A port's window context with its select and data-out lines (R2). -/
structure Window where
  /-- SELxn is asserted -/
  selected : Bool
  phase : Phase
  /-- the request code received -/
  code : Byte
  /-- the high byte of the length, once it has been received in LENGTH -/
  lengthHigh : Option Byte
  /-- the argument length received -/
  length : Half
  /-- argument bytes still expected -/
  expected : Nat
  /-- argument bytes kept so far -/
  args : List Byte
  /-- the answer built for the request, whole -/
  answer : Option (List Byte)
  /-- the part of the answer not yet sent -/
  unsent : List Byte
  /-- the byte last sent on SDOx in this window; none when no byte has been sent or the line is at high impedance -/
  sdo : Option Byte
  deriving DecidableEq, Repr

/-- A port: its window context, its event status less LOG_READY, which R9 gives from the queue, and its event mask (R8, R10). -/
structure Port where
  window : Window
  latched : BitVec 7
  mask : BitVec 7
  deriving DecidableEq, Repr

/-! ### Load generator (chapter 2) -/

/-- Generator states (section 2.2). -/
inductive GenState where
  | stopped | running | paused | done
  deriving DecidableEq, Repr

/-- Kinds of block (R17). -/
inductive BlockKind where
  | stop | ramp | dwell | cycle | jump
  deriving DecidableEq, Repr

/-- A block record of the program table with the fields of its kind (R17). -/
inductive Block where
  | stop
  | ramp (target rate : Half)
  | dwell (duration : Word)
  | cycle (amplitude : Half) (frequency count : Word)
  | jump (target : Fin 64) (repeats : Half)
  deriving DecidableEq, Repr

/-- The kind of a block. -/
def Block.kind : Block → BlockKind
  | .stop => .stop
  | .ramp _ _ => .ramp
  | .dwell _ => .dwell
  | .cycle _ _ _ => .cycle
  | .jump _ _ => .jump

/-- STOP modes (R24). -/
inductive StopMode where
  | now | atBoundary
  deriving DecidableEq, Repr

/-- Reasons of a PROGRAM record (R35). -/
inductive Reason where
  | start | next | jump | advance | stop | done | loopLimit | pause | resume
  deriving DecidableEq, Repr

/-- The load generator (R17, R19, R21, R29, R31, R37). -/
structure Generator where
  program : Vector Block 64
  /-- the loop counter of each index -/
  loops : Vector Half 64
  startIndex : Fin 64
  state : GenState
  /-- the index of the current block, none in STOPPED and DONE -/
  current : Option (Fin 64)
  /-- the countdown of a current DWELL -/
  countdown : Word
  /-- the remaining count of a current finite CYCLE -/
  remaining : Word
  /-- the current CYCLE is endless -/
  endless : Bool
  /-- the phase accumulator -/
  phase : Word
  /-- the mean in force, signed -/
  mean : Half
  cycles : Cycle40
  requestedPause : Bool
  pendingAdvance : Bool
  pendingStop : Bool
  /-- the reason of the last PROGRAM record made -/
  lastReason : Reason
  deriving DecidableEq, Repr

/-! ### Actions, release methods, sources (chapters 4 to 8) -/

/-- The seven actions (R130). -/
inductive Action where
  | report | holdZone | holdAll | unloadZone | unloadAll | dumpZone | dumpAll
  deriving DecidableEq, Repr

/-- Release methods (R128, R137). -/
inductive Method where
  | manual | auto | timed | boundary
  deriving DecidableEq, Repr

/-- Alarm sources, by kind and index (R129). -/
inductive Source where
  | restart (z : Fin 4)
  | stop
  | crack (i : Fin 16)
  | gaugeWindow (g : Fin 64)
  | gaugeFault (g : Fin 64)
  | gaugeDrift (g : Fin 64)
  | tracking (c : Fin 8)
  | overforce (c : Fin 8)
  | stroke (c : Fin 8)
  | frameLate (f : Fin 4)
  | frameLost (f : Fin 4)
  | frameTrip (f : Fin 4)
  deriving DecidableEq, Repr

/-! ### Setpoint unit (chapters 3 and 4) -/

/-- The protection fields of an actuator channel record (R58). -/
structure Channel where
  fmin : Half
  fmax : Half
  rmax : Half
  ul : Half
  tol : Half
  k : Nat
  fabs : Half
  smin : Half
  smax : Half
  trackingAction : Action
  overforceAction : Action
  strokeAction : Action
  method : Method
  seconds : Half
  zone : Fin 4
  deriving DecidableEq, Repr

/-- A channel output record (R41). -/
structure Output where
  setpoint : Half
  held : Half
  clamped : Bool
  slewing : Bool
  deriving DecidableEq, Repr

/-- A load set (R64). -/
structure LoadSet where
  share : Vector Half 8
  offset : Vector Half 8
  ascale : Half
  deriving DecidableEq, Repr

/-- Commit modes (R67). -/
inductive CommitMode where
  | now | boundary
  deriving DecidableEq, Repr

/-- Commit states (R64). -/
inductive CommitState where
  | none | armedNow | armedBoundary
  deriving DecidableEq, Repr

/-- Commit outcomes (R71, R72). -/
inductive CommitOutcome where
  | none | appliedNow | appliedBoundary | cancelled
  deriving DecidableEq, Repr

/-! ### Frame supervisor (chapter 5) -/

/-- A channel supervision record (R75). -/
structure Supervision where
  handedOut : Option Half
  force : Option Half
  stroke : Option Half
  misses : Nat
  tracking : Bool
  overforce : Bool
  strokeOut : Bool
  deriving DecidableEq, Repr

/-- Watchdog states (R88). -/
inductive DogState where
  | unwatched | alive | late | lost
  deriving DecidableEq, Repr

/-- A frame record (R85). -/
structure FrameRec where
  period : Half
  lateAction : Action
  lostAction : Action
  tripAction : Action
  method : Method
  seconds : Half
  dog : DogState
  remaining : Half
  late : Bool
  lost : Bool
  trip : Bool
  tripReason : Byte
  deriving DecidableEq, Repr

/-- Modes in the answer to SERVO_EXCHANGE (R82). -/
inductive Mode where
  | follow | hold | unload | reload | dump
  deriving DecidableEq, Repr

/-! ### Strain unit (chapter 6) -/

/-- Causes of an active FAULT condition (R99). -/
inductive FaultCause where
  | over | open | stale
  deriving DecidableEq, Repr

/-- Stale timer states (R99). -/
inductive StaleState where
  | off | running | expired
  deriving DecidableEq, Repr

/-- A peak and a valley in microstrain (R99). -/
structure Extremes where
  peak : Half
  valley : Half
  deriving DecidableEq, Repr

/-- The configuration fields of a gauge record (R95). -/
structure GaugeConfig where
  enabled : Bool
  zero : Raw24
  scale : Half
  lo : Half
  hi : Half
  n : Nat
  staleTime : Half
  driftLimit : Half
  m : Nat
  zone : Fin 4
  windowAction : Action
  faultAction : Action
  driftAction : Action
  method : Method
  seconds : Half
  deriving DecidableEq, Repr

/-- The running fields of a gauge record (R99); `none` extremes are EMPTY, a `none` baseline is invalid. -/
structure GaugeRun where
  lastRaw : Option Raw24
  current : Option Half
  currentSat : Bool
  fault : Option FaultCause
  window : Bool
  outCount : Nat
  inCount : Nat
  stale : StaleState
  staleLeft : Half
  running : Option Extremes
  runningSat : Bool
  runningFault : Bool
  last : Option Extremes
  lastSat : Bool
  lastFault : Bool
  baseline : Option Half
  capture : Bool
  driftCount : Nat
  deriving DecidableEq, Repr

/-- A gauge record (R95, R99). -/
structure Gauge where
  config : GaugeConfig
  run : GaugeRun
  deriving DecidableEq, Repr

/-- States of a gauge link receiver (R166). -/
inductive LinkState where
  | waiting | receiving
  deriving DecidableEq, Repr

/-- A gauge link receiver: its state, the count of bits received and the bits, the latest in bit 0 (R166). -/
structure Link where
  state : LinkState
  count : Nat
  bits : BitVec 40
  deriving DecidableEq, Repr

/-! ### Crack watch (chapter 7) -/

/-- Senses of a crack input (R115). -/
inductive Sense where
  | levelHigh | levelLow | rising | falling | anyChange
  deriving DecidableEq, Repr

/-- The configuration fields of a crack input record (R115). -/
structure CrackConfig where
  enable : Bool
  sense : Sense
  n : Nat
  zone : Fin 4
  action : Action
  method : Method
  seconds : Half
  deriving DecidableEq, Repr

/-- A qualifier: the level it believes, none for UNKNOWN, the last sample and the run of samples equal to it (R116). -/
structure Qualifier where
  level : Option Level
  last : Option Level
  run : Nat
  deriving DecidableEq, Repr

/-- A crack input record (R115, R116). -/
structure Crack where
  config : CrackConfig
  qualifier : Qualifier
  condition : Bool
  detected : Bool
  deriving DecidableEq, Repr

/-- The stop line: its qualifier and the STOP condition (R123). -/
structure StopLine where
  qualifier : Qualifier
  condition : Bool
  deriving DecidableEq, Repr

/-! ### Zone protection (chapter 8) -/

/-- Zone states (R126). -/
inductive ZoneState where
  | normal | held | unloading | unloaded | reloading | dumped
  deriving DecidableEq, Repr

/-- Kinds of alarm entry (R128). -/
inductive EntryKind where
  | source | overflow
  deriving DecidableEq, Repr

/-- An alarm entry (R128). -/
structure Entry where
  tag : Half
  kind : EntryKind
  /-- the raising source; for an overflow entry, the source that overflowed last -/
  source : Source
  action : Action
  method : Method
  seconds : Half
  /-- clear-timer remaining, in ms -/
  timer : Word
  /-- the condition is active -/
  condition : Bool
  repeats : Byte
  stamp : Word
  cycle : Cycle40
  deriving DecidableEq, Repr

/-- A zone record (R126). -/
structure Zone where
  state : ZoneState
  isolate : Bool
  unloadRate : Half
  reloadRate : Half
  /-- the alarm list, oldest first -/
  entries : List Entry
  deriving DecidableEq, Repr

/-! ### Record queue (chapter 9) -/

/-- Snapshot triggers (R158). -/
inductive Trigger where
  | auto | director | logger
  deriving DecidableEq, Repr

/-- A gauge entry of a snapshot (R158); `none` extremes are EMPTY. -/
structure SnapGauge where
  gauge : Fin 64
  extremes : Option Extremes
  fault : Bool
  sat : Bool
  deriving DecidableEq, Repr

/-- A channel entry of a snapshot (R158). -/
structure SnapChannel where
  setpoint : Option Half
  force : Option Half
  zone : ZoneState
  deriving DecidableEq, Repr

/-- The bodies of the record kinds (R151). The kind of an ALARM_CLEARED body says whether the entry removed was the overflow
entry, whose source is then given as OVERFLOW (R137). -/
inductive Body where
  | snapshot (trigger : Trigger) (gen : GenState) (block : Option (Fin 64)) (gauges : List SnapGauge)
      (channels : Vector SnapChannel 8)
  | alarmRaised (zone : Fin 4) (tag : Half) (source : Source) (action : Action) (repeats : Byte) (after : ZoneState)
  | alarmCleared (zone : Fin 4) (tag : Half) (kind : EntryKind) (source : Source) (method : Method) (after : ZoneState)
  | zoneChange (zone : Fin 4) (before after : ZoneState)
  | program (block : Fin 64) (kind : BlockKind) (gen : GenState) (reason : Reason)
  | commit (outcome : CommitOutcome)
  deriving DecidableEq, Repr

/-- A record: its sequence number, time stamp, cycle count and body, whose constructor is the record's kind (R150). -/
structure Record where
  seq : Half
  stamp : Word
  cycle : Cycle40
  body : Body
  deriving DecidableEq, Repr

/-- The record queue (R150 to R161). -/
structure Queue where
  /-- the records held, oldest first -/
  records : List Record
  nextSeq : Half
  lost : Bool
  logReady : Bool
  on : Nat
  off : Nat
  /-- the automatic snapshot interval N -/
  interval : Half
  autoCount : Half
  suspended : Bool
  deriving DecidableEq, Repr

end Sys2Proof.Machine
end

