-- ==== Sys2Proof/Machine/Defaults.lean ====
section
/-! DEFINITION. The values each block's state takes after hardware reset, and after REINIT where REINIT returns it to them
(R16, R38, R57, R74, R93, R114, R125, R149, R163). -/
namespace Sys2Proof.Machine

/-- The bit of an event in an event set (R164). -/
def Event.bit : Event → BitVec 7
  | .restart => 0b0000001#7
  | .alarm => 0b0000010#7
  | .zoneChange => 0b0000100#7
  | .genChange => 0b0001000#7
  | .commitDone => 0b0010000#7
  | .logReady => 0b0100000#7
  | .ownLate => 0b1000000#7

/-- A window context in IDLE with nothing kept (R16), its select line at the given level. -/
def Window.idle (selected : Bool) : Window :=
  { selected := selected, phase := .idle, code := 0#8, lengthHigh := none, length := 0#16, expected := 0, args := []
    answer := none, unsent := [], sdo := none }

/-- A port after hardware reset (R16), its select line at the given level, which the reference leaves open (DESIGN CHOICE, unsafe,
notes/assumptions/10.md). -/
def Port.reset (selected : Bool) : Port :=
  { window := Window.idle selected, latched := Event.restart.bit, mask := 0#7 }

/-- The load generator after hardware reset (R38); countdown, remaining count and endless mark have no meaning then (DESIGN CHOICE,
unsafe, notes/assumptions/21.md). -/
def Generator.reset : Generator :=
  { program := Vector.replicate 64 .stop, loops := Vector.replicate 64 0#16, startIndex := 0, state := .stopped
    current := none, countdown := 0#32, remaining := 0#32, endless := false, phase := 0#32, mean := 0#16, cycles := 0#40
    requestedPause := false, pendingAdvance := false, pendingStop := false, lastReason := .stop }

/-- The default protection fields of channel c (R58); its zone is c ÷ 2. -/
def Channel.default (c : Fin 8) : Channel :=
  { fmin := 0#16, fmax := 0#16, rmax := 0#16, ul := 0#16, tol := 32767#16, k := 15, fabs := 0#16, smin := 0#16
    smax := 0#16, trackingAction := .holdZone, overforceAction := .unloadZone, strokeAction := .unloadZone
    method := .manual, seconds := Config.defaultSeconds, zone := ⟨c.val / 2, by omega⟩ }

/-- A channel output record after reset (R57). -/
def Output.reset : Output :=
  { setpoint := 0#16, held := 0#16, clamped := false, slewing := false }

/-- Both load sets after reset (R74). -/
def LoadSet.reset : LoadSet :=
  { share := Vector.replicate 8 0#16, offset := Vector.replicate 8 0#16, ascale := 1024#16 }

/-- A channel supervision record after reset (R93). -/
def Supervision.reset : Supervision :=
  { handedOut := none, force := none, stroke := none, misses := 0, tracking := false, overforce := false
    strokeOut := false }

/-- A frame record after reset (R85, R93). -/
def FrameRec.reset : FrameRec :=
  { period := 0#16, lateAction := .holdZone, lostAction := .dumpZone, tripAction := .unloadZone, method := .manual
    seconds := Config.defaultSeconds, dog := .unwatched, remaining := 0#16, late := false, lost := false, trip := false
    tripReason := 0#8 }

/-- The default configuration of gauge g (R95); its zone is g ÷ 16. -/
def GaugeConfig.default (g : Fin 64) : GaugeConfig :=
  { enabled := false, zero := 0#24, scale := 0#16, lo := BitVec.ofInt 16 (-32767), hi := 32767#16, n := 1
    staleTime := 0#16, driftLimit := 0#16, m := 3, zone := ⟨g.val / 16, by omega⟩, windowAction := .report
    faultAction := .report, driftAction := .report, method := .auto, seconds := Config.defaultSeconds }

/-- The running fields of a gauge as R97 sets them afresh, with the stale timer OFF; also their reset values (R114). -/
def GaugeRun.fresh : GaugeRun :=
  { lastRaw := none, current := none, currentSat := false, fault := none, window := false, outCount := 0, inCount := 0
    stale := .off, staleLeft := 0#16, running := none, runningSat := false, runningFault := false, last := none
    lastSat := false, lastFault := false, baseline := none, capture := false, driftCount := 0 }

/-- A gauge record after reset (R114). -/
def Gauge.reset (g : Fin 64) : Gauge :=
  { config := GaugeConfig.default g, run := GaugeRun.fresh }

/-- A gauge link receiver after hardware reset (R166); its count and bits have no meaning in WAITING (DESIGN CHOICE, unsafe,
notes/assumptions/21.md). -/
def Link.reset : Link :=
  { state := .waiting, count := 0, bits := 0#40 }

/-- A qualifier that has been restarted (R116, R122). -/
def Qualifier.fresh : Qualifier :=
  { level := none, last := none, run := 0 }

/-- The default configuration of crack input i (R115); its zone is i ÷ 4. -/
def CrackConfig.default (i : Fin 16) : CrackConfig :=
  { enable := false, sense := .levelHigh, n := 4, zone := ⟨i.val / 4, by omega⟩, action := .holdZone, method := .manual
    seconds := Config.defaultSeconds }

/-- A crack input record after reset (R125). -/
def Crack.reset (i : Fin 16) : Crack :=
  { config := CrackConfig.default i, qualifier := Qualifier.fresh, condition := false, detected := false }

/-- The stop line after reset (R125). -/
def StopLine.reset : StopLine :=
  { qualifier := Qualifier.fresh, condition := false }

/-- The RESTART entry of zone z with a given tag, time stamp and cycle count (R15, R149). -/
def restartEntry (z : Fin 4) (tag : Half) (stamp : Word) (cycle : Cycle40) : Entry :=
  { tag := tag, kind := .source, source := .restart z, action := .dumpZone, method := .manual
    seconds := Config.defaultSeconds, timer := 0#32, condition := false, repeats := 1#8, stamp := stamp, cycle := cycle }

/-- A zone record in DUMPED with default fields and the given list (R126, R149). -/
def Zone.dumpedWith (entries : List Entry) : Zone :=
  { state := .dumped, isolate := false, unloadRate := 1#16, reloadRate := 1#16, entries := entries }

/-- Zone z after hardware reset: one RESTART entry with tag z + 1 (R149). -/
def Zone.reset (z : Fin 4) : Zone :=
  Zone.dumpedWith [restartEntry z (BitVec.ofNat 16 (z.val + 1)) 0#32 0#40]

/-- The record queue after hardware reset (R163). -/
def Queue.reset : Queue :=
  { records := [], nextSeq := 0#16, lost := false, logReady := false, on := Config.defaultOn, off := Config.defaultOff
    interval := 0#16, autoCount := 0#16, suspended := false }

end Sys2Proof.Machine
end

