-- ==== Sys2Proof/Machine/State.lean ====
section
/-! DEFINITION. The part's whole state as plain data, the two ways a step can stop, and the state right after reset. The ATTN
lines, the DUMPn lines and the zone pause demand are functions of this state (Machine/Flags.lean). -/
namespace Sys2Proof.Machine

/-- The state of the LX-8. Every field but `pending` is the part's; `pending` is the queue of commands waiting to be taken. -/
structure State where
  /-- the millisecond time stamp (R1) -/
  stamp : Word
  /-- the six ports (R2, R8, R10) -/
  ports : Vector Port 6
  /-- the load generator (R17, R37) -/
  gen : Generator
  /-- the protection fields of CH0 to CH7 (R58) -/
  channels : Vector Channel 8
  /-- the channel output records (R41) -/
  outputs : Vector Output 8
  /-- the channel supervision records (R75) -/
  supervision : Vector Supervision 8
  /-- the active load set (R64) -/
  activeSet : LoadSet
  /-- the pending load set (R64) -/
  stagedSet : LoadSet
  /-- the commit state (R64) -/
  commit : CommitState
  /-- the frame records (R85) -/
  frames : Vector FrameRec 4
  /-- the gauge records (R95, R99) -/
  gauges : Vector Gauge 64
  /-- the gauge link receivers (R166) -/
  links : Vector Link 2
  /-- the crack input records (R115, R116) -/
  cracks : Vector Crack 16
  /-- the stop line (R123) -/
  stopLine : StopLine
  /-- the zone records (R126) -/
  zones : Vector Zone 4
  /-- the tag counter: the next tag to try (R132) -/
  tagCounter : Half
  /-- the STOP hold (R143) -/
  stopHold : Bool
  /-- the record queue (R150 to R161) -/
  queue : Queue
  /-- commands waiting to be taken, first in, first out -/
  pending : List Instr
  deriving DecidableEq, Repr

/-- Ways the machine stops with a fault. There are none: the reference gives an outcome to every request and every event, so
no command of this part stops it (safe: nothing is hidden behind a fault). -/
inductive Fault where
  deriving DecidableEq, Repr

/-- Reasons a command is refused by the model. -/
inductive Refusal where
  /-- raised by an arm of `exec` whose command has no meaning in the model (safe: such a command has no next state); no arm
  raises it -/
  | notModelled (mnemonic : String)
  deriving DecidableEq, Repr

/-- The part right after hardware reset: R1, R16, R38, R57, R74, R93, R114, R125, R149, R163 and R166. -/
def State.reset : State :=
  { stamp := 0#32
    ports := Vector.replicate 6 (Port.reset false)
    gen := Generator.reset
    channels := Vector.ofFn Channel.default
    outputs := Vector.replicate 8 Output.reset
    supervision := Vector.replicate 8 Supervision.reset
    activeSet := LoadSet.reset
    stagedSet := LoadSet.reset
    commit := .none
    frames := Vector.replicate 4 FrameRec.reset
    gauges := Vector.ofFn Gauge.reset
    links := Vector.replicate 2 Link.reset
    cracks := Vector.ofFn Crack.reset
    stopLine := StopLine.reset
    zones := Vector.ofFn Zone.reset
    tagCounter := 5#16
    stopHold := false
    queue := Queue.reset
    pending := [] }

end Sys2Proof.Machine
end

