-- ==== Sys2Proof/Machine/Operands.lean ====
section
/-! DEFINITION. The operand forms of the requests (R164): how an argument byte names a value of an enumeration, a yes or no, a
number within a range, and how the argument blocks are checked and clamped into the records they write. `none` is the refusal
RANGE of R164 or of the owning rule. -/
namespace Sys2Proof.Machine

/-- A number below n as an index; none is out of range. -/
def index? (n : Nat) (b : Byte) : Option (Fin n) :=
  if h : b.toNat < n then some ⟨b.toNat, h⟩ else none

/-- Yes/no: 00h is no and 01h is yes, any other value is refused RANGE (R164). -/
def flag? (b : Byte) : Option Bool :=
  if b = 0#8 then some false else if b = 1#8 then some true else none

/-- The action a code names (R164). -/
def action? (b : Byte) : Option Action :=
  match b.toNat with
  | 0 => some .report | 1 => some .holdZone | 2 => some .holdAll | 3 => some .unloadZone
  | 4 => some .unloadAll | 5 => some .dumpZone | 6 => some .dumpAll | _ => none

/-- The release method a code names (R164). -/
def method? (b : Byte) : Option Method :=
  match b.toNat with
  | 0 => some .manual | 1 => some .auto | 2 => some .timed | 3 => some .boundary | _ => none

/-- The sense a code names (R164). -/
def sense? (b : Byte) : Option Sense :=
  match b.toNat with
  | 0 => some .levelHigh | 1 => some .levelLow | 2 => some .rising | 3 => some .falling | 4 => some .anyChange | _ => none

/-- The STOP mode a code names (R24, R164). -/
def stopMode? (b : Byte) : Option StopMode :=
  match b.toNat with
  | 0 => some .now | 1 => some .atBoundary | _ => none

/-- The commit mode a code names (R67, R164). -/
def commitMode? (b : Byte) : Option CommitMode :=
  match b.toNat with
  | 0 => some .now | 1 => some .boundary | _ => none

/-- Timed seconds: 0 and above 3600 are refused RANGE (R59, R86, R96, R121). -/
def seconds? (x : Half) : Option Half :=
  if x.toNat = 0 ∨ Config.maxSeconds < x.toNat then none else some x

/-- A count of 1 to 15: 0 is clamped to 1, above 15 is refused RANGE (R59, R96, R121). -/
def count15? (b : Byte) : Option Nat :=
  if 15 < b.toNat then none else if b.toNat = 0 then some 1 else some b.toNat

/-- A signed field that may not be below 0 (R59, R96). -/
def natural? (x : Half) : Option Half :=
  if x.toInt < 0 then none else some x

/-- A signed field that may not be below 1: tol (R59). -/
def positive? (x : Half) : Option Half :=
  if x.toInt < 1 then none else some x

/-- A strain limit: below −32767 is refused RANGE (R96). -/
def strain? (x : Half) : Option Half :=
  if x.toInt < -32767 then none else some x

/-- A zone ramp rate, sent unsigned: outside 1..32767 is refused RANGE (R127, section 10.3). -/
def rate? (x : Half) : Option Half :=
  if x.toNat = 0 ∨ 32767 < x.toNat then none else some x

/-- The block WRITE_BLOCK stores, its frequency word clamped (R17, R18, section 10.3). -/
def block? (a : BlockArgs) : Option Block :=
  match a.kind.toNat with
  | 0 => some .stop
  | 1 =>
    let rate : Half := a.body.extractLsb' 16 16
    if rate.toNat = 0 ∨ 32767 < rate.toNat then none else some (.ramp a.head rate)
  | 2 => if a.body.toNat = 0 ∨ Config.maxDwell < a.body.toNat then none else some (.dwell a.body)
  | 3 =>
    if a.head.toInt < 0 ∨ a.body.toNat = 0 then none
    else some (.cycle a.head (if Config.maxFrequency < a.body.toNat then BitVec.ofNat 32 Config.maxFrequency else a.body) a.tail)
  | 4 =>
    let repeats : Half := a.body.extractLsb' 16 16
    match index? 64 (a.head.extractLsb' 8 8) with
    | some j => if repeats.toNat = 0 then none else some (.jump j repeats)
    | none => none
  | _ => none

/-- The channel named and the protection fields given by SET_CHANNEL, checked for RANGE and clamped (R59). -/
def channelOf? (a : ChannelArgs) : Option (Fin 8 × Channel) :=
  match index? 8 a.channel, natural? a.rmax, positive? a.tol, count15? a.k, natural? a.fabs with
  | some c, some rmax, some tol, some k, some fabs =>
    match action? a.trackingAction, action? a.overforceAction, action? a.strokeAction, method? a.method with
    | some ta, some oa, some sa, some me =>
      match seconds? a.seconds, index? 4 a.zone with
      | some seconds, some zone =>
        some (c,
          { fmin := a.fmin, fmax := a.fmax, rmax := rmax, ul := a.ul, tol := tol, k := k, fabs := fabs, smin := a.smin
            smax := a.smax, trackingAction := ta, overforceAction := oa, strokeAction := sa, method := me
            seconds := seconds, zone := zone })
      | _, _ => none
    | _, _, _, _ => none
  | _, _, _, _, _ => none

/-- SET_CHANNEL fields refused CONFLICT (R59). -/
def Channel.conflicting (ch : Channel) : Bool :=
  ch.fmax.toInt < ch.fmin.toInt || ch.ul.toInt < ch.fmin.toInt || ch.fmax.toInt < ch.ul.toInt
    || ch.smax.toInt < ch.smin.toInt
    || (ch.method == .boundary
      && (ch.trackingAction != .report || ch.overforceAction != .report || ch.strokeAction != .report))

/-- The configuration fields SET_FRAME writes (R86). -/
structure FrameFields where
  period : Half
  lateAction : Action
  lostAction : Action
  tripAction : Action
  method : Method
  seconds : Half
  deriving DecidableEq, Repr

/-- The frame named and the fields given by SET_FRAME, checked for RANGE (R86). -/
def frameOf? (a : FrameArgs) : Option (Fin 4 × FrameFields) :=
  match index? 4 a.frame, action? a.lateAction, action? a.lostAction, action? a.tripAction, method? a.method,
      seconds? a.seconds with
  | some f, some la, some lo, some tr, some me, some seconds =>
    some (f, { period := a.period, lateAction := la, lostAction := lo, tripAction := tr, method := me, seconds := seconds })
  | _, _, _, _, _, _ => none

/-- SET_FRAME fields refused CONFLICT (R86). -/
def FrameFields.conflicting (x : FrameFields) : Bool :=
  x.method == .boundary && (x.lateAction != .report || x.lostAction != .report || x.tripAction != .report)

/-- The gauge named and the configuration given by SET_GAUGE, checked for RANGE and clamped (R96). -/
def gaugeOf? (a : GaugeArgs) : Option (Fin 64 × GaugeConfig) :=
  match index? 64 a.gauge, flag? a.enabled, strain? a.lo, strain? a.hi, count15? a.n, count15? a.m with
  | some g, some enabled, some lo, some hi, some n, some m =>
    if 1000 < a.staleTime.toNat then none
    else
      match natural? a.driftLimit, index? 4 a.zone, seconds? a.seconds with
      | some driftLimit, some zone, some seconds =>
        match action? a.windowAction, action? a.faultAction, action? a.driftAction, method? a.method with
        | some wa, some fa, some da, some me =>
          some (g,
            { enabled := enabled, zero := a.zero, scale := a.scale, lo := lo, hi := hi, n := n
              staleTime := a.staleTime, driftLimit := driftLimit, m := m, zone := zone, windowAction := wa
              faultAction := fa, driftAction := da, method := me, seconds := seconds })
        | _, _, _, _ => none
      | _, _, _ => none
  | _, _, _, _, _, _ => none

/-- SET_GAUGE fields refused CONFLICT (R96). -/
def GaugeConfig.conflicting (x : GaugeConfig) : Bool :=
  x.hi.toInt < x.lo.toInt
    || (x.method == .boundary && (x.windowAction != .report || x.faultAction != .report || x.driftAction != .report))
    || (x.method == .auto && x.driftAction != .report)

/-- The input named and the configuration given by SET_CRACK, checked for RANGE and clamped (R121). -/
def crackOf? (a : CrackArgs) : Option (Fin 16 × CrackConfig) :=
  match index? 16 a.input, flag? a.enable, sense? a.sense, count15? a.n, index? 4 a.zone with
  | some i, some enable, some sense, some n, some zone =>
    match action? a.action, method? a.method, seconds? a.seconds with
    | some action, some me, some seconds =>
      some (i,
        { enable := enable, sense := sense, n := n, zone := zone, action := action, method := me, seconds := seconds })
    | _, _, _ => none
  | _, _, _, _, _ => none

/-- Whether a sense is one of the LEVEL senses, whose condition lasts (R117). -/
def Sense.lasting : Sense → Bool
  | .levelHigh | .levelLow => true
  | .rising | .falling | .anyChange => false

/-- SET_CRACK fields refused CONFLICT (R121). -/
def CrackConfig.conflicting (x : CrackConfig) : Bool :=
  ((x.method == .auto || x.method == .boundary) && !x.sense.lasting)
    || (x.method == .boundary && x.action != .report)

/-- The thresholds and interval SET_QUEUE stores: an ON threshold outside 1..128 is refused RANGE, an OFF threshold at or above
ON is clamped to ON − 1 (R155). -/
def thresholds? (on off : Byte) : Option (Nat × Nat) :=
  if on.toNat = 0 ∨ Config.queueCapacity < on.toNat then none
  else some (on.toNat, min off.toNat (on.toNat - 1))

end Sys2Proof.Machine
end

