-- ==== Sys2Proof/Machine/Flags.lean ====
section
/-! DEFINITION. The flags, sets and lines of the part that are functions of its state: event status and the ATTN lines (R8 to
R10), the DUMPn lines (R145), the zone pause demand (R146), protective entries (R130), and the flag bytes of answers (R164). That
these are functions and not fields is DEDUCED (safe, notes/assumptions/12.md and 13.md). -/
namespace Sys2Proof.Machine

/-- The event status of a port: its latched events, with LOG_READY exactly while the queue's condition is set (R9). -/
def State.eventStatus (s : State) (p : PortId) : BitVec 7 :=
  (s.ports[portIndex p].latched &&& ~~~ Event.logReady.bit)
    ||| (if s.queue.logReady then Event.logReady.bit else 0#7)

/-- ATTNx is low: at least one event is both in the port's status and in its mask (R10). -/
def State.attnLow (s : State) (p : PortId) : Bool :=
  (s.eventStatus p &&& s.ports[portIndex p].mask) != 0#7

/-- The DUMPn line of a zone is asserted (R145): the zone is in DUMPED. -/
def State.dumpAsserted (s : State) (z : Fin 4) : Bool :=
  s.zones[z].state == .dumped

/-- A zone holds the pause demand: it is not isolated and away from NORMAL, or it is RELOADING (R146). -/
def Zone.demandsPause (z : Zone) : Bool :=
  (!z.isolate && z.state != .normal) || z.state == .reloading

/-- The zone pause demand to the load generator (R146). -/
def State.pauseDemand (s : State) : Bool :=
  s.zones[(0 : Fin 4)].demandsPause || s.zones[(1 : Fin 4)].demandsPause
    || s.zones[(2 : Fin 4)].demandsPause || s.zones[(3 : Fin 4)].demandsPause

/-- Every zone is NORMAL, as START requires (R22). -/
def State.allNormal (s : State) : Bool :=
  s.zones[(0 : Fin 4)].state == .normal && s.zones[(1 : Fin 4)].state == .normal
    && s.zones[(2 : Fin 4)].state == .normal && s.zones[(3 : Fin 4)].state == .normal

/-- The severity of an action (R130). -/
def Action.severity : Action → Nat
  | .report => 0
  | .holdZone | .holdAll => 1
  | .unloadZone | .unloadAll => 2
  | .dumpZone | .dumpAll => 3

/-- An action of the _ALL kind is placed in every zone (R130). -/
def Action.isAll : Action → Bool
  | .holdAll | .unloadAll | .dumpAll => true
  | .report | .holdZone | .unloadZone | .dumpZone => false

/-- An entry is protective when the severity of its action is above 0 (R130). -/
def Entry.protective (e : Entry) : Bool :=
  0 < e.action.severity

/-- The list holds a protective entry (R142). -/
def Zone.hasProtective (z : Zone) : Bool :=
  z.entries.any Entry.protective

/-- The source entries of a list (R131). -/
def Zone.sourceEntries (z : Zone) : List Entry :=
  z.entries.filter fun e => e.kind == .source

/-- The sine index: the phase accumulator divided by 2^20 (R29). -/
def Generator.sineIndex (g : Generator) : Nat :=
  g.phase.toNat / 2 ^ 20

/-- The generator is executing: RUNNING or PAUSED (section 2.2). -/
def Generator.executing (g : Generator) : Bool :=
  g.state == .running || g.state == .paused

/-- A byte whose bits are the given flags, bit 0 first, unused bits 0 (R164). -/
def flagByte (flags : List Bool) : Byte :=
  flags.foldr (fun b acc => (acc <<< 1) ||| (if b then 1#8 else 0#8)) 0#8

/-- Channel flags: 0 CLAMPED, 1 SLEWING (R164). -/
def Output.flags (o : Output) : Byte :=
  flagByte [o.clamped, o.slewing]

/-- Channel conditions: 0 TRACKING, 1 OVERFORCE, 2 STROKE (R164). -/
def Supervision.conditions (v : Supervision) : Byte :=
  flagByte [v.tracking, v.overforce, v.strokeOut]

/-- Frame conditions: 0 FRAME_LATE, 1 FRAME_LOST, 2 FRAME_TRIP (R164). -/
def FrameRec.conditions (f : FrameRec) : Byte :=
  flagByte [f.late, f.lost, f.trip]

/-- Gauge flags: 0 current SAT, 1 WINDOW, 2 last-cycle EMPTY, 3 last-cycle SAT, 4 last-cycle FAULT, 5 baseline valid, 6 capture
pending (R164). -/
def GaugeRun.flags (r : GaugeRun) : Byte :=
  flagByte [r.currentSat, r.window, r.last.isNone, r.lastSat, r.lastFault, r.baseline.isSome, r.capture]

/-- Crack flags: 0 condition, 1 DETECTED (R164). -/
def Crack.flags (c : Crack) : Byte :=
  flagByte [c.condition, c.detected]

/-- The sixteen DETECTED latches as a crack input set, bit i for CKi (R119, R164). -/
def State.latchSet (s : State) : Half :=
  (List.finRange 16).foldr (fun i acc => acc ||| (if s.cracks[i].detected then 1#16 <<< i.val else 0#16)) 0#16

/-- The mode of a channel whose zone is in a given state (R82). -/
def ZoneState.mode : ZoneState → Mode
  | .normal => .follow
  | .held => .hold
  | .unloading | .unloaded => .unload
  | .reloading => .reload
  | .dumped => .dump

/-- The state of a channel's zone. -/
def State.channelZone (s : State) (c : Fin 8) : ZoneState :=
  s.zones[s.channels[c].zone].state

/-- A channel's setpoint as others read it: none while its zone is DUMPED (R41, R55). -/
def State.setpoint? (s : State) (c : Fin 8) : Option Half :=
  if s.channelZone c = .dumped then none else some s.outputs[c].setpoint

end Sys2Proof.Machine
end

