-- ==== Sys2Proof/Machine/Wire.lean ====
section
/-! DEFINITION. How values are sent in answers and records: field encodings (R164), the shared blocks of section 10.4 and the
record layouts of section 10.5. -/
namespace Sys2Proof.Machine

/-- A number sent in one byte. -/
def byteOf (n : Nat) : Byte := BitVec.ofNat 8 n

/-- A yes or no sent in one byte (R164). -/
def yes (b : Bool) : Byte := if b then 1#8 else 0#8

/-- The cycle counter, sent in five bytes (R164). -/
def bytes5 (x : Cycle40) : List Byte :=
  [x.extractLsb' 32 8, x.extractLsb' 24 8, x.extractLsb' 16 8, x.extractLsb' 8 8, x.extractLsb' 0 8]

/-- An optional two-byte value: a presence byte and the value, 0 when none (R164). -/
def opt2 : Option Half → List Byte
  | some x => 1#8 :: bytes2 x
  | none => [0#8, 0#8, 0#8]

/-- An optional three-byte value (R164). -/
def opt3 : Option Raw24 → List Byte
  | some x => 1#8 :: bytes3 x
  | none => [0#8, 0#8, 0#8, 0#8]

/-- A block index that may be none: FFh for none (R164). -/
def blockIndex : Option (Fin 64) → Byte
  | some i => byteOf i.val
  | none => 0xFF#8

/-- Result codes (R164). -/
def Result.code : Result → Byte
  | .ok => 0x00#8 | .denied => 0x01#8 | .badreq => 0x02#8 | .range => 0x03#8 | .busy => 0x04#8 | .state => 0x05#8
  | .conflict => 0x06#8 | .notfound => 0x07#8 | .empty => 0x08#8

/-- Generator states (R164). -/
def GenState.code : GenState → Byte
  | .stopped => 0x00#8 | .running => 0x01#8 | .paused => 0x02#8 | .done => 0x03#8

/-- Block kinds (R164). -/
def BlockKind.code : BlockKind → Byte
  | .stop => 0x00#8 | .ramp => 0x01#8 | .dwell => 0x02#8 | .cycle => 0x03#8 | .jump => 0x04#8

/-- PROGRAM reasons (R164). -/
def Reason.code : Reason → Byte
  | .start => 0x00#8 | .next => 0x01#8 | .jump => 0x02#8 | .advance => 0x03#8 | .stop => 0x04#8 | .done => 0x05#8
  | .loopLimit => 0x06#8 | .pause => 0x07#8 | .resume => 0x08#8

/-- Commit states (R164). -/
def CommitState.code : CommitState → Byte
  | .none => 0x00#8 | .armedNow => 0x01#8 | .armedBoundary => 0x02#8

/-- Commit outcomes (R164). -/
def CommitOutcome.code : CommitOutcome → Byte
  | .none => 0x00#8 | .appliedNow => 0x01#8 | .appliedBoundary => 0x02#8 | .cancelled => 0x03#8

/-- Zone states (R164). -/
def ZoneState.code : ZoneState → Byte
  | .normal => 0x00#8 | .held => 0x01#8 | .unloading => 0x02#8 | .unloaded => 0x03#8 | .reloading => 0x04#8
  | .dumped => 0x05#8

/-- Modes (R164). -/
def Mode.code : Mode → Byte
  | .follow => 0x00#8 | .hold => 0x01#8 | .unload => 0x02#8 | .reload => 0x03#8 | .dump => 0x04#8

/-- Actions (R164). -/
def Action.code : Action → Byte
  | .report => 0x00#8 | .holdZone => 0x01#8 | .holdAll => 0x02#8 | .unloadZone => 0x03#8 | .unloadAll => 0x04#8
  | .dumpZone => 0x05#8 | .dumpAll => 0x06#8

/-- Release methods (R164). -/
def Method.code : Method → Byte
  | .manual => 0x00#8 | .auto => 0x01#8 | .timed => 0x02#8 | .boundary => 0x03#8

/-- Source kinds (R164). -/
def Source.kindCode : Source → Byte
  | .restart _ => 0x00#8 | .stop => 0x01#8 | .crack _ => 0x02#8 | .gaugeWindow _ => 0x03#8 | .gaugeFault _ => 0x04#8
  | .gaugeDrift _ => 0x05#8 | .tracking _ => 0x06#8 | .overforce _ => 0x07#8 | .stroke _ => 0x08#8
  | .frameLate _ => 0x09#8 | .frameLost _ => 0x0A#8 | .frameTrip _ => 0x0B#8

/-- The code of the source kind OVERFLOW (R164). -/
def overflowKindCode : Byte := 0x0C#8

/-- The index of a source (R129); that of STOP is 0. -/
def Source.index : Source → Nat
  | .restart z => z.val | .stop => 0 | .crack i => i.val | .gaugeWindow g => g.val | .gaugeFault g => g.val
  | .gaugeDrift g => g.val | .tracking c => c.val | .overforce c => c.val | .stroke c => c.val | .frameLate f => f.val
  | .frameLost f => f.val | .frameTrip f => f.val

/-- Source kind and index as sent (section 10.4). -/
def Source.bytes (x : Source) : List Byte :=
  [x.kindCode, byteOf x.index]

/-- Entry kinds (R164). -/
def EntryKind.code : EntryKind → Byte
  | .source => 0x00#8 | .overflow => 0x01#8

/-- Watchdog states (R164). -/
def DogState.code : DogState → Byte
  | .unwatched => 0x00#8 | .alive => 0x01#8 | .late => 0x02#8 | .lost => 0x03#8

/-- The FAULT condition with its cause (R164). -/
def faultCode : Option FaultCause → Byte
  | none => 0x00#8 | some .over => 0x01#8 | some .open => 0x02#8 | some .stale => 0x03#8

/-- Stale timer states (R164). -/
def StaleState.code : StaleState → Byte
  | .off => 0x00#8 | .running => 0x01#8 | .expired => 0x02#8

/-- Senses (R164). -/
def Sense.code : Sense → Byte
  | .levelHigh => 0x00#8 | .levelLow => 0x01#8 | .rising => 0x02#8 | .falling => 0x03#8 | .anyChange => 0x04#8

/-- A qualified level or last sample, 00h for UNKNOWN or none (R164). -/
def levelCode : Option Level → Byte
  | none => 0x00#8 | some .low => 0x01#8 | some .high => 0x02#8

/-- Snapshot triggers (R164). -/
def Trigger.code : Trigger → Byte
  | .auto => 0x00#8 | .director => 0x01#8 | .logger => 0x02#8

/-- An event set in one byte (R164). -/
def eventByte (e : BitVec 7) : Byte := e.setWidth 8

/-- The ten field bytes of a block, unused bytes 0 (R164, section 10.3). -/
def Block.fieldBytes : Block → List Byte
  | .stop => bytes2 0#16 ++ bytes4 0#32 ++ bytes4 0#32
  | .ramp t r => bytes2 t ++ bytes2 r ++ bytes2 0#16 ++ bytes4 0#32
  | .dwell d => bytes2 0#16 ++ bytes4 d ++ bytes4 0#32
  | .cycle a f n => bytes2 a ++ bytes4 f ++ bytes4 n
  | .jump j k => [byteOf j.val, 0#8] ++ bytes2 k ++ bytes2 0#16 ++ bytes4 0#32

/-- PROTECTION (section 10.4). -/
def Channel.bytes (c : Fin 8) (ch : Channel) : List Byte :=
  [byteOf c.val] ++ bytes2 ch.fmin ++ bytes2 ch.fmax ++ bytes2 ch.rmax ++ bytes2 ch.ul ++ bytes2 ch.tol ++ [byteOf ch.k]
    ++ bytes2 ch.fabs ++ bytes2 ch.smin ++ bytes2 ch.smax
    ++ [ch.trackingAction.code, ch.overforceAction.code, ch.strokeAction.code, ch.method.code]
    ++ bytes2 ch.seconds ++ [byteOf ch.zone.val]

/-- FRAME RECORD (section 10.4). -/
def FrameRec.bytes (f : Fin 4) (r : FrameRec) : List Byte :=
  [byteOf f.val] ++ bytes2 r.period ++ [r.lateAction.code, r.lostAction.code, r.tripAction.code, r.method.code]
    ++ bytes2 r.seconds ++ [r.dog.code] ++ bytes2 r.remaining ++ [r.conditions, r.tripReason]

/-- GAUGE CONFIG (section 10.4). -/
def GaugeConfig.bytes (g : Fin 64) (x : GaugeConfig) : List Byte :=
  [byteOf g.val, yes x.enabled] ++ bytes3 x.zero ++ bytes2 x.scale ++ bytes2 x.lo ++ bytes2 x.hi ++ [byteOf x.n]
    ++ bytes2 x.staleTime ++ bytes2 x.driftLimit
    ++ [byteOf x.m, byteOf x.zone.val, x.windowAction.code, x.faultAction.code, x.driftAction.code, x.method.code]
    ++ bytes2 x.seconds

/-- A peak and a valley, both sent as 0 when EMPTY (section 10.4). -/
def extremeBytes : Option Extremes → List Byte
  | some e => bytes2 e.peak ++ bytes2 e.valley
  | none => bytes2 0#16 ++ bytes2 0#16

/-- GAUGE ENTRY (section 10.4). -/
def Gauge.bytes (g : Fin 64) (x : Gauge) : List Byte :=
  x.config.bytes g ++ opt3 x.run.lastRaw ++ opt2 x.run.current ++ [x.run.flags, faultCode x.run.fault]
    ++ [byteOf x.run.outCount, byteOf x.run.inCount, byteOf x.run.driftCount, x.run.stale.code] ++ bytes2 x.run.staleLeft
    ++ extremeBytes x.run.last ++ bytes2 (x.run.baseline.getD 0#16)

/-- CRACK INPUT (section 10.4). -/
def Crack.bytes (i : Fin 16) (c : Crack) : List Byte :=
  [byteOf i.val, yes c.config.enable, c.config.sense.code, byteOf c.config.n, byteOf c.config.zone.val,
    c.config.action.code, c.config.method.code] ++ bytes2 c.config.seconds
    ++ [levelCode c.qualifier.level, levelCode c.qualifier.last, byteOf c.qualifier.run, c.flags]

/-- ALARM ENTRY (section 10.4). -/
def Entry.bytes (e : Entry) : List Byte :=
  bytes2 e.tag ++ [e.kind.code] ++ e.source.bytes ++ [e.action.code, e.method.code] ++ bytes2 e.seconds ++ bytes4 e.timer
    ++ [yes e.condition, e.repeats] ++ bytes4 e.stamp ++ bytes5 e.cycle

/-- A gauge entry of a SNAPSHOT body; its flags are 0 EMPTY, 1 FAULT, 2 SAT (R164, section 10.5). -/
def SnapGauge.bytes (x : SnapGauge) : List Byte :=
  [byteOf x.gauge.val] ++ extremeBytes x.extremes ++ [flagByte [x.extremes.isNone, x.fault, x.sat]]

/-- A channel entry of a SNAPSHOT body (section 10.5). -/
def SnapChannel.bytes (x : SnapChannel) : List Byte :=
  opt2 x.setpoint ++ opt2 x.force ++ [x.zone.code]

/-- Record kinds (R164). -/
def Body.kindCode : Body → Byte
  | .snapshot _ _ _ _ _ => 0x01#8
  | .alarmRaised _ _ _ _ _ _ => 0x02#8
  | .alarmCleared _ _ _ _ _ _ => 0x03#8
  | .zoneChange _ _ _ => 0x04#8
  | .program _ _ _ _ => 0x05#8
  | .commit _ => 0x06#8

/-- The body of a record, in the order of section 10.5. The source index sent with the kind OVERFLOW is 0 (section 10.4). -/
def Body.bytes : Body → List Byte
  | .snapshot trigger gen block gauges channels =>
    [trigger.code, gen.code, blockIndex block, byteOf gauges.length] ++ gauges.flatMap SnapGauge.bytes
      ++ channels.toList.flatMap SnapChannel.bytes
  | .alarmRaised zone tag source action repeats after =>
    [byteOf zone.val] ++ bytes2 tag ++ source.bytes ++ [action.code, repeats, after.code]
  | .alarmCleared zone tag .source source method after =>
    [byteOf zone.val] ++ bytes2 tag ++ source.bytes ++ [method.code, after.code]
  | .alarmCleared zone tag .overflow _ method after =>
    [byteOf zone.val] ++ bytes2 tag ++ [overflowKindCode, 0#8] ++ [method.code, after.code]
  | .zoneChange zone before after => [byteOf zone.val, before.code, after.code]
  | .program block kind gen reason => [byteOf block.val, kind.code, gen.code, reason.code]
  | .commit outcome => [outcome.code]

/-- A record: its 14-byte header and its body (section 10.5). -/
def Record.bytes (r : Record) : List Byte :=
  [r.body.kindCode] ++ bytes2 r.seq ++ bytes4 r.stamp ++ bytes5 r.cycle
    ++ bytes2 (BitVec.ofNat 16 r.body.bytes.length) ++ r.body.bytes

/-- An answer: result code, answer length and body (R5, section 10.2). -/
def answerBytes (res : Result) (body : List Byte) : List Byte :=
  [res.code] ++ bytes2 (BitVec.ofNat 16 body.length) ++ body

end Sys2Proof.Machine
end

