-- ==== Sys2Proof/Machine/Ops.lean ====
section
/-! DEFINITION. The named operations over the part's state that every block shares: writing one field or one record, adding events
(R8), making and offering records (R150, R152), the generator's PROGRAM record and pause (R21, R35), the zone pause demand's
effect (R146), and serving a request at a port (R3, R5, R6). -/
namespace Sys2Proof.Machine

/-! ### Writing a field -/

/-- Replace `stamp`. -/
def State.setStamp (s : State) (x : Word) : State := { s with stamp := x }

/-- Replace `ports`. -/
def State.setPorts (s : State) (x : Vector Port 6) : State := { s with ports := x }

/-- Replace `gen`. -/
def State.setGen (s : State) (x : Generator) : State := { s with gen := x }

/-- Replace `channels`. -/
def State.setChannels (s : State) (x : Vector Channel 8) : State := { s with channels := x }

/-- Replace `outputs`. -/
def State.setOutputs (s : State) (x : Vector Output 8) : State := { s with outputs := x }

/-- Replace `supervision`. -/
def State.setSupervision (s : State) (x : Vector Supervision 8) : State := { s with supervision := x }

/-- Replace `activeSet`. -/
def State.setActiveSet (s : State) (x : LoadSet) : State := { s with activeSet := x }

/-- Replace `stagedSet`. -/
def State.setStagedSet (s : State) (x : LoadSet) : State := { s with stagedSet := x }

/-- Replace `commit`. -/
def State.setCommit (s : State) (x : CommitState) : State := { s with commit := x }

/-- Replace `frames`. -/
def State.setFrames (s : State) (x : Vector FrameRec 4) : State := { s with frames := x }

/-- Replace `gauges`. -/
def State.setGauges (s : State) (x : Vector Gauge 64) : State := { s with gauges := x }

/-- Replace `links`. -/
def State.setLinks (s : State) (x : Vector Link 2) : State := { s with links := x }

/-- Replace `cracks`. -/
def State.setCracks (s : State) (x : Vector Crack 16) : State := { s with cracks := x }

/-- Replace `stopLine`. -/
def State.setStopLine (s : State) (x : StopLine) : State := { s with stopLine := x }

/-- Replace `zones`. -/
def State.setZones (s : State) (x : Vector Zone 4) : State := { s with zones := x }

/-- Replace `tagCounter`. -/
def State.setTagCounter (s : State) (x : Half) : State := { s with tagCounter := x }

/-- Replace `stopHold`. -/
def State.setStopHold (s : State) (x : Bool) : State := { s with stopHold := x }

/-- Replace `queue`. -/
def State.setQueue (s : State) (x : Queue) : State := { s with queue := x }

/-- Replace `pending`. -/
def State.setPending (s : State) (x : List Instr) : State := { s with pending := x }

/-! ### Writing one record -/

/-- Change the port context of p. -/
def State.updPort (s : State) (p : PortId) (f : Port → Port) : State :=
  s.setPorts (s.ports.set (portIndex p) (f s.ports[portIndex p]))

/-- Change the channel supervision record of c. -/
def State.updSupervision (s : State) (c : Fin 8) (f : Supervision → Supervision) : State :=
  s.setSupervision (s.supervision.set c (f s.supervision[c]))

/-- Change the frame record of f. -/
def State.updFrame (s : State) (i : Fin 4) (f : FrameRec → FrameRec) : State :=
  s.setFrames (s.frames.set i (f s.frames[i]))

/-- Change the running fields of gauge g. -/
def State.updGauge (s : State) (g : Fin 64) (f : GaugeRun → GaugeRun) : State :=
  s.setGauges (s.gauges.set g { s.gauges[g] with run := f s.gauges[g].run })

/-- Change the record of crack input i. -/
def State.updCrack (s : State) (i : Fin 16) (f : Crack → Crack) : State :=
  s.setCracks (s.cracks.set i (f s.cracks[i]))

/-- Change the record of zone z. -/
def State.updZone (s : State) (z : Fin 4) (f : Zone → Zone) : State :=
  s.setZones (s.zones.set z (f s.zones[z]))

/-- Change the receiver of a gauge link. -/
def State.updLink (s : State) (l : Fin 2) (f : Link → Link) : State :=
  s.setLinks (s.links.set l (f s.links[l]))

/-! ### Events (R8) -/

/-- Add an event to the event status of every port (R8). -/
def State.addEvent (s : State) (e : Event) : State :=
  s.setPorts (s.ports.map fun q => { q with latched := q.latched ||| e.bit })

/-- Add an event to the event status of one port (R8): OWN_LATE at the frame's own port. -/
def State.addEventAt (s : State) (p : PortId) (e : Event) : State :=
  s.updPort p fun q => { q with latched := q.latched ||| e.bit }

/-! ### Records (R150, R152, R154) -/

/-- The safety kinds (R151). -/
def Body.isSafety : Body → Bool
  | .alarmRaised _ _ _ _ _ _ | .alarmCleared _ _ _ _ _ _ | .zoneChange _ _ _ => true
  | .snapshot _ _ _ _ _ | .program _ _ _ _ | .commit _ => false

/-- The record is a SNAPSHOT (R151). -/
def Record.isSnapshot (r : Record) : Bool :=
  match r.body with
  | .snapshot _ _ _ _ _ => true
  | .alarmRaised _ _ _ _ _ _ | .alarmCleared _ _ _ _ _ _ | .zoneChange _ _ _ | .program _ _ _ _ | .commit _ => false

/-- A record offered now has a place in the queue: it is not full, or a safety record finds a SNAPSHOT to evict (R152). -/
def Queue.admits (q : Queue) (r : Record) : Bool :=
  q.records.length < Config.queueCapacity || (r.body.isSafety && q.records.any Record.isSnapshot)

/-- Offer a record to the queue: appended, admitted by evicting the oldest SNAPSHOT, or dropped (R152). An admission that
raises the count to ON or above sets LOG_READY (R154). -/
def Queue.offer (q : Queue) (r : Record) : Queue :=
  if q.records.length < Config.queueCapacity then
    { q with
      records := q.records ++ [r]
      logReady := q.logReady || decide (q.on ≤ q.records.length + 1) }
  else if q.admits r then
    { q with records := q.records.eraseP Record.isSnapshot ++ [r], lost := true }
  else { q with lost := true }

/-- Make a record of an event and offer it: it takes the next sequence number, admitted or not (R150, R152). -/
def State.record (s : State) (b : Body) : State :=
  s.setQueue
    (({ s.queue with nextSeq := s.queue.nextSeq + 1#16 }).offer
      { seq := s.queue.nextSeq, stamp := s.stamp, cycle := s.gen.cycles, body := b })

/-! ### The generator's records and its pause (R21, R35, R36) -/

/-- The kind of the block at an index of the program table. -/
def Generator.kindAt (g : Generator) (i : Fin 64) : BlockKind :=
  g.program[i].kind

/-- The block at the current index, if one governs (section 2.2). -/
def Generator.currentBlock (g : Generator) : Option Block :=
  g.current.map fun i => g.program[i]

/-- Make a PROGRAM record for the block at an index, with the generator state as it now stands, and add GEN_CHANGE at every
port (R35, R36). -/
def State.programRecord (s : State) (block : Fin 64) (reason : Reason) : State :=
  ((s.setGen { s.gen with lastReason := reason }).record
    (.program block (s.gen.kindAt block) s.gen.state reason)).addEvent .genChange

/-- Enter a generator state with a PROGRAM record naming the current block (R21, R35). -/
def State.moveGenerator (s : State) (state : GenState) (reason : Reason) : State :=
  (s.setGen { s.gen with state := state }).programRecord (s.gen.current.getD 0) reason

/-- The generator acts on its two pause inputs as they now stand: from RUNNING it enters PAUSED when either is present, from
PAUSED it enters RUNNING when both are absent, and in STOPPED and DONE nothing happens (R21, R146). -/
def State.syncPause (s : State) : State :=
  match s.gen.state with
  | .running => if s.pauseDemand || s.gen.requestedPause then s.moveGenerator .paused .pause else s
  | .paused => if s.pauseDemand || s.gen.requestedPause then s else s.moveGenerator .running .resume
  | .stopped | .done => s

/-! ### Commits (R68, R69, R72) -/

/-- An armed commit applies: the active set becomes the pending set, the commit state NONE, with a COMMIT record and COMMIT_DONE
at every port (R68, R69). -/
def State.applyCommit (s : State) (outcome : CommitOutcome) : State :=
  (((s.setActiveSet s.stagedSet).setCommit .none).record (.commit outcome)).addEvent .commitDone

/-! ### Requests at a port (R3, R5, R6) -/

/-- The window context of a port whose request has just been taken: in ANSWER with its answer built, the last byte clocked
having been answered FFh (R2, R3). A request row stands for the whole window up to this moment (DESIGN CHOICE, safe,
notes/assumptions/4.md). -/
def Window.answering (code : Byte) (length : Half) (answer : List Byte) : Window :=
  { selected := true, phase := .answer, code := code, lengthHigh := none, length := length, expected := 0, args := []
    answer := some answer, unsent := answer, sdo := some Config.fillerByte }

/-- Put the answer of a request into the port's window (R3, R6). -/
def State.answer (s : State) (p : PortId) (code : Byte) (length : Half) (res : Result) (body : List Byte) : State :=
  s.updPort p fun q => { q with window := Window.answering code length (answerBytes res body) }

/-- What a request's own rule makes of it: a refusal, or the state it leaves and the answer body (R5). -/
abbrev Reply := Except Result (State × List Byte)

/-- Serve a request at a port: the access right first, then the request's own checks, then its effect; a refused request
changes nothing and its answer has no body (R5, R7). -/
def State.serve (s : State) (p : PortId) (r : ReqName) (argLength : Nat) (act : State → Reply) : State :=
  if hasRight p r then
    match act s with
    | .ok (s', body) => s'.answer p (reqCode r) (BitVec.ofNat 16 argLength) .ok body
    | .error e => s.answer p (reqCode r) (BitVec.ofNat 16 argLength) e []
  else s.answer p (reqCode r) (BitVec.ofNat 16 argLength) .denied []

end Sys2Proof.Machine
end

