-- ==== Sys2Proof/Machine/Alarms.lean ====
section
/-! DEFINITION. Zone protection's shared operations (chapter 8): tags, raising an alarm, escalation, clearing a source, removing
an entry and the return toward service. The strain unit, the frame supervisor and the crack watch hand their raises and clears
to these. -/
namespace Sys2Proof.Machine

/-! ### Tags (R132) -/

/-- The tag after t: 65535 is followed by 1 (R132). -/
def succTag (t : Half) : Half :=
  if t = 65535#16 then 1#16 else t + 1#16

/-- The first tag at or after t that is not 0 and not in use, looking at most `fuel` tags ahead (R132). -/
def freeTag (used : List Half) : Nat → Half → Half
  | 0, t => t
  | fuel + 1, t => if t = 0#16 ∨ t ∈ used then freeTag used fuel (succTag t) else t

/-- The tags of the entries of the four lists (R132). -/
def State.usedTags (s : State) : List Half :=
  s.zones.toList.flatMap fun z => z.entries.map Entry.tag

/-- The tag the next new entry takes (R132). One more try than there are tags in use, and one for tag 0, always suffices. -/
def State.nextTag (s : State) : Half :=
  freeTag s.usedTags (s.usedTags.length + 2) s.tagCounter

/-! ### Zone states (R50, R51, R134, R142) -/

/-- The state an escalation of a given severity gives (R134). -/
def ZoneState.escalate (st : ZoneState) (severity : Nat) : ZoneState :=
  match st, severity with
  | st, 0 => st
  | .normal, 1 | .reloading, 1 => .held
  | st, 1 => st
  | .normal, 2 | .held, 2 | .reloading, 2 => .unloading
  | st, 2 => st
  | _, _ => .dumped

/-- The state a zone without a protective entry takes after a removal (R142), with the STOP hold of R143. -/
def ZoneState.afterRemoval (st : ZoneState) (stopHold : Bool) : ZoneState :=
  match st with
  | .held => .reloading
  | .dumped => if stopHold then .dumped else .unloaded
  | .unloading => .unloading
  | .unloaded => .unloaded
  | .normal => .normal
  | .reloading => .reloading

/-- Each member's held value becomes its setpoint: the entry into HELD (R50). -/
def State.captureHeld (s : State) (z : Fin 4) : State :=
  s.setOutputs (Vector.ofFn fun c : Fin 8 =>
    if s.channels[c].zone = z then { s.outputs[c] with held := s.outputs[c].setpoint } else s.outputs[c])

/-- Each member's setpoint field becomes its UL: the entry into DUMPED (R51). -/
def State.dumpMembers (s : State) (z : Fin 4) : State :=
  s.setOutputs (Vector.ofFn fun c : Fin 8 =>
    if s.channels[c].zone = z then { s.outputs[c] with setpoint := s.channels[c].ul } else s.outputs[c])

/-- A zone enters a state, with what the entry does to its members (R50, R51, R134). -/
def State.enterZone (s : State) (z : Fin 4) (st : ZoneState) : State :=
  let s := s.updZone z fun x => { x with state := st }
  match st with
  | .held => s.captureHeld z
  | .dumped => s.dumpMembers z
  | .normal | .unloading | .unloaded | .reloading => s

/-- Bring a zone to a state. A change makes its ZONE_CHANGE record and event, and the generator then acts on the pause demand
(R135, R146), unless that is deferred to the end of a boundary (R107). Without a change nothing happens. -/
def State.changeZone (s : State) (z : Fin 4) (st : ZoneState) (deferPause : Bool) : State :=
  if s.zones[z].state = st then s
  else
    let s := ((s.enterZone z st).record (.zoneChange z s.zones[z].state st)).addEvent .zoneChange
    if deferPause then s else s.syncPause

/-! ### Removing an entry (R137, R142) -/

/-- Remove an entry from a zone's list with a method: its ALARM_CLEARED record carries the state after the return toward
service, which follows it (R137, R142). -/
def State.removeEntry (s : State) (z : Fin 4) (e : Entry) (m : Method) (deferPause : Bool) : State :=
  let s := s.updZone z fun x => { x with entries := x.entries.eraseP fun y => y.tag == e.tag }
  let st := if s.zones[z].hasProtective then s.zones[z].state else s.zones[z].state.afterRemoval s.stopHold
  (s.record (.alarmCleared z e.tag e.kind e.source m st)).changeZone z st deferPause

/-! ### Raising an alarm (R131 to R135) -/

/-- A raise as a source hands it over: the source, the action, method and timed seconds its configuration gives, and whether
its condition is active, which is so for a source with a lasting condition (R129, R131). -/
structure Raise where
  source : Source
  action : Action
  method : Method
  seconds : Half
  active : Bool
  deriving DecidableEq, Repr

/-- Timed seconds as a clear-timer value in ms (R128). -/
def timerOf (seconds : Half) : Word :=
  BitVec.ofNat 32 (seconds.toNat * 1000)

/-- The entry is a source entry of this source (R131, R137). -/
def Entry.isOf (e : Entry) (x : Source) : Bool :=
  e.kind == .source && e.source == x

/-- A repeat counted on an entry (R131). -/
def Entry.repeated (e : Entry) (r : Raise) : Entry :=
  { e with
    repeats := if e.repeats = 255#8 then 255#8 else e.repeats + 1#8
    condition := e.condition || r.active
    timer := if e.method = .timed then timerOf e.seconds else e.timer }

/-- The source entry a raise makes (R128, R131). -/
def State.newEntry (s : State) (r : Raise) : Entry :=
  { tag := s.nextTag, kind := .source, source := r.source, action := r.action, method := r.method, seconds := r.seconds
    timer := if r.method = .timed then timerOf r.seconds else 0#32, condition := r.active, repeats := 1#8
    stamp := s.stamp, cycle := s.gen.cycles }

/-- The overflow entry a raise into a full list makes (R128, R133). -/
def State.newOverflow (s : State) (r : Raise) : Entry :=
  { tag := s.nextTag, kind := .overflow, source := r.source, action := r.action, method := .manual
    seconds := Config.defaultSeconds, timer := 0#32, condition := false, repeats := 1#8, stamp := s.stamp
    cycle := s.gen.cycles }

/-- A raise folded into a standing overflow entry (R133). -/
def Entry.folded (e : Entry) (r : Raise) : Entry :=
  { e with
    action := if e.action.severity < r.action.severity then r.action else e.action
    repeats := if e.repeats = 255#8 then 255#8 else e.repeats + 1#8
    source := r.source }

/-- Put a new entry at the end of a zone's list, taking its tag from the counter (R131, R132). -/
def State.appendEntry (s : State) (z : Fin 4) (e : Entry) : State :=
  (s.updZone z fun x => { x with entries := x.entries ++ [e] }).setTagCounter (succTag e.tag)

/-- How a raise finds its entry in a zone: a repeat on the source's entry, a new source entry while fewer than 12 stand, or the
overflow entry (R131, R133). The result is the state with the list changed, the entry that took the raise, and whether it is a
new source entry. -/
def State.takeRaise (s : State) (z : Fin 4) (r : Raise) : State × Entry × Bool :=
  match s.zones[z].entries.find? fun e => e.isOf r.source with
  | some e =>
    (s.updZone z fun x => { x with entries := x.entries.map fun y => if y.isOf r.source then y.repeated r else y },
      e.repeated r, false)
  | none =>
    if s.zones[z].sourceEntries.length < Config.maxSourceEntries then
      (s.appendEntry z (s.newEntry r), s.newEntry r, true)
    else
      match s.zones[z].entries.find? fun e => e.kind == .overflow with
      | some e =>
        (s.updZone z fun x => { x with entries := x.entries.map fun y => if y.kind = .overflow then y.folded r else y },
          e.folded r, false)
      | none => (s.appendEntry z (s.newOverflow r), s.newOverflow r, false)

/-- A raise taken in one zone: its entry, the ALARM_RAISED record, ALARM at every port, the escalation with its record, event
and pause, and the immediate removal of a new AUTO entry without a condition (R131 to R135). -/
def State.raiseIn (s : State) (z : Fin 4) (r : Raise) (deferPause : Bool) : State :=
  let (s, e, fresh) := s.takeRaise z r
  let st := s.zones[z].state.escalate e.action.severity
  let s := ((s.record (.alarmRaised z e.tag r.source e.action e.repeats st)).addEvent .alarm).changeZone z st deferPause
  if fresh && !e.condition && e.method == .auto then s.removeEntry z e .auto deferPause else s

/-- The four zones in ascending order. -/
def allZones : List (Fin 4) := [0, 1, 2, 3]

/-- The zones a raise reaches: every zone for an _ALL action, the source's own zones otherwise, each once and in ascending
order (R90, R130). -/
def placement (a : Action) (own : List (Fin 4)) : List (Fin 4) :=
  if a.isAll then allZones else allZones.filter fun z => own.contains z

/-- A raise handed over by a source: taken in each zone it reaches, each whole before the next (R130). -/
def State.raise (s : State) (r : Raise) (own : List (Fin 4)) (deferPause : Bool := false) : State :=
  (placement r.action own).foldl (fun s z => s.raiseIn z r deferPause) s

/-! ### Clearing a source (R137, R143) -/

/-- The condition of an entry of the source clears; the clear-timer of a TIMED entry whose condition was active is set (R137). -/
def Entry.cleared (e : Entry) : Entry :=
  { e with
    condition := false
    timer := if e.condition ∧ e.method = .timed then timerOf e.seconds else e.timer }

/-- A source's clear in one zone: the conditions clear, and AUTO entries whose condition was active are removed (R137). -/
def State.clearIn (s : State) (z : Fin 4) (x : Source) : State :=
  let gone := s.zones[z].entries.filter fun e => e.isOf x && e.condition && e.method == .auto
  let s := s.updZone z fun y => { y with entries := y.entries.map fun e => if e.isOf x then e.cleared else e }
  gone.foldl (fun s e => s.removeEntry z e .auto false) s

/-- A source's clear handed over: it reaches every list, in ascending zone order (R137). -/
def State.clear (s : State) (x : Source) : State :=
  allZones.foldl (fun s z => s.clearIn z x) s

/-- The STOP raise: the STOP hold is set and the raise is taken into every zone (R123, R143). -/
def State.raiseStop (s : State) : State :=
  (s.setStopHold true).raise
    { source := .stop, action := .dumpAll, method := .manual, seconds := Config.defaultSeconds, active := true } []

/-- The STOP clear: the conditions of the STOP entries, then the STOP hold, then every DUMPED zone without a protective entry
enters UNLOADED (R143). -/
def State.clearStop (s : State) : State :=
  allZones.foldl
    (fun s z =>
      if s.zones[z].state = .dumped ∧ s.zones[z].hasProtective = false then s.changeZone z .unloaded false else s)
    ((s.clear .stop).setStopHold false)

end Sys2Proof.Machine
end

