-- ==== Sys2Proof/Machine/Setpoints.lean ====
section
/-! DEFINITION. The setpoint arithmetic of chapter 3: rounding (R39), stages 1 to 6 (R43 to R49) and the arrival report (R52). Every
product and sum is formed exactly on whole numbers, and narrowed only where a stage states its result. -/
namespace Sys2Proof.Machine

/-- A rounded quotient by a positive divisor: the nearest whole number, a tie going toward positive infinity (R39). -/
def roundDiv (a : Int) (d : Nat) : Int :=
  (a + (d : Int) / 2) / (d : Int)

/-- Bring a value outside a range to the nearest end of it. -/
def limitInt (x lo hi : Int) : Int :=
  if hi < x then hi else if x < lo then lo else x

/-- A force as a signed 16-bit field. -/
def half (x : Int) : Half := BitVec.ofInt 16 x

/-- Limit a force to a window (R46, R48, R61). -/
def limit (x lo hi : Half) : Half :=
  if hi.toInt < x.toInt then hi else if x.toInt < lo.toInt then lo else x

/-- What the generator hands the setpoint unit at an update: the mean in force, the amplitude and the sine index (R26). -/
structure Drive where
  mean : Half
  amplitude : Half
  index : Nat
  deriving DecidableEq, Repr

/-- Stage 1: the effective amplitude (R43). -/
def effectiveAmplitude (amplitude ascale : Half) : Int :=
  min (roundDiv (amplitude.toInt * (ascale.toNat : Int)) 1024) 32767

/-- Stage 2: the demand, saturated (R44). -/
def demand (d : Drive) (ascale : Half) : Int :=
  limitInt (d.mean.toInt + roundDiv (effectiveAmplitude d.amplitude ascale * sineEntry d.index) 32768) (-32768) 32767

/-- Stage 3: a channel's raw value, saturated (R45). -/
def rawValue (d : Int) (share offset : Half) : Int :=
  limitInt (offset.toInt + roundDiv (d * share.toInt) 4096) (-32768) 32767

/-- Stage 4: the target within the force window (R46). -/
def windowed (raw : Int) (fmin fmax : Half) : Half :=
  limit (half raw) fmin fmax

/-- CLAMPED as stage 4 leaves it: the raw value was outside the window (R46). -/
def outsideWindow (raw : Int) (fmin fmax : Half) : Bool :=
  raw < fmin.toInt || fmax.toInt < raw

/-- A value moved toward a goal by at most a rate, arriving when it is within the rate (R47, R48). -/
def moveToward (prev goal : Half) (rate : Nat) : Half :=
  if (goal.toInt - prev.toInt).natAbs ≤ rate then goal
  else if prev.toInt < goal.toInt then half (prev.toInt + rate)
  else half (prev.toInt - rate)

/-- Stage 5: the slewed value and SLEWING (R47). -/
def slewed (prev target rmax : Half) : Half × Bool :=
  if rmax.toNat = 0 then (target, false)
  else (moveToward prev target rmax.toNat, rmax.toNat < (target.toInt - prev.toInt).natAbs)

/-- A channel's raw value at an update with demand d, under the active load set (R45). -/
def State.rawOf (s : State) (d : Int) (c : Fin 8) : Int :=
  rawValue d s.activeSet.share[c] s.activeSet.offset[c]

/-- A channel's stage-4 target at an update with demand d (R46). -/
def State.targetOf (s : State) (d : Int) (c : Fin 8) : Half :=
  windowed (s.rawOf d c) s.channels[c].fmin s.channels[c].fmax

/-- Stage 6: the output record an update with demand d leaves for a channel, by the state of its zone (R48, R49). -/
def State.outputOf (s : State) (d : Int) (c : Fin 8) : Output :=
  let ch := s.channels[c]
  let o := s.outputs[c]
  let z := s.zones[ch.zone]
  let clamped := outsideWindow (s.rawOf d c) ch.fmin ch.fmax
  match z.state with
  | .normal =>
    let r := slewed o.setpoint (s.targetOf d c) ch.rmax
    { o with setpoint := r.1, clamped := clamped, slewing := r.2 }
  | .held =>
    let h := limit o.held ch.fmin ch.fmax
    { setpoint := h, held := h, clamped := clamped, slewing := false }
  | .unloading => { o with setpoint := moveToward o.setpoint ch.ul z.unloadRate.toNat, clamped := clamped, slewing := false }
  | .unloaded => { o with setpoint := ch.ul, clamped := clamped, slewing := false }
  | .reloading =>
    { o with setpoint := moveToward o.setpoint (s.targetOf d c) z.reloadRate.toNat, clamped := clamped, slewing := false }
  | .dumped => { o with setpoint := ch.ul, clamped := false, slewing := false }

/-- The setpoint unit's update: all eight output records from the state before it (R42). -/
def State.computeSetpoints (s : State) (d : Int) : State :=
  s.setOutputs (Vector.ofFn (s.outputOf d))

/-- The channels that are members of a zone, in ascending order (R126). -/
def State.members (s : State) (z : Fin 4) : List (Fin 8) :=
  (List.finRange 8).filter fun c => s.channels[c].zone == z

/-- At unload level: every member has a setpoint equal to its UL (R52). -/
def State.atUnloadLevel (s : State) (z : Fin 4) : Bool :=
  (s.members z).all fun c => s.outputs[c].setpoint == s.channels[c].ul

/-- At target: every member has a setpoint equal to its stage-4 target of this update (R52). -/
def State.atTarget (s : State) (d : Int) (z : Fin 4) : Bool :=
  (s.members z).all fun c => s.outputs[c].setpoint == s.targetOf d c

/-- Zone protection acts on one zone's arrival report (R136). -/
def State.arriveIn (s : State) (d : Int) (z : Fin 4) : State :=
  if s.zones[z].state = .unloading ∧ s.atUnloadLevel z then s.changeZone z .unloaded false
  else if s.zones[z].state = .reloading ∧ s.atTarget d z then s.changeZone z .normal false
  else s

/-- Zone protection acts on the arrival report, zones in ascending order (R136). -/
def State.arrive (s : State) (d : Int) : State :=
  allZones.foldl (fun s z => s.arriveIn d z) s

end Sys2Proof.Machine
end

