-- ==== Sys2Proof/Machine/Transitions.lean ====
section
/-! DEFINITION. Block transitions of the load generator (R32 to R34), the stop (R24) and the steps of RAMP and DWELL (R27, R28). -/
namespace Sys2Proof.Machine

/-- Where a chain ends: at a block that governs, reached through a jump taken or not, or at the end of the program with the block
and the reason of its record (R32 to R35). -/
inductive ChainEnd where
  | governs (i : Fin 64) (jumped : Bool)
  | ends (i : Fin 64) (reason : Reason)
  deriving DecidableEq, Repr

/-- The chain of a transition from a candidate index: JUMP blocks are evaluated by their loop counters, at most `left` of them,
until a block governs or the program ends (R32, R33). -/
def chain (program : Vector Block 64) (left : Nat) (candidate : Nat) (loops : Vector Half 64) (jumped : Bool) :
    Vector Half 64 × ChainEnd :=
  if h : candidate < 64 then
    match program[candidate] with
    | .ramp _ _ | .dwell _ | .cycle _ _ _ => (loops, .governs ⟨candidate, h⟩ jumped)
    | .stop => (loops, .ends ⟨candidate, h⟩ .done)
    | .jump target repeats =>
      match left with
      | 0 => (loops, .ends ⟨candidate, h⟩ .loopLimit)
      | left + 1 =>
        if loops[candidate].toNat < repeats.toNat then
          chain program left target.val (loops.set candidate (loops[candidate] + 1#16)) true
        else chain program left (candidate + 1) (loops.set candidate 0#16) jumped
  else (loops, .ends 63 .done)

/-- The generator with no current block, in STOPPED or DONE: the phase is 0, and the requested pause, pending ADVANCE and pending
stop are clear (R24, R34). The mean in force is kept. -/
def Generator.rest (g : Generator) (state : GenState) : Generator :=
  { g with
    state := state, current := none, countdown := 0#32, remaining := 0#32, endless := false, phase := 0#32
    requestedPause := false, pendingAdvance := false, pendingStop := false }

/-- The generator with a block just entered: the countdown of a DWELL and the remaining count of a CYCLE are set, the accumulator
is 0 and the pending ADVANCE of the ending block is cleared (R32). -/
def Generator.enter (g : Generator) (i : Fin 64) : Generator :=
  let g := { g with state := .running, current := some i, phase := 0#32, pendingAdvance := false }
  match g.program[i] with
  | .dwell d => { g with countdown := d, remaining := 0#32, endless := false }
  | .cycle _ _ n => { g with countdown := 0#32, remaining := n, endless := n == 0#32 }
  | .stop | .ramp _ _ | .jump _ _ => { g with countdown := 0#32, remaining := 0#32, endless := false }

/-- The reason of a block start, the first that applies of START, ADVANCE, JUMP and NEXT (R35). -/
def startReason (fromStart byAdvance jumped : Bool) : Reason :=
  if fromStart then .start else if byAdvance then .advance else if jumped then .jump else .next

/-- A block transition from a candidate index (R32 to R36). -/
def State.transition (s : State) (candidate : Nat) (fromStart byAdvance : Bool) : State :=
  match chain s.gen.program Config.jumpLimit candidate s.gen.loops false with
  | (loops, .governs i jumped) =>
    (s.setGen ({ s.gen with loops := loops }.enter i)).programRecord i (startReason fromStart byAdvance jumped)
  | (loops, .ends i reason) =>
    (s.setGen ({ s.gen with loops := loops }.rest .done)).programRecord i reason

/-- The generator enters STOPPED, with a STOP record naming the block that was current (R24, R30, R35). -/
def State.stopGenerator (s : State) : State :=
  (s.setGen (s.gen.rest .stopped)).programRecord (s.gen.current.getD 0) .stop

/-- The mean in force after a RAMP step toward its target (R27). -/
def rampStep (mean target rate : Half) : Half :=
  moveToward mean target rate.toNat

end Sys2Proof.Machine
end

