-- ==== Sys2Proof/Machine/Cracks.lean ====
section
/-! DEFINITION. The crack watch: sampling and qualification (R116 to R118), the stop line (R123), and the requests on crack inputs
(R119, R121, R122, R124). -/
namespace Sys2Proof.Machine

/-! ### Qualification (R116) -/

/-- A qualifier after one sample: the run of samples equal to the last, which stays at 15 once there (R116, step 1). -/
def Qualifier.sampled (q : Qualifier) (level : Level) : Qualifier :=
  if q.last = some level then { q with run := if q.run < 15 then q.run + 1 else q.run }
  else { q with last := some level, run := 1 }

/-- The sample qualifies the input at its level: the run is at least n and the level is not the qualified one (R116, step 2). -/
def Qualifier.qualifies (q : Qualifier) (n : Nat) (level : Level) : Bool :=
  n ≤ q.run && q.level != some level

/-- The level a LEVEL sense describes as broken (R117). -/
def Sense.sensed : Sense → Option Level
  | .levelHigh => some .high
  | .levelLow => some .low
  | .rising | .falling | .anyChange => none

/-- A qualification is a detection of an edge sense: from a known level, in the direction the sense requires (R118). -/
def Sense.edgeDetected (x : Sense) (before : Option Level) (level : Level) : Bool :=
  match x, before, level with
  | .rising, some .low, .high => true
  | .falling, some .high, .low => true
  | .anyChange, some .low, .high => true
  | .anyChange, some .high, .low => true
  | _, _, _ => false

/-- CRACK is raised for an input, if its alarm is enabled (R117, R118, R120). -/
def State.raiseCrack (s : State) (i : Fin 16) (active : Bool) : State :=
  let x := s.cracks[i].config
  if x.enable then
    s.raise { source := .crack i, action := x.action, method := x.method, seconds := x.seconds, active := active } [x.zone]
  else s

/-- What a qualification of an input does by its sense, the qualified level having changed from `before` (R117, R118). -/
def State.qualified (s : State) (i : Fin 16) (before : Option Level) (level : Level) : State :=
  let x := s.cracks[i].config.sense
  if x.lasting then
    if x.sensed = some level then
      (s.updCrack i fun c => { c with condition := true, detected := true }).raiseCrack i true
    else if before.isSome then (s.updCrack i fun c => { c with condition := false }).clear (.crack i)
    else s
  else if x.edgeDetected before level then (s.updCrack i fun c => { c with detected := true }).raiseCrack i false
  else s

/-- One sample of a crack input (R116). -/
def State.sampleCrack (s : State) (i : Fin 16) (level : Level) : State :=
  let before := s.cracks[i].qualifier.level
  let q := s.cracks[i].qualifier.sampled level
  if q.qualifies s.cracks[i].config.n level then
    (s.updCrack i fun c => { c with qualifier := { q with level := some level } }).qualified i before level
  else s.updCrack i fun c => { c with qualifier := q }

/-- One sample of STOPn: qualified LOW the STOP condition is active and STOP raised, qualified HIGH after LOW it clears and the
clear is handed over (R123). -/
def State.sampleStop (s : State) (level : Level) : State :=
  let before := s.stopLine.qualifier.level
  let q := s.stopLine.qualifier.sampled level
  if q.qualifies Config.stopSamples level then
    match level with
    | .low => (s.setStopLine { qualifier := { q with level := some .low }, condition := true }).raiseStop
    | .high =>
      let s := s.setStopLine { qualifier := { q with level := some .high }, condition := false }
      if before = some .low then s.clearStop else s
  else s.setStopLine { s.stopLine with qualifier := q }

/-- The level of a crack input in a set of levels, bit i for CKi. -/
def crackLevel (ck : BitVec 16) (i : Fin 16) : Level :=
  if ck.getLsbD i.val then .high else .low

/-- The sampling event of one count: CK0 to CK15, then STOPn (R116). -/
def State.sampleInputs (s : State) (ck : BitVec 16) (stopn : Level) : State :=
  ((List.finRange 16).foldl (fun s i => s.sampleCrack i (crackLevel ck i)) s).sampleStop stopn

/-! ### The requests -/

/-- What SET_CRACK does when it is taken: the configuration is replaced, and a change of sense or n restarts the qualifier,
handing over the clear of an active condition (R122). -/
def State.replaceCrack (s : State) (i : Fin 16) (x : CrackConfig) : State :=
  let old := s.cracks[i]
  if old.config.sense = x.sense ∧ old.config.n = x.n then s.updCrack i fun c => { c with config := x }
  else
    let s := s.updCrack i fun c => { c with config := x, qualifier := Qualifier.fresh, condition := false }
    if old.condition then s.clear (.crack i) else s

/-- SET_CRACK (R121, R122). -/
def execSetCrack (p : PortId) (a : CrackArgs) (s : State) : Host.Outcome State Fault Refusal :=
  .next <| s.serve p .setCrack 9 fun s =>
    match crackOf? a with
    | none => .error .range
    | some (i, x) =>
      if x.conflicting then .error .conflict
      else
        let s := s.replaceCrack i x
        .ok (s, s.cracks[i].bytes i)

/-- What CLEAR_CRACK_LATCH does: the latches of the inputs named clear (R119). -/
def State.clearLatches (s : State) (inputs : Half) : State :=
  s.setCracks (Vector.ofFn fun i : Fin 16 =>
    if inputs.getLsbD i.val then { s.cracks[i] with detected := false } else s.cracks[i])

/-- CLEAR_CRACK_LATCH (R119). -/
def execClearCrackLatch (p : PortId) (inputs : Half) (s : State) : Host.Outcome State Fault Refusal :=
  .next <| s.serve p .clearCrackLatch 2 fun s => .ok (s.clearLatches inputs, bytes2 (s.clearLatches inputs).latchSet)

/-- The answer of READ_CRACK (R124, section 10.3). -/
def State.crackBytes (s : State) : List Byte :=
  ((List.finRange 16).flatMap fun i => s.cracks[i].bytes i)
    ++ [levelCode s.stopLine.qualifier.level, levelCode s.stopLine.qualifier.last, byteOf s.stopLine.qualifier.run,
      yes s.stopLine.condition]

/-- READ_CRACK (R124). -/
def execReadCrack (p : PortId) (s : State) : Host.Outcome State Fault Refusal :=
  .next <| s.serve p .readCrack 0 fun s => .ok (s, s.crackBytes)

end Sys2Proof.Machine
end

