-- ==== Sys2Proof/Machine/Frames.lean ====
section
/-! DEFINITION. The frame supervisor: SERVO_EXCHANGE with its checks and answer (R76 to R83), the frame watchdog (R86 to R90), TRIP
(R91) and the reads (R92). -/
namespace Sys2Proof.Machine

/-- Channel A of a frame, CH(2f). -/
def channelA (f : Fin 4) : Fin 8 := ⟨2 * f.val, by omega⟩

/-- Channel B of a frame, CH(2f+1). -/
def channelB (f : Fin 4) : Fin 8 := ⟨2 * f.val + 1, by omega⟩

/-! ### The checks of SERVO_EXCHANGE (R77 to R81) -/

/-- A raise from a channel source with one of the channel's actions, placed in the channel's zone (R81). -/
def State.raiseChannel (s : State) (c : Fin 8) (source : Source) (action : Action) : State :=
  s.raise
    { source := source, action := action, method := s.channels[c].method, seconds := s.channels[c].seconds, active := true }
    [s.channels[c].zone]

/-- The measured force is beyond Fabs; with Fabs of 0 the check is off (R79). -/
def Channel.overforced (ch : Channel) (force : Half) : Bool :=
  ch.fabs.toNat != 0 && ch.fabs.toInt < (force.toInt.natAbs : Int)

/-- The measured stroke is outside the stroke window; the window is off when both ends are 0 (R80). -/
def Channel.strokeOutside (ch : Channel) (stroke : Half) : Bool :=
  !(ch.smin == 0#16 && ch.smax == 0#16) && (stroke.toInt < ch.smin.toInt || ch.smax.toInt < stroke.toInt)

/-- The tracking error is a miss: its magnitude exceeds tol (R78). -/
def Channel.misses (ch : Channel) (force handedOut : Half) : Bool :=
  ch.tol.toInt < ((force.toInt - handedOut.toInt).natAbs : Int)

/-- The tracking check against a handed-out value (R78). -/
def State.trackingCheck (s : State) (c : Fin 8) (force handedOut : Half) : State :=
  let ch := s.channels[c]
  let v := s.supervision[c]
  if v.tracking then
    if ch.misses force handedOut then s
    else (s.updSupervision c fun v => { v with tracking := false }).clear (.tracking c)
  else if ch.misses force handedOut then
    if v.misses + 1 < ch.k then s.updSupervision c fun v => { v with misses := v.misses + 1 }
    else
      (s.updSupervision c fun v => { v with misses := 0, tracking := true }).raiseChannel c (.tracking c) ch.trackingAction
  else s.updSupervision c fun v => { v with misses := 0 }

/-- The tracking part of a partial check: the miss count is set to 0 and an active condition clears (R77). -/
def State.trackingDrop (s : State) (c : Fin 8) : State :=
  if s.supervision[c].tracking then
    (s.updSupervision c fun v => { v with misses := 0, tracking := false }).clear (.tracking c)
  else s.updSupervision c fun v => { v with misses := 0 }

/-- The overforce check; `full` is false in a partial check, which raises nothing (R77, R79). -/
def State.overforceCheck (s : State) (c : Fin 8) (force : Half) (full : Bool) : State :=
  let ch := s.channels[c]
  if s.supervision[c].overforce then
    if ch.overforced force then s
    else (s.updSupervision c fun v => { v with overforce := false }).clear (.overforce c)
  else if full && ch.overforced force then
    (s.updSupervision c fun v => { v with overforce := true }).raiseChannel c (.overforce c) ch.overforceAction
  else s

/-- The stroke check; `full` is false in a partial check, which raises nothing (R77, R80). -/
def State.strokeCheck (s : State) (c : Fin 8) (stroke : Half) (full : Bool) : State :=
  let ch := s.channels[c]
  if s.supervision[c].strokeOut then
    if ch.strokeOutside stroke then s
    else (s.updSupervision c fun v => { v with strokeOut := false }).clear (.stroke c)
  else if full && ch.strokeOutside stroke then
    (s.updSupervision c fun v => { v with strokeOut := true }).raiseChannel c (.stroke c) ch.strokeAction
  else s

/-- The checks of one channel, tracking, overforce and stroke in this order: in full with a handed-out value, in part without
one (R76, R77). -/
def State.checkChannel (s : State) (c : Fin 8) (force stroke : Half) : State :=
  match s.supervision[c].handedOut with
  | some h => ((s.trackingCheck c force h).overforceCheck c force true).strokeCheck c stroke true
  | none => ((s.trackingDrop c).overforceCheck c force false).strokeCheck c stroke false

/-! ### The answer and the handed-out values (R82, R83) -/

/-- A channel block of the answer: mode, setpoint and flags, the last two 0 for mode DUMP (R82, section 10.3). -/
def State.channelBlock (s : State) (c : Fin 8) : List Byte :=
  [(s.channelZone c).mode.code]
    ++ (match s.setpoint? c with
      | some x => bytes2 x ++ [s.outputs[c].flags]
      | none => bytes2 0#16 ++ [0#8])

/-- The answer to SERVO_EXCHANGE (R82, section 10.3). -/
def State.exchangeBytes (s : State) (f : Fin 4) : List Byte :=
  s.channelBlock (channelA f) ++ s.channelBlock (channelB f) ++ [s.gen.state.code]
    ++ bytes2 (BitVec.ofNat 16 s.gen.sineIndex) ++ bytes4 (s.gen.cycles.setWidth 32)

/-- Store a channel's measured force and stroke (R76, step 2). -/
def State.storeMeasured (s : State) (c : Fin 8) (force stroke : Half) : State :=
  s.updSupervision c fun v => { v with force := some force, stroke := some stroke }

/-- Set a channel's handed-out value from the answer: its setpoint, or none for mode DUMP (R83). -/
def State.handOut (s : State) (c : Fin 8) : State :=
  s.updSupervision c fun v => { v with handedOut := s.setpoint? c }

/-! ### The frame watchdog (R86 to R90) -/

/-- A raise from a frame source, placed in the zones of the frame's two channels (R90). -/
def State.raiseFrame (s : State) (f : Fin 4) (source : Source) (action : Action) : State :=
  s.raise
    { source := source, action := action, method := s.frames[f].method, seconds := s.frames[f].seconds, active := true }
    [s.channels[channelA f].zone, s.channels[channelB f].zone]

/-- FRAME_LATE clears if it is active, and the clear is handed over (R86, R88). -/
def State.clearLate (s : State) (f : Fin 4) : State :=
  if s.frames[f].late then (s.updFrame f fun x => { x with late := false }).clear (.frameLate f) else s

/-- FRAME_LOST clears if it is active, and the clear is handed over (R86, R88). -/
def State.clearLost (s : State) (f : Fin 4) : State :=
  if s.frames[f].lost then (s.updFrame f fun x => { x with lost := false }).clear (.frameLost f) else s

/-- The watchdog acts on an exchange: from ALIVE, LATE and LOST it is ALIVE with its full period, and the conditions clear,
FRAME_LATE first (R88; DEDUCED, unsafe, notes/assumptions/18.md). -/
def State.exchangeDog (s : State) (f : Fin 4) : State :=
  match s.frames[f].dog with
  | .unwatched => s
  | .alive | .late | .lost =>
    ((s.updFrame f fun x => { x with dog := .alive, remaining := x.period }).clearLate f).clearLost f

/-- The watchdog of a frame expires: ALIVE enters LATE with FRAME_LATE raised and OWN_LATE at the frame's port, LATE enters LOST
with FRAME_LOST raised (R88). -/
def State.expireDog (s : State) (f : Fin 4) : State :=
  match s.frames[f].dog with
  | .alive =>
    ((s.updFrame f fun x => { x with dog := .late, remaining := x.period, late := true }).addEventAt (.frame f)
      .ownLate).raiseFrame f (.frameLate f) s.frames[f].lateAction
  | .late =>
    (s.updFrame f fun x => { x with dog := .lost, remaining := 0#16, lost := true }).raiseFrame f (.frameLost f)
      s.frames[f].lostAction
  | .unwatched | .lost => s

/-- The watchdog of a frame is counting down (R87). -/
def FrameRec.counting (x : FrameRec) : Bool :=
  x.dog == .alive || x.dog == .late

/-- The watchdog of a frame reaches 0 at the next count (R87). -/
def FrameRec.due (x : FrameRec) : Bool :=
  x.counting && x.remaining.toNat ≤ 1

/-- A frame watchdog's part of one count: a counting watchdog is decreased by 1 and expires when it reaches 0 (R87). -/
def State.watchdogTick (s : State) (f : Fin 4) : State :=
  if s.frames[f].due then s.expireDog f
  else if s.frames[f].counting then s.updFrame f fun x => { x with remaining := x.remaining - 1#16 }
  else s

/-! ### The requests -/

/-- The whole event of SERVO_EXCHANGE up to the answer: the checks of A then B, and the measured values (R76, steps 1 and 2). -/
def State.exchangeChecks (s : State) (f : Fin 4) (forceA forceB strokeA strokeB : Half) : State :=
  (((s.checkChannel (channelA f) forceA strokeA).checkChannel (channelB f) forceB strokeB).storeMeasured (channelA f) forceA
    strokeA).storeMeasured (channelB f) forceB strokeB

/-- SERVO_EXCHANGE (R76). -/
def execServoExchange (p : PortId) (forceA forceB strokeA strokeB : Half) (s : State) : Host.Outcome State Fault Refusal :=
  .next <| s.serve p .servoExchange 8 fun s =>
    match p with
    | .frame f =>
      let s := s.exchangeChecks f forceA forceB strokeA strokeB
      .ok (((s.handOut (channelA f)).handOut (channelB f)).exchangeDog f, s.exchangeBytes f)
    | .director | .logger => .error .denied

/-- What TRIP does with a reason: a reason of 1 to 255 is kept and raises FRAME_TRIP whether or not its condition was active,
reason 0 clears an active condition (R91). -/
def State.tripFrame (s : State) (f : Fin 4) (reason : Byte) : State :=
  if reason = 0#8 then
    if s.frames[f].trip then (s.updFrame f fun x => { x with trip := false }).clear (.frameTrip f) else s
  else
    (s.updFrame f fun x => { x with tripReason := reason, trip := true }).raiseFrame f (.frameTrip f) s.frames[f].tripAction

/-- TRIP (R91). -/
def execTrip (p : PortId) (reason : Byte) (s : State) : Host.Outcome State Fault Refusal :=
  .next <| s.serve p .trip 1 fun s =>
    match p with
    | .frame f =>
      let s := s.tripFrame f reason
      .ok (s, [s.frames[f].conditions, s.frames[f].tripReason, (s.channelZone (channelA f)).mode.code,
        (s.channelZone (channelB f)).mode.code])
    | .director | .logger => .error .denied

/-- What SET_FRAME does when it is taken: the configuration is replaced, the watchdog is ALIVE with the new period or UNWATCHED,
and FRAME_LATE and FRAME_LOST clear, in this order (R86, R88; DEDUCED, unsafe, notes/assumptions/18.md). -/
def State.replaceFrame (s : State) (f : Fin 4) (x : FrameFields) : State :=
  ((s.updFrame f fun r =>
    { r with
      period := x.period, lateAction := x.lateAction, lostAction := x.lostAction, tripAction := x.tripAction
      method := x.method, seconds := x.seconds
      dog := if x.period = 0#16 then .unwatched else .alive
      remaining := x.period }).clearLate f).clearLost f

/-- SET_FRAME (R86). -/
def execSetFrame (p : PortId) (a : FrameArgs) (s : State) : Host.Outcome State Fault Refusal :=
  .next <| s.serve p .setFrame 9 fun s =>
    match frameOf? a with
    | none => .error .range
    | some (f, x) =>
      if x.conflicting then .error .conflict
      else
        let s := s.replaceFrame f x
        .ok (s, s.frames[f].bytes f)

/-- The supervision values of a channel in READ_FRAME's answer (R92, section 10.3). -/
def Supervision.bytes (v : Supervision) : List Byte :=
  opt2 v.handedOut ++ opt2 v.force ++ opt2 v.stroke ++ [byteOf v.misses, v.conditions]

/-- The answer of READ_FRAME (R92, section 10.3). -/
def State.frameBytes (s : State) (f : Fin 4) : List Byte :=
  s.frames[f].bytes f ++ s.supervision[channelA f].bytes ++ s.supervision[channelB f].bytes

/-- READ_FRAME (R92): with no argument at a frame port the port's own frame, at another port refused CONFLICT. -/
def execReadFrame (p : PortId) (frame : Option Byte) (s : State) : Host.Outcome State Fault Refusal :=
  .next <| s.serve p .readFrame (if frame.isSome then 1 else 0) fun s =>
    match frame, p with
    | some b, _ =>
      match index? 4 b with
      | some f => .ok (s, s.frameBytes f)
      | none => .error .range
    | none, .frame f => .ok (s, s.frameBytes f)
    | none, .director | none, .logger => .error .conflict

end Sys2Proof.Machine
end

