-- ==== Sys2Proof/Machine/Gauges.lean ====
section
/-! DEFINITION. The strain unit: gauge frames (R94, R100 to R104, R166), the stale timer (R105), the cycle picture at the boundary
(R108 to R110), and the requests on gauges (R96, R97, R112, R113). -/
namespace Sys2Proof.Machine

/-! ### Alarms (R107) -/

/-- A raise from a gauge source, placed in the gauge's zone (R107). -/
def State.raiseGauge (s : State) (g : Fin 64) (source : Source) (action : Action) (active deferPause : Bool) : State :=
  s.raise
    { source := source, action := action, method := s.gauges[g].config.method, seconds := s.gauges[g].config.seconds
      active := active }
    [s.gauges[g].config.zone] deferPause

/-- FAULT becomes active with a cause from clear: running FAULT is set and GAUGE_FAULT raised (R100, R105). -/
def State.enterFault (s : State) (g : Fin 64) (cause : FaultCause) : State :=
  (s.updGauge g fun r => { r with fault := some cause, runningFault := true }).raiseGauge g (.gaugeFault g)
    s.gauges[g].config.faultAction true false

/-- FAULT clears if it is active, and the clear is handed over (R101). -/
def State.clearFault (s : State) (g : Fin 64) : State :=
  if s.gauges[g].run.fault.isSome then (s.updGauge g fun r => { r with fault := none }).clear (.gaugeFault g) else s

/-! ### Samples (R100 to R104) -/

/-- A frame with status OVER or OPEN that reaches an enabled gauge (R100). -/
def State.faultFrame (s : State) (g : Fin 64) (cause : FaultCause) : State :=
  if s.gauges[g].run.fault.isSome then s.updGauge g fun r => { r with fault := some cause } else s.enterFault g cause

/-- The strain of a raw value before saturation: (raw − zero) × scale ÷ 65536, rounded (R102). -/
def strainOf (x : GaugeConfig) (raw : Raw24) : Int :=
  roundDiv ((raw.toInt - x.zero.toInt) * x.scale.toInt) 65536

/-- The strain an OK sample gives, saturated to −32767..32767 (R102). -/
def saturatedStrain (x : GaugeConfig) (raw : Raw24) : Half :=
  half (limitInt (strainOf x raw) (-32767) 32767)

/-- The sample was saturated (R102). -/
def strainSaturates (x : GaugeConfig) (raw : Raw24) : Bool :=
  strainOf x raw < -32767 || 32767 < strainOf x raw

/-- Steps 2 and 3 of an OK frame: the stale timer restarts unless it is OFF, and the sample is converted (R101). -/
def GaugeRun.sampled (r : GaugeRun) (x : GaugeConfig) (raw : Raw24) : GaugeRun :=
  { r with
    stale := if r.stale = .off then .off else .running
    staleLeft := if r.stale = .off then r.staleLeft else x.staleTime
    lastRaw := some raw, current := some (saturatedStrain x raw), currentSat := strainSaturates x raw }

/-- A strain outside the window; a strain equal to lo or hi is inside (R103). -/
def GaugeConfig.outside (x : GaugeConfig) (strain : Half) : Bool :=
  strain.toInt < x.lo.toInt || x.hi.toInt < strain.toInt

/-- The window check of a sample (R103). -/
def State.windowCheck (s : State) (g : Fin 64) (strain : Half) : State :=
  let x := s.gauges[g].config
  let r := s.gauges[g].run
  if r.window then
    if x.outside strain then s.updGauge g fun r => { r with inCount := 0 }
    else if r.inCount + 1 < x.n then s.updGauge g fun r => { r with inCount := r.inCount + 1 }
    else (s.updGauge g fun r => { r with inCount := 0, window := false }).clear (.gaugeWindow g)
  else if x.outside strain then
    if r.outCount + 1 < x.n then s.updGauge g fun r => { r with outCount := r.outCount + 1 }
    else
      (s.updGauge g fun r => { r with outCount := 0, inCount := 0, window := true }).raiseGauge g (.gaugeWindow g)
        x.windowAction true false
  else s.updGauge g fun r => { r with outCount := 0 }

/-- The greater and the lesser of two strains. -/
def greater (a b : Half) : Half := if a.toInt < b.toInt then b else a

/-- The lesser of two strains. -/
def lesser (a b : Half) : Half := if b.toInt < a.toInt then b else a

/-- The running extremes take a sample (R104). -/
def GaugeRun.gathered (r : GaugeRun) (strain : Half) : GaugeRun :=
  { r with
    running := some (match r.running with
      | none => { peak := strain, valley := strain }
      | some e => { peak := greater e.peak strain, valley := lesser e.valley strain })
    runningSat := r.runningSat || r.currentSat }

/-- A frame with status OK that reaches an enabled gauge, its five steps in order (R101). -/
def State.okFrame (s : State) (g : Fin 64) (raw : Raw24) : State :=
  let strain := saturatedStrain s.gauges[g].config raw
  ((((s.clearFault g).updGauge g fun r => r.sampled s.gauges[g].config raw).windowCheck g strain).updGauge g
    fun r => r.gathered strain)

/-! ### Gauge frames (R94, R166) -/

/-- The gauge a frame names: channel k on link L names G(32L + k); a channel above 31 names none (R94). -/
def linkGauge (link : Fin 2) (channel : BitVec 6) : Option (Fin 64) :=
  if h : channel.toNat < 32 then some ⟨32 * link.val + channel.toNat, by omega⟩ else none

/-- The sum of the five bytes of a frame modulo 256; the check byte matches when it is FFh (R166). -/
def frameSum (bits : BitVec 40) : Byte :=
  bits.extractLsb' 32 8 + bits.extractLsb' 24 8 + bits.extractLsb' 16 8 + bits.extractLsb' 8 8 + bits.extractLsb' 0 8

/-- A complete frame is taken: it is discarded, or it acts on its gauge by its status (R94). The first bit received is the
highest of the 40. -/
def State.takeFrame (s : State) (link : Fin 2) (bits : BitVec 40) : State :=
  if frameSum bits ≠ 0xFF#8 then s
  else
    match linkGauge link (bits.extractLsb' 34 6) with
    | none => s
    | some g =>
      if s.gauges[g].config.enabled = false then s
      else
        match (bits.extractLsb' 32 2 : BitVec 2).toNat with
        | 0 => s.okFrame g (bits.extractLsb' 8 24)
        | 1 => s.faultFrame g .over
        | 2 => s.faultFrame g .open
        | _ => s

/-- GAUGE_FRAME: the 40 bits after a start condition have arrived on a link, the frame is taken and the receiver waits (R94,
R166), its count and bits as they stand (DEDUCED, safe, notes/assumptions/20.md). -/
def execGaugeFrame (link : Fin 2) (bits : BitVec 40) (s : State) : Host.Outcome State Fault Refusal :=
  .next ((s.updLink link fun _ => { state := .waiting, count := 40, bits := bits }).takeFrame link bits)

/-- GAUGE_LINK_START_CONDITION: the receiver is RECEIVING with count 0, an incomplete frame discarded (R166). -/
def execGaugeLinkStartCondition (link : Fin 2) (s : State) : Host.Outcome State Fault Refusal :=
  .next (s.updLink link fun _ => { state := .receiving, count := 0, bits := 0#40 })

/-- A bit received after those in hand. -/
def Link.shifted (l : Link) (bit : Bool) : BitVec 40 :=
  (l.bits <<< 1) ||| (if bit then 1#40 else 0#40)

/-- GAUGE_LINK_CLOCK_EDGE: in RECEIVING the bit is kept, and at the 40th the frame is taken; in WAITING it is ignored (R166). -/
def execGaugeLinkClockEdge (link : Fin 2) (bit : Bool) (s : State) : Host.Outcome State Fault Refusal :=
  let l := s.links[link]
  .next <|
    match l.state with
    | .waiting => s
    | .receiving =>
      if l.count < 39 then
        s.updLink link fun l => { l with count := l.count + 1, bits := l.shifted bit }
      else (s.updLink link fun _ => { state := .waiting, count := 40, bits := l.shifted bit }).takeFrame link (l.shifted bit)

/-! ### The stale timer (R105) -/

/-- The stale timer of an enabled gauge is counting down (R105). -/
def Gauge.staleCounting (x : Gauge) : Bool :=
  x.config.enabled && x.run.stale == .running

/-- The stale timer reaches 0 at the next count (R105). -/
def Gauge.staleDue (x : Gauge) : Bool :=
  x.staleCounting && x.run.staleLeft.toNat ≤ 1

/-- The stale timer of a gauge expires (R105). -/
def State.expireStale (s : State) (g : Fin 64) : State :=
  let s' := s.updGauge g fun r => { r with stale := .expired, staleLeft := 0#16 }
  if s.gauges[g].run.fault.isSome then s' else s'.enterFault g .stale

/-- A gauge stale timer's part of one count (R105): a counting timer is decreased by 1 and expires when it reaches 0.
DESIGN CHOICE, unsafe (notes/assumptions/29.md): with a stale time of 1 a timer that an OK frame or SET_GAUGE has just restarted
expires at the next count, as R105 has it, where R106 and R98 say of the frame or request taken first that the expiry does not
occur. -/
def State.staleTick (s : State) (g : Fin 64) : State :=
  if s.gauges[g].staleDue then s.expireStale g
  else if s.gauges[g].staleCounting then s.updGauge g fun r => { r with staleLeft := r.staleLeft - 1#16 }
  else s

/-! ### The boundary (R108 to R110) -/

/-- The range of a cycle: last peak less last valley, 0 to 65534 (R109). -/
def Extremes.range (e : Extremes) : Half :=
  half (e.peak.toInt - e.valley.toInt)

/-- Steps 1 to 3 of a gauge's boundary: the running extremes become the last-cycle result, and a pending capture takes its
range (R108, R109). -/
def GaugeRun.transferred (r : GaugeRun) : GaugeRun :=
  let r := { r with
    last := r.running, lastSat := r.runningSat, lastFault := r.runningFault
    running := none, runningSat := false, runningFault := r.fault.isSome }
  match r.last, r.capture with
  | some e, true => { r with baseline := some e.range, capture := false, driftCount := 0 }
  | some _, false | none, true | none, false => r

/-- The drift of a gauge whose check is made: the magnitude of the difference of range and baseline; none when the baseline is
invalid, the limit 0 or the last-cycle result EMPTY (R110). -/
def Gauge.drift? (x : Gauge) : Option Nat :=
  match x.run.baseline, x.run.last with
  | some b, some e =>
    if x.config.driftLimit.toNat = 0 then none else some (((e.range.toNat : Int) - (b.toNat : Int)).natAbs)
  | some _, none | none, some _ | none, none => none

/-- Step 4 of a gauge's boundary: the drift check; the generator's entry into PAUSED is left to the end of the boundary
(R107, R110). -/
def State.driftCheck (s : State) (g : Fin 64) : State :=
  match s.gauges[g].drift? with
  | none => s
  | some d =>
    if d ≤ s.gauges[g].config.driftLimit.toNat then s.updGauge g fun r => { r with driftCount := 0 }
    else if s.gauges[g].run.driftCount + 1 < s.gauges[g].config.m then
      s.updGauge g fun r => { r with driftCount := r.driftCount + 1 }
    else
      (s.updGauge g fun r => { r with driftCount := 0 }).raiseGauge g (.gaugeDrift g) s.gauges[g].config.driftAction false true

/-- One gauge's part of the boundary notice; a disabled gauge is passed over (R108). -/
def State.closeCycle (s : State) (g : Fin 64) : State :=
  if s.gauges[g].config.enabled then (s.updGauge g GaugeRun.transferred).driftCheck g else s

/-- The strain unit's part of the boundary notice, gauges in ascending order (R108). -/
def State.closeCycles (s : State) : State :=
  (List.finRange 64).foldl State.closeCycle s

/-! ### The requests -/

/-- The running fields SET_GAUGE leaves: fresh, with the stale timer RUNNING when the gauge is enabled and its stale time above
0 (R97). A timer that it puts to OFF has the remaining time 0 of R114's reset row, where R97 names the state alone (DEDUCED, unsafe,
notes/assumptions/30.md). -/
def GaugeRun.started (x : GaugeConfig) : GaugeRun :=
  if x.enabled ∧ x.staleTime ≠ 0#16 then { GaugeRun.fresh with stale := .running, staleLeft := x.staleTime }
  else GaugeRun.fresh

/-- What SET_GAUGE does when it is taken: the record is replaced and started afresh, and the clears of its active conditions are
handed over, WINDOW first (R97; DEDUCED, unsafe, notes/assumptions/17.md). -/
def State.replaceGauge (s : State) (g : Fin 64) (x : GaugeConfig) : State :=
  let old := s.gauges[g].run
  let s := s.setGauges (s.gauges.set g { config := x, run := GaugeRun.started x })
  let s := if old.window then s.clear (.gaugeWindow g) else s
  if old.fault.isSome then s.clear (.gaugeFault g) else s

/-- SET_GAUGE (R96, R97). -/
def execSetGauge (p : PortId) (a : GaugeArgs) (s : State) : Host.Outcome State Fault Refusal :=
  .next <| s.serve p .setGauge 24 fun s =>
    match gaugeOf? a with
    | none => .error .range
    | some (g, x) => if x.conflicting then .error .conflict else .ok (s.replaceGauge g x, x.bytes g)

/-- What CAPTURE_BASELINE does: capture pending on every enabled gauge (R112). -/
def State.armCaptures (s : State) : State :=
  s.setGauges (s.gauges.map fun x => if x.config.enabled then { x with run := { x.run with capture := true } } else x)

/-- The number of gauges with a capture pending (R112). -/
def State.capturesPending (s : State) : Nat :=
  (s.gauges.toList.filter fun x => x.run.capture).length

/-- CAPTURE_BASELINE (R112). -/
def execCaptureBaseline (p : PortId) (s : State) : Host.Outcome State Fault Refusal :=
  .next <| s.serve p .captureBaseline 0 fun s => .ok (s.armCaptures, [byteOf s.armCaptures.capturesPending])

/-- The gauges from `first`, `count` of them, in ascending order (R113). -/
def gaugeRange (first count : Nat) : List (Fin 64) :=
  (List.finRange 64).filter fun g => decide (first ≤ g.val) && decide (g.val < first + count)

/-- READ_GAUGES (R113). -/
def execReadGauges (p : PortId) (first count : Byte) (s : State) : Host.Outcome State Fault Refusal :=
  .next <| s.serve p .readGauges 2 fun s =>
    if 63 < first.toNat ∨ count.toNat = 0 ∨ 64 < first.toNat + count.toNat then .error .range
    else .ok (s, (gaugeRange first.toNat count.toNat).flatMap fun g => s.gauges[g].bytes g)

end Sys2Proof.Machine
end

