-- ==== Sys2Proof/Machine/Zones.lean ====
section
/-! DEFINITION. The requests on zones and alarm lists (R127, R140, R144, R148), the clear-timers (R138) and the removals at a boundary
(R139). -/
namespace Sys2Proof.Machine

/-- What SET_ZONE does when it is taken; a change of the isolate flag moves the pause demand at once (R127, R146). -/
def State.replaceZone (s : State) (z : Fin 4) (isolate : Bool) (unloadRate reloadRate : Half) : State :=
  let before := s.pauseDemand
  let s := s.updZone z fun x => { x with isolate := isolate, unloadRate := unloadRate, reloadRate := reloadRate }
  if s.pauseDemand = before then s else s.syncPause

/-- SET_ZONE (R127). -/
def execSetZone (p : PortId) (zone isolate : Byte) (unloadRate reloadRate : Half) (s : State) :
    Host.Outcome State Fault Refusal :=
  .next <| s.serve p .setZone 6 fun s =>
    match index? 4 zone, flag? isolate, rate? unloadRate, rate? reloadRate with
    | some z, some i, some u, some r =>
      let s := s.replaceZone z i u r
      .ok (s, [zone, isolate] ++ bytes2 u ++ bytes2 r ++ [s.zones[z].state.code])
    | _, _, _, _ => .error .range

/-- RELEASE (R140). -/
def execRelease (p : PortId) (zone : Byte) (tag : Half) (s : State) : Host.Outcome State Fault Refusal :=
  .next <| s.serve p .release 3 fun s =>
    match index? 4 zone with
    | none => .error .range
    | some z =>
      match s.zones[z].entries.find? fun e => e.tag == tag with
      | none => .error .notfound
      | some e =>
        if e.condition then .error .state
        else
          let s := s.removeEntry z e .manual false
          .ok (s, [s.zones[z].state.code, byteOf s.zones[z].entries.length])

/-- RELOAD_ZONE (R144). -/
def execReloadZone (p : PortId) (zone : Byte) (s : State) : Host.Outcome State Fault Refusal :=
  .next <| s.serve p .reloadZone 1 fun s =>
    match index? 4 zone with
    | none => .error .range
    | some z =>
      if s.zones[z].state ≠ .unloaded ∨ s.zones[z].hasProtective then .error .state
      else
        let s := s.changeZone z .reloading false
        .ok (s, [s.zones[z].state.code])

/-- The answer of READ_ZONE (R148, section 10.3). -/
def State.zoneBytes (s : State) (z : Fin 4) : List Byte :=
  let x := s.zones[z]
  [byteOf z.val, x.state.code, yes x.isolate] ++ bytes2 x.unloadRate ++ bytes2 x.reloadRate
    ++ [yes (s.dumpAsserted z), yes s.pauseDemand, yes s.stopHold]
    ++ [byteOf (s.members z).length] ++ (s.members z).map (fun c => byteOf c.val)
    ++ bytes2 s.tagCounter ++ [byteOf x.entries.length] ++ x.entries.flatMap Entry.bytes

/-- READ_ZONE (R148). -/
def execReadZone (p : PortId) (zone : Byte) (s : State) : Host.Outcome State Fault Refusal :=
  .next <| s.serve p .readZone 1 fun s =>
    match index? 4 zone with
    | some z => .ok (s, s.zoneBytes z)
    | none => .error .range

/-- The clear-timer of an entry is running: the entry is TIMED and its condition is clear (R138). -/
def Entry.timing (e : Entry) : Bool :=
  e.method == .timed && !e.condition

/-- The clear-timer reaches 0 at the next count (R138). -/
def Entry.due (e : Entry) : Bool :=
  e.timing && e.timer.toNat ≤ 1

/-- The entry of a zone's list with a tag. -/
def State.entry? (s : State) (z : Fin 4) (tag : Half) : Option Entry :=
  s.zones[z].entries.find? fun e => e.tag == tag

/-- A clear-timer's part of one count: a running timer is decreased by 1, and at 0 the entry is removed with the method TIMED
(R138). -/
def State.clearTimerTick (s : State) (z : Fin 4) (tag : Half) : State :=
  match s.entry? z tag with
  | none => s
  | some e =>
    if e.due then s.removeEntry z e .timed false
    else if e.timing then
      s.updZone z fun x =>
        { x with entries := x.entries.map fun y => if y.tag = tag then { y with timer := y.timer - 1#32 } else y }
    else s

/-- An entry is removed at the next boundary notice: its method is BOUNDARY and its condition clear (R139). -/
def Entry.boundaryDue (e : Entry) : Bool :=
  e.method == .boundary && !e.condition

/-- Zone protection's part of the boundary notice in one zone, oldest entry first (R139). -/
def State.boundaryRemovalIn (s : State) (z : Fin 4) : State :=
  (s.zones[z].entries.filter Entry.boundaryDue).foldl (fun s e => s.removeEntry z e .boundary false) s

/-- Zone protection's part of the boundary notice (R139). -/
def State.boundaryRemovals (s : State) : State :=
  allZones.foldl State.boundaryRemovalIn s

end Sys2Proof.Machine
end

