-- ==== Sys2Proof/Machine/Count.lean ====
section
/-! DEFINITION. One count of the reference timer (R1), whole: the time stamp, then the sampling event (R116), the frame watchdogs
(R87), the gauge stale timers (R105) and the clear-timers (R138). The reference orders the time stamp before the rest and gives
no order among the rest: the command carries it (DESIGN CHOICE, safe, notes/assumptions/3.md). The three rows that name an expiry take
the count at which it comes about, and do nothing when it cannot come about at the next count. -/
namespace Sys2Proof.Machine

/-- The clear-timers that are running in a zone, oldest entry first, as events of a count (R138). -/
def State.timersOf (s : State) (z : Fin 4) : List CountAct :=
  (s.zones[z].entries.filter Entry.timing).map fun e => .clearTimer z e.tag

/-- The events that a count holds, by the state when it comes: the sampling event always (R116), and every timer then counting
(R87, R105, R138). -/
def State.countActs (s : State) : List CountAct :=
  [.sample]
    ++ (((List.finRange 4).filter fun f => s.frames[f].counting).map CountAct.watchdog)
    ++ (((List.finRange 64).filter fun g => s.gauges[g].staleCounting).map CountAct.stale)
    ++ allZones.flatMap s.timersOf

/-- The order in which the events of a count come: those the command names, each once, then the rest. -/
def State.countSchedule (s : State) (t : CountArgs) : List CountAct :=
  t.order.eraseDups ++ s.countActs.filter fun a => !t.order.contains a

/-- One event of a count. -/
def State.countAct (s : State) (t : CountArgs) : CountAct → State
  | .sample => s.sampleInputs t.ck t.stopn
  | .watchdog f => s.watchdogTick f
  | .stale g => s.staleTick g
  | .clearTimer z tag => s.clearTimerTick z tag

/-- One count of the reference timer: the time stamp is increased by 1, wrapping, before any other event of the count is taken
(R1). -/
def State.referenceCount (s : State) (t : CountArgs) : State :=
  (s.countSchedule t).foldl (fun s a => s.countAct t a) (s.setStamp (s.stamp + 1#32))

/-- REFERENCE_COUNT (R1). -/
def execReferenceCount (t : CountArgs) (s : State) : Host.Outcome State Fault Refusal :=
  .next (s.referenceCount t)

/-- The count at which something comes about, when it can come about now; nothing otherwise (DESIGN CHOICE, safe,
notes/assumptions/7.md). -/
def State.countIf (s : State) (t : CountArgs) (now : Bool) : State :=
  if now then s.referenceCount t else s

/-- WATCHDOG_EXPIRY: the count at which the watchdog of frame f expires (R88). -/
def execWatchdogExpiry (f : Fin 4) (t : CountArgs) (s : State) : Host.Outcome State Fault Refusal :=
  .next (s.countIf t s.frames[f].due)

/-- STALE_EXPIRY: the count at which the stale timer of gauge g expires (R105). -/
def execStaleExpiry (g : Fin 64) (t : CountArgs) (s : State) : Host.Outcome State Fault Refusal :=
  .next (s.countIf t s.gauges[g].staleDue)

/-- CLEAR_TIMER_EXPIRY: the count at which the clear-timer of the entry with a tag in zone z reaches 0 (R138). -/
def execClearTimerExpiry (z : Fin 4) (tag : Half) (t : CountArgs) (s : State) : Host.Outcome State Fault Refusal :=
  .next (s.countIf t ((s.entry? z tag).any Entry.due))

end Sys2Proof.Machine
end

