-- ==== Sys2Proof/Machine/Channels.lean ====
section
/-! DEFINITION. The requests on actuator channels and load sets (R59 to R67, R71). -/
namespace Sys2Proof.Machine

/-- READ_CHANNEL's answer (R63, section 10.3). -/
def State.channelBytes (s : State) (c : Fin 8) : List Byte :=
  let o := s.outputs[c]
  let v := s.supervision[c]
  s.channels[c].bytes c
    ++ bytes2 s.activeSet.share[c] ++ bytes2 s.activeSet.offset[c] ++ bytes2 s.activeSet.ascale
    ++ bytes2 s.stagedSet.share[c] ++ bytes2 s.stagedSet.offset[c] ++ bytes2 s.stagedSet.ascale
    ++ [s.commit.code] ++ opt2 (s.setpoint? c) ++ bytes2 o.held ++ [o.flags, (s.channelZone c).code]
    ++ opt2 v.handedOut ++ opt2 v.force ++ opt2 v.stroke ++ [byteOf v.misses]

/-- A change of zone is refused STATE unless the generator is STOPPED or DONE and both zones are NORMAL or both DUMPED (R60). -/
def State.moveRefused (s : State) (c : Fin 8) (zone : Fin 4) : Bool :=
  s.channels[c].zone != zone
    && (s.gen.executing
      || !((s.channelZone c == .normal && s.zones[zone].state == .normal)
        || (s.channelZone c == .dumped && s.zones[zone].state == .dumped)))

/-- What SET_CHANNEL does when it is taken: the fields are replaced, the setpoint and held value brought inside the new window,
and the miss count set to 0 (R61). -/
def State.replaceChannel (s : State) (c : Fin 8) (ch : Channel) : State :=
  let o := s.outputs[c]
  let setpoint := if s.zones[ch.zone].state = .dumped then ch.ul else limit o.setpoint ch.fmin ch.fmax
  ((s.setChannels (s.channels.set c ch)).setOutputs
    (s.outputs.set c { o with setpoint := setpoint, held := limit o.held ch.fmin ch.fmax })).updSupervision c
    fun v => { v with misses := 0 }

/-- SET_CHANNEL (R59 to R61). -/
def execSetChannel (p : PortId) (a : ChannelArgs) (s : State) : Host.Outcome State Fault Refusal :=
  .next <| s.serve p .setChannel 25 fun s =>
    match channelOf? a with
    | none => .error .range
    | some (c, ch) =>
      if ch.conflicting then .error .conflict
      else if s.moveRefused c ch.zone then .error .state
      else
        let s := s.replaceChannel c ch
        .ok (s, s.channels[c].bytes c ++ opt2 (s.setpoint? c) ++ bytes2 s.outputs[c].held)

/-- READ_CHANNEL (R63). -/
def execReadChannel (p : PortId) (channel : Byte) (s : State) : Host.Outcome State Fault Refusal :=
  .next <| s.serve p .readChannel 1 fun s =>
    match index? 8 channel with
    | some c => .ok (s, s.channelBytes c)
    | none => .error .range

/-- STAGE_CHANNEL (R65). -/
def execStageChannel (p : PortId) (channel : Byte) (share offset : Half) (s : State) : Host.Outcome State Fault Refusal :=
  .next <| s.serve p .stageChannel 5 fun s =>
    match index? 8 channel with
    | none => .error .range
    | some c =>
      if share.toInt < -8192 ∨ 8192 < share.toInt then .error .range
      else if s.commit ≠ .none then .error .busy
      else
        .ok (s.setStagedSet
            { s.stagedSet with share := s.stagedSet.share.set c share, offset := s.stagedSet.offset.set c offset },
          bytes2 share ++ bytes2 offset ++ bytes2 s.activeSet.share[c] ++ bytes2 s.activeSet.offset[c])

/-- STAGE_SCALE (R66). -/
def execStageScale (p : PortId) (ascale : Half) (s : State) : Host.Outcome State Fault Refusal :=
  .next <| s.serve p .stageScale 2 fun s =>
    if 2048 < ascale.toNat then .error .range
    else if s.commit ≠ .none then .error .busy
    else .ok (s.setStagedSet { s.stagedSet with ascale := ascale }, bytes2 ascale ++ bytes2 s.activeSet.ascale)

/-- ARM_COMMIT (R67). -/
def execArmCommit (p : PortId) (mode : Byte) (s : State) : Host.Outcome State Fault Refusal :=
  .next <| s.serve p .armCommit 1 fun s =>
    match commitMode? mode with
    | none => .error .range
    | some m =>
      if s.commit ≠ .none then .error .busy
      else
        let s := s.setCommit (match m with | .now => .armedNow | .boundary => .armedBoundary)
        .ok (s, [s.commit.code])

/-- DISARM (R71). -/
def execDisarm (p : PortId) (s : State) : Host.Outcome State Fault Refusal :=
  .next <| s.serve p .disarm 0 fun s =>
    if s.commit = .none then .ok (s, [CommitOutcome.none.code])
    else
      .ok (((s.setCommit .none).record (.commit .cancelled)).addEvent .commitDone, [CommitOutcome.cancelled.code])

end Sys2Proof.Machine
end

