-- ==== Sys2Proof/Machine/Generator.lean ====
section
/-! DEFINITION. The requests of the load generator (R18 to R25, R37). -/
namespace Sys2Proof.Machine

/-- The answer of READ_GENERATOR (R37, section 10.3). -/
def State.generatorBytes (s : State) : List Byte :=
  let g := s.gen
  [g.state.code, blockIndex g.current, (g.currentBlock.map fun b => b.kind.code).getD 0x00#8]
    ++ bytes4 (match g.currentBlock with
      | some (.dwell _) => g.countdown
      | some (.cycle _ _ _) => if g.endless then 0#32 else g.remaining
      | some .stop | some (.ramp _ _) | some (.jump _ _) | none => 0#32)
    ++ [yes g.endless] ++ bytes4 g.phase ++ bytes2 (BitVec.ofNat 16 g.sineIndex) ++ bytes2 g.mean ++ bytes5 g.cycles
    ++ [yes g.requestedPause, yes s.pauseDemand, yes g.pendingAdvance, yes g.pendingStop, byteOf g.startIndex.val,
      g.lastReason.code]

/-- WRITE_BLOCK (R18). -/
def execWriteBlock (p : PortId) (a : BlockArgs) (s : State) : Host.Outcome State Fault Refusal :=
  .next <| s.serve p .writeBlock 12 fun s =>
    match index? 64 a.index, block? a with
    | some i, some b =>
      if b.kind = .jump ∧ a.head.extractLsb' 8 8 = a.index then .error .conflict
      else if s.gen.executing ∧ s.gen.current = some i then .error .busy
      else
        .ok (s.setGen { s.gen with program := s.gen.program.set i b, loops := s.gen.loops.set i 0#16 },
          [a.index, b.kind.code] ++ b.fieldBytes)
    | _, _ => .error .range

/-- READ_BLOCK (R20). -/
def execReadBlock (p : PortId) (index : Byte) (s : State) : Host.Outcome State Fault Refusal :=
  .next <| s.serve p .readBlock 1 fun s =>
    match index? 64 index with
    | some i =>
      .ok (s, [index, s.gen.program[i].kind.code] ++ s.gen.program[i].fieldBytes ++ bytes2 s.gen.loops[i])
    | none => .error .range

/-- SET_START_BLOCK (R19). -/
def execSetStartBlock (p : PortId) (index : Byte) (s : State) : Host.Outcome State Fault Refusal :=
  .next <| s.serve p .setStartBlock 1 fun s =>
    match index? 64 index with
    | some i => .ok (s.setGen { s.gen with startIndex := i }, [index])
    | none => .error .range

/-- What START does when it is taken: loop counters, phase and pendings are cleared, then the transition from the start index
(R22). -/
def State.startProgram (s : State) : State :=
  (s.setGen
    { s.gen with
      loops := Vector.replicate 64 0#16, phase := 0#32, pendingAdvance := false, pendingStop := false }).transition
    s.gen.startIndex.val true false

/-- START (R22). -/
def execStart (p : PortId) (s : State) : Host.Outcome State Fault Refusal :=
  .next <| s.serve p .start 0 fun s =>
    if s.gen.executing ∨ s.allNormal = false then .error .state
    else
      let s := s.startProgram
      .ok (s, [s.gen.state.code, blockIndex s.gen.current])

/-- PAUSE (R23): in RUNNING the generator enters PAUSED at once; it has no effect in STOPPED and DONE. -/
def execPause (p : PortId) (s : State) : Host.Outcome State Fault Refusal :=
  .next <| s.serve p .pause 0 fun s =>
    let s := if s.gen.executing then s.setGen { s.gen with requestedPause := true } else s
    let s := if s.gen.state = .running then s.moveGenerator .paused .pause else s
    .ok (s, [s.gen.state.code, yes s.gen.requestedPause])

/-- RESUME (R23): it clears the requested pause in every state, and in PAUSED the generator resumes unless the zone pause demand
is present. -/
def execResume (p : PortId) (s : State) : Host.Outcome State Fault Refusal :=
  .next <| s.serve p .resume 0 fun s =>
    let s := s.setGen { s.gen with requestedPause := false }
    let s := if s.gen.state = .paused ∧ s.pauseDemand = false then s.moveGenerator .running .resume else s
    .ok (s, [s.gen.state.code, yes s.gen.requestedPause])

/-- A CYCLE block is current (R24). -/
def Generator.cycling (g : Generator) : Bool :=
  match g.currentBlock with
  | some (.cycle _ _ _) => true
  | some .stop | some (.ramp _ _) | some (.dwell _) | some (.jump _ _) | none => false

/-- STOP (R24): it has no effect in STOPPED and DONE. -/
def execStop (p : PortId) (mode : Byte) (s : State) : Host.Outcome State Fault Refusal :=
  .next <| s.serve p .stop 1 fun s =>
    match stopMode? mode with
    | none => .error .range
    | some m =>
      let s :=
        if s.gen.executing then
          if m = .atBoundary ∧ s.gen.cycling then s.setGen { s.gen with pendingStop := true } else s.stopGenerator
        else s
      .ok (s, [s.gen.state.code, yes s.gen.pendingStop])

/-- ADVANCE (R25): it has no effect in STOPPED and DONE. -/
def execAdvance (p : PortId) (s : State) : Host.Outcome State Fault Refusal :=
  .next <| s.serve p .advance 0 fun s =>
    let s := if s.gen.executing then s.setGen { s.gen with pendingAdvance := true } else s
    .ok (s, [s.gen.state.code, yes s.gen.pendingAdvance])

/-- READ_GENERATOR (R37). -/
def execReadGenerator (p : PortId) (s : State) : Host.Outcome State Fault Refusal :=
  .next <| s.serve p .readGenerator 0 fun s => .ok (s, s.generatorBytes)

end Sys2Proof.Machine
end

