-- ==== Sys2Proof/Machine/Ports.lean ====
section
/-! DEFINITION. The rows of chapter 1 that are not bytes on a port: identification and events (R11 to R14), REINIT (R15), hardware
reset (R16), the malformed request (R3), and the select line (R2, R4). -/
namespace Sys2Proof.Machine

/-! ### Identification and events -/

/-- READ_IDENT (R14). -/
def execReadIdent (p : PortId) (s : State) : Host.Outcome State Fault Refusal :=
  .next <| s.serve p .readIdent 0 fun s => .ok (s, bytes2 Config.partCode ++ [Config.revision])

/-- READ_EVENTS (R11). -/
def execReadEvents (p : PortId) (s : State) : Host.Outcome State Fault Refusal :=
  .next <| s.serve p .readEvents 0 fun s =>
    .ok (s, [eventByte (s.eventStatus p), eventByte s.ports[portIndex p].mask])

/-- What CLEAR_EVENTS does: the latched events named leave the port's status. LOG_READY is not latched and stays as its
condition stands (R9, R12). -/
def State.clearEvents (s : State) (p : PortId) (events : BitVec 7) : State :=
  s.updPort p fun q => { q with latched := q.latched &&& ~~~ events }

/-- CLEAR_EVENTS (R12). The top bit of the byte names no event (R164). -/
def execClearEvents (p : PortId) (events : Byte) (s : State) : Host.Outcome State Fault Refusal :=
  .next <| s.serve p .clearEvents 1 fun s =>
    let s := s.clearEvents p (events.setWidth 7)
    .ok (s, [eventByte (s.eventStatus p)])

/-- A mask the port may not have: OWN_LATE at the DIRECTOR and LOGGER ports (R13). -/
def maskConflicts (p : PortId) (mask : BitVec 7) : Bool :=
  portGroup p != .frames && (mask &&& Event.ownLate.bit) != 0#7

/-- SET_EVENT_MASK (R13). The top bit of the byte names no event (R164). -/
def execSetEventMask (p : PortId) (mask : Byte) (s : State) : Host.Outcome State Fault Refusal :=
  .next <| s.serve p .setEventMask 1 fun s =>
    if maskConflicts p (mask.setWidth 7) then .error .conflict
    else
      let s := s.updPort p fun q => { q with mask := mask.setWidth 7 }
      .ok (s, [eventByte s.ports[portIndex p].mask, eventByte (s.eventStatus p)])

/-! ### REINIT (R15) -/

/-- Steps 1, 2 and the emptying of step 3: every configuration and running field at its reset value, with what REINIT keeps: the
time stamp, the cycle counter, the records, the LOST flag, the sequence and tag counters, the port contexts, and the gauge link
receivers (DEDUCED, unsafe, notes/assumptions/19.md). -/
def State.defaults (s : State) : State :=
  { State.reset with
    stamp := s.stamp
    ports := s.ports
    gen := { Generator.reset with cycles := s.gen.cycles }
    links := s.links
    zones := Vector.replicate 4 (Zone.dumpedWith [])
    tagCounter := s.tagCounter
    queue := { Queue.reset with
      records := s.queue.records, nextSeq := s.queue.nextSeq, lost := s.queue.lost, logReady := s.queue.logReady }
    pending := s.pending }

/-- The RESTART entry of one zone takes the next tag (step 3). -/
def State.restartZone (s : State) (z : Fin 4) : State :=
  s.appendEntry z (restartEntry z s.nextTag s.stamp s.gen.cycles)

/-- The tag of a zone's RESTART entry. -/
def Zone.restartTag (x : Zone) : Half :=
  (x.entries.head?.map Entry.tag).getD 0#16

/-- The records of one zone (step 4), given the zone's state before REINIT. -/
def State.restartRecords (s : State) (z : Fin 4) (before : ZoneState) : State :=
  let s := s.record (.alarmRaised z s.zones[z].restartTag (.restart z) .dumpZone 1#8 .dumped)
  if before = .dumped then s else s.record (.zoneChange z before .dumped)

/-- Step 5: every status is RESTART alone and every mask empty, and LOG_READY is set afresh against the default ON threshold. -/
def State.restartEvents (s : State) : State :=
  (s.setPorts (s.ports.map fun q => { q with latched := Event.restart.bit, mask := 0#7 })).setQueue
    { s.queue with logReady := decide (Config.defaultOn ≤ s.queue.records.length) }

/-- What REINIT does when it is taken (R15). -/
def State.reinit (s : State) : State :=
  (allZones.foldl (fun t z => t.restartRecords z s.zones[z].state)
    (allZones.foldl State.restartZone s.defaults)).restartEvents

/-- REINIT (R15). -/
def execReinit (p : PortId) (s : State) : Host.Outcome State Fault Refusal :=
  .next <| s.serve p .reinit 0 fun s => if s.gen.executing then .error .state else .ok (s.reinit, [])

/-! ### Hardware reset (R16) -/

/-- HARDWARE_RESET: the whole low pulse of RSTn. The part starts from its reset values (R1, R16, R38, R57, R74, R93, R114, R125,
R149, R163, R166); bit n of `selects` says that port n's select is asserted when RSTn returns high. The commands still waiting
are the outside's and stay (DESIGN CHOICE, safe, notes/assumptions/9.md and 15.md). -/
def execHardwareReset (selects : BitVec 6) (s : State) : Host.Outcome State Fault Refusal :=
  .next
    { State.reset with
      ports := Vector.ofFn fun i : Fin 6 => Port.reset (selects.getLsbD i.val)
      pending := s.pending }

/-! ### The window (R2, R3, R4) -/

/-- Put a window context into a port. -/
def State.setWindow (s : State) (p : PortId) (w : Window) : State :=
  s.updPort p fun q => { q with window := w }

/-- MALFORMED_REQUEST: a code that is not in the table, or a length its code does not accept, is taken at the second length byte
and answered BADREQ (R3). A code and length that are accepted make no malformed request, and nothing happens (DESIGN CHOICE,
safe, notes/assumptions/8.md). -/
def execMalformedRequest (p : PortId) (code : Byte) (length : Half) (s : State) : Host.Outcome State Fault Refusal :=
  .next (if (accepted? code length.toNat).isSome then s else s.answer p code length .badreq [])

/-- The phases from which a deassertion of select abandons a window; a window that spanned a hardware reset stands in IDLE
(R4, R16; DEDUCED, safe, notes/assumptions/14.md). -/
def Phase.untaken : Phase → Bool
  | .idle | .code | .length | .arguments => true
  | .answer | .spent => false

/-- WINDOW_ABANDONED: select is deasserted before the request is taken (R2, R4). -/
def execWindowAbandoned (p : PortId) (s : State) : Host.Outcome State Fault Refusal :=
  let w := s.ports[portIndex p].window
  .next (if w.selected && w.phase.untaken then s.setWindow p (Window.idle false) else s)

/-- SELECT_ASSERTED: a window begins in CODE with nothing kept (R2, R4). -/
def execSelectAsserted (p : PortId) (s : State) : Host.Outcome State Fault Refusal :=
  .next
    (if s.ports[portIndex p].window.selected then s else s.setWindow p { Window.idle true with phase := .code })

/-- SELECT_DEASSERTED_AFTER_ANSWER: the window returns to IDLE and any part of the answer not yet sent is discarded (R2). -/
def execSelectDeassertedAfterAnswer (p : PortId) (s : State) : Host.Outcome State Fault Refusal :=
  let w := s.ports[portIndex p].window
  .next (if w.selected && !w.phase.untaken then s.setWindow p (Window.idle false) else s)

end Sys2Proof.Machine
end

