-- ==== Sys2Proof/Machine/Records.lean ====
section
/-! DEFINITION. Snapshots (R158 to R160) and the requests on the record queue (R153, R155, R156, R160, R161). -/
namespace Sys2Proof.Machine

/-- The gauge entries of a snapshot: the enabled gauges in ascending order (R158). -/
def State.snapGauges (s : State) : List SnapGauge :=
  ((List.finRange 64).filter fun g => s.gauges[g].config.enabled).map fun g =>
    { gauge := g, extremes := s.gauges[g].run.last, fault := s.gauges[g].run.lastFault, sat := s.gauges[g].run.lastSat }

/-- The channel entries of a snapshot (R158). -/
def State.snapChannels (s : State) : Vector SnapChannel 8 :=
  Vector.ofFn fun c => { setpoint := s.setpoint? c, force := s.supervision[c].force, zone := s.channelZone c }

/-- The body of a snapshot made now (R158). -/
def State.snapshotBody (s : State) (trigger : Trigger) : Body :=
  .snapshot trigger s.gen.state s.gen.current s.snapGauges s.snapChannels

/-- TAKE_RECORD's effect on a queue whose oldest record is taken: the count falls, and at OFF or below LOG_READY clears (R153,
R154). -/
def Queue.taken (q : Queue) : Queue :=
  { q with
    records := q.records.tail
    logReady := q.logReady && !decide (q.records.tail.length ≤ q.off) }

/-- TAKE_RECORD (R153). -/
def execTakeRecord (p : PortId) (s : State) : Host.Outcome State Fault Refusal :=
  .next <| s.serve p .takeRecord 0 fun s =>
    match s.queue.records with
    | [] => .error .empty
    | r :: rest => .ok (s.setQueue s.queue.taken, r.bytes ++ [byteOf rest.length])

/-- The record a snapshot with this trigger would make now (R150, R158). -/
def State.snapshotRecord (s : State) (trigger : Trigger) : Record :=
  { seq := s.queue.nextSeq, stamp := s.stamp, cycle := s.gen.cycles, body := s.snapshotBody trigger }

/-- What SNAPSHOT does: the snapshot is made and offered, and the auto-suspend flag set (R160). -/
def State.manualSnapshot (s : State) (trigger : Trigger) : State :=
  let s := s.record (s.snapshotBody trigger)
  s.setQueue { s.queue with suspended := true }

/-- The trigger of a manual snapshot, by the port at which it is taken (R160). -/
def manualTrigger : PortId → Trigger
  | .logger => .logger
  | .director | .frame _ => .director

/-- SNAPSHOT (R160). -/
def execSnapshot (p : PortId) (s : State) : Host.Outcome State Fault Refusal :=
  .next <| s.serve p .snapshot 0 fun s =>
    .ok (s.manualSnapshot (manualTrigger p),
      bytes2 s.queue.nextSeq ++ [yes (s.queue.admits (s.snapshotRecord (manualTrigger p)))])

/-- RESUME_AUTO_SNAPSHOT (R161). -/
def execResumeAutoSnapshot (p : PortId) (s : State) : Host.Outcome State Fault Refusal :=
  .next <| s.serve p .resumeAutoSnapshot 0 fun s =>
    .ok (s.setQueue { s.queue with autoCount := 0#16, suspended := false },
      bytes2 s.queue.interval ++ bytes2 0#16 ++ [yes false])

/-- What SET_QUEUE makes of a queue: the three fields replaced, LOG_READY re-evaluated against the new thresholds, and the
automatic counter set to 0 if N changed (R154, R155). -/
def Queue.configured (q : Queue) (on off : Nat) (interval : Half) : Queue :=
  { q with
    on := on, off := off, interval := interval
    logReady :=
      if on ≤ q.records.length then true else if q.records.length ≤ off then false else q.logReady
    autoCount := if interval = q.interval then q.autoCount else 0#16 }

/-- SET_QUEUE (R155). -/
def execSetQueue (p : PortId) (on off : Byte) (n : Half) (s : State) : Host.Outcome State Fault Refusal :=
  .next <| s.serve p .setQueue 4 fun s =>
    match thresholds? on off with
    | none => .error .range
    | some (a, b) =>
      let q := s.queue.configured a b n
      .ok (s.setQueue q, [byteOf a, byteOf b] ++ bytes2 n ++ [yes q.logReady])

/-- The answer of READ_QUEUE (R156, section 10.3). -/
def Queue.bytes (q : Queue) : List Byte :=
  [byteOf q.records.length, byteOf (q.records.filter Record.isSnapshot).length]
    ++ opt2 (q.records.head?.map Record.seq) ++ bytes2 q.nextSeq
    ++ [yes q.lost, yes q.logReady, byteOf q.on, byteOf q.off] ++ bytes2 q.interval ++ bytes2 q.autoCount
    ++ [yes q.suspended]

/-- READ_QUEUE (R156): at the LOGGER port it clears the LOST flag after its answer has been built. -/
def execReadQueue (p : PortId) (s : State) : Host.Outcome State Fault Refusal :=
  .next <| s.serve p .readQueue 0 fun s =>
    .ok (if p = .logger then s.setQueue { s.queue with lost := false } else s, s.queue.bytes)

/-- The record queue's part of the boundary notice: the automatic snapshot counter (R159). -/
def State.autoSnapshot (s : State) : State :=
  if s.queue.interval = 0#16 then s
  else if s.queue.suspended then s
  else if s.queue.autoCount + 1#16 = s.queue.interval then
    (s.setQueue { s.queue with autoCount := 0#16 }).record (s.snapshotBody .auto)
  else s.setQueue { s.queue with autoCount := s.queue.autoCount + 1#16 }

end Sys2Proof.Machine
end

