-- ==== Sys2Proof/Machine/PortBytes.lean ====
section
/-! DEFINITION. A byte clocked at a port (R2, R3): the request is assembled byte by byte, taken, and its answer sent. Taking a
request runs the meaning of its row, so that a request taken here and the row's own command do the same. -/
namespace Sys2Proof.Machine

/-- The meaning of a request row; an event row is no request, and nothing happens. -/
def requestMeaning (i : Instr) (s : State) : Host.Outcome State Fault Refusal :=
  match i with
  | .readIdent p => execReadIdent p s
  | .readEvents p => execReadEvents p s
  | .clearEvents p e => execClearEvents p e s
  | .setEventMask p m => execSetEventMask p m s
  | .reinit p => execReinit p s
  | .writeBlock p a => execWriteBlock p a s
  | .readBlock p i => execReadBlock p i s
  | .setStartBlock p i => execSetStartBlock p i s
  | .start p => execStart p s
  | .pause p => execPause p s
  | .resume p => execResume p s
  | .stop p m => execStop p m s
  | .advance p => execAdvance p s
  | .readGenerator p => execReadGenerator p s
  | .setChannel p a => execSetChannel p a s
  | .readChannel p c => execReadChannel p c s
  | .stageChannel p c x o => execStageChannel p c x o s
  | .stageScale p a => execStageScale p a s
  | .armCommit p m => execArmCommit p m s
  | .disarm p => execDisarm p s
  | .servoExchange p fa fb sa sb => execServoExchange p fa fb sa sb s
  | .trip p n => execTrip p n s
  | .setFrame p a => execSetFrame p a s
  | .readFrame p f => execReadFrame p f s
  | .setGauge p a => execSetGauge p a s
  | .captureBaseline p => execCaptureBaseline p s
  | .readGauges p a n => execReadGauges p a n s
  | .setCrack p a => execSetCrack p a s
  | .clearCrackLatch p i => execClearCrackLatch p i s
  | .readCrack p => execReadCrack p s
  | .setZone p z i u r => execSetZone p z i u r s
  | .release p z t => execRelease p z t s
  | .reloadZone p z => execReloadZone p z s
  | .readZone p z => execReadZone p z s
  | .takeRecord p => execTakeRecord p s
  | .snapshot p => execSnapshot p s
  | .resumeAutoSnapshot p => execResumeAutoSnapshot p s
  | .setQueue p a b n => execSetQueue p a b n s
  | .readQueue p => execReadQueue p s
  | .malformedRequest _ _ _ | .windowAbandoned _ | .hardwareReset _ | .update | .commitApplyNow | .boundary
  | .commitApplyBoundary | .pendingStopActs | .pendingAdvanceActs | .dwellEnd | .rampEnd | .boundaryRemoval
  | .baselineCapture _ | .zoneRampComplete _ | .referenceCount _ | .watchdogExpiry _ _ | .staleExpiry _ _
  | .clearTimerExpiry _ _ _ | .gaugeFrame _ _ | .selectAsserted _ | .portByteClocked _ _
  | .selectDeassertedAfterAnswer _ | .gaugeLinkStartCondition _ | .gaugeLinkClockEdge _ _ => .next s

/-- A request is taken: the code and length received name it, and its row's meaning runs on its arguments (R3). A code and
length that the table does not accept are answered BADREQ; R3 keeps a window with such a code out of ARGUMENTS (DESIGN CHOICE,
safe, notes/assumptions/22.md). -/
def takeRequest (p : PortId) (code : Byte) (length : Half) (args : List Byte) (s : State) :
    Host.Outcome State Fault Refusal :=
  match (accepted? code length.toNat).bind fun r => parseRequest p r args with
  | some i => requestMeaning i s
  | none => .next (s.answer p code length .badreq [])

/-- PORT_BYTE_CLOCKED: one byte is received and one sent over the same eight clocks. With select deasserted the clocks are
ignored (R2); in IDLE with select asserted, in a window that spanned a hardware reset, the byte is ignored and answered FFh
(R16). -/
def execPortByteClocked (p : PortId) (byte : Byte) (s : State) : Host.Outcome State Fault Refusal :=
  let w := s.ports[portIndex p].window
  let filler : Option Byte := some Config.fillerByte
  if w.selected then
    match w.phase with
    | .idle => .next (s.setWindow p { w with sdo := filler })
    | .code => .next (s.setWindow p { w with phase := .length, code := byte, lengthHigh := none, sdo := filler })
    | .length =>
      match w.lengthHigh with
      | none => .next (s.setWindow p { w with lengthHigh := some byte, sdo := filler })
      | some high =>
        let length := be2 high byte
        if (accepted? w.code length.toNat).isSome ∧ length ≠ 0#16 then
          .next (s.setWindow p
            { w with
              phase := .arguments, lengthHigh := none, length := length, expected := length.toNat, args := []
              sdo := filler })
        else takeRequest p w.code length [] s
    | .arguments =>
      if w.expected ≤ 1 then takeRequest p w.code w.length (w.args ++ [byte]) s
      else .next (s.setWindow p { w with expected := w.expected - 1, args := w.args ++ [byte], sdo := filler })
    | .answer =>
      match w.unsent with
      | x :: y :: rest => .next (s.setWindow p { w with unsent := y :: rest, sdo := some x })
      | [x] => .next (s.setWindow p { w with phase := .spent, unsent := [], sdo := some x })
      | [] => .next (s.setWindow p { w with phase := .spent, sdo := filler })
    | .spent => .next (s.setWindow p { w with sdo := filler })
  else .next s

end Sys2Proof.Machine
end

