-- ==== Sys2Proof/Machine/Update.lean ====
section
/-! DEFINITION. The update of the load generator and the setpoint unit (R26 to R30, R42, R52, R68, R69), whole, and the rows of the
table that name what comes about at an update. The reference makes each of these a part of one update and not an event of its
own: its command takes the update at which it comes about, and does nothing when it cannot come about now (DESIGN CHOICE, safe,
notes/assumptions/6.md). -/
namespace Sys2Proof.Machine

/-- The amplitude handed on: that of the current block when it is a CYCLE, 0 otherwise (R26, R43). -/
def Generator.amplitude (g : Generator) : Half :=
  match g.currentBlock with
  | some (.cycle a _ _) => a
  | some .stop | some (.ramp _ _) | some (.dwell _) | some (.jump _ _) | none => 0#16

/-- The phase accumulator after the addition of a CYCLE's frequency word, before the carry is taken off (R29). -/
def Generator.phaseSum (g : Generator) : Nat :=
  match g.currentBlock with
  | some (.cycle _ f _) => g.phase.toNat + f.toNat
  | some .stop | some (.ramp _ _) | some (.dwell _) | some (.jump _ _) | none => g.phase.toNat

/-- The next update carries out of the accumulator: it holds a boundary (R29, R30). -/
def Generator.carries (g : Generator) : Bool :=
  g.state == .running && 2 ^ 32 ≤ g.phaseSum

/-- The cycle counter after a boundary, saturating at 2^40 − 1 (R31). -/
def Generator.cyclesAfter (g : Generator) : Cycle40 :=
  if g.cycles = Config.maxCycles then Config.maxCycles else g.cycles + 1#40

/-- The remaining count of a finite CYCLE after a boundary (R30, step 2). -/
def Generator.remainingAfter (g : Generator) : Word :=
  if g.endless then g.remaining else BitVec.ofNat 32 (g.remaining.toNat - 1)

/-- The CYCLE ends at this boundary (R30, step 3). -/
def Generator.cycleEnds (g : Generator) : Bool :=
  (!g.endless && g.remainingAfter == 0#32) || g.pendingAdvance || g.pendingStop

/-- Steps 1 to 3 of a boundary with block i current (R30). -/
def State.boundarySteps (s : State) (i : Fin 64) : State :=
  let g := s.gen
  let s := s.setGen
    { g with
      cycles := g.cyclesAfter, remaining := g.remainingAfter
      phase := if g.cycleEnds then 0#32 else BitVec.ofNat 32 g.phaseSum }
  if g.cycleEnds then
    if g.pendingStop then s.stopGenerator else s.transition (i.val + 1) false g.pendingAdvance
  else s

/-- The generator's part of an update in RUNNING (R27, R28, R29). -/
def State.advanceBlock (s : State) : State :=
  match s.gen.current, s.gen.currentBlock with
  | some i, some (.ramp target rate) =>
    let mean := if s.gen.pendingAdvance then s.gen.mean else rampStep s.gen.mean target rate
    let s' := s.setGen { s.gen with mean := mean }
    if s.gen.pendingAdvance ∨ mean = target then s'.transition (i.val + 1) false s.gen.pendingAdvance else s'
  | some i, some (.dwell _) =>
    let s' := s.setGen { s.gen with countdown := BitVec.ofNat 32 (s.gen.countdown.toNat - 1) }
    if s.gen.pendingAdvance ∨ s.gen.countdown.toNat ≤ 1 then s'.transition (i.val + 1) false s.gen.pendingAdvance else s'
  | some i, some (.cycle _ _ _) =>
    if s.gen.carries then s.boundarySteps i else s.setGen { s.gen with phase := BitVec.ofNat 32 s.gen.phaseSum }
  | _, _ => s

/-- The generator's part of an update, by its state (R26). -/
def State.advance (s : State) : State :=
  match s.gen.state with
  | .running => s.advanceBlock
  | .paused | .stopped | .done => s

/-- What the generator hands on at an update from its state before the update: the mean and sine index after the block's step,
those of the block that governed the update (R26, R29, R30). The index at the first update of a CYCLE block is the one after the first
addition, F ÷ 2^20, as R26, R29, R40 and section 2.7 give it, and not 0, as a remark under R44 has it; below 2^20 the two agree
(DESIGN CHOICE, unsafe, notes/assumptions/27.md). -/
def Generator.drive (g : Generator) : Drive :=
  match g.state with
  | .running =>
    match g.currentBlock with
    | some (.ramp target rate) =>
      { mean := if g.pendingAdvance then g.mean else rampStep g.mean target rate, amplitude := 0#16, index := g.sineIndex }
    | some (.cycle a _ _) =>
      { mean := g.mean, amplitude := a
        index := if g.carries && g.cycleEnds then 0 else g.phaseSum % 2 ^ 32 / 2 ^ 20 }
    | some .stop | some (.dwell _) | some (.jump _ _) | none => { mean := g.mean, amplitude := 0#16, index := g.sineIndex }
  | .paused => { mean := g.mean, amplitude := g.amplitude, index := g.sineIndex }
  | .stopped | .done => { mean := g.mean, amplitude := 0#16, index := 0 }

/-- An armed NOW commit applies at the beginning of the update (R68); its record carries the cycle count as it then stands, before a
boundary of the same update increments it (DESIGN CHOICE, unsafe, notes/assumptions/28.md). -/
def State.commitNow (s : State) : State :=
  if s.commit = .armedNow then s.applyCommit .appliedNow else s

/-- An armed BOUNDARY commit applies at step 4 of the boundary (R69). -/
def State.commitAtBoundary (s : State) : State :=
  if s.commit = .armedBoundary then s.applyCommit .appliedBoundary else s

/-- Step 5 of a boundary, the notice: to zone protection, to the strain unit and to the record queue; the generator's entry into
PAUSED that a drift raise brings comes last (R30, R107, R159). -/
def State.boundaryNotice (s : State) : State :=
  ((s.boundaryRemovals.closeCycles).autoSnapshot).syncPause

/-- The update up to the setpoints: an armed NOW commit, the generator's step, and at a boundary its steps 1 to 4 (R26, R30, R68). The
NOW commit comes before the boundary and is no part of that event, so its record carries the cycle count without that boundary where
R150's words on a boundary's records could be read to include it (DESIGN CHOICE, unsafe, notes/assumptions/28.md). -/
def State.updateGenerator (s : State) : State :=
  let s := s.commitNow
  let s' := s.advance
  if s.gen.carries then s'.commitAtBoundary else s'

/-- The demand of the next update, from the values handed on and the active set as it then stands (R42 to R44). -/
def State.updateDemand (s : State) : Int :=
  demand s.gen.drive s.updateGenerator.activeSet.ascale

/-- The update with its setpoints computed, before the arrival report is acted on (R42). -/
def State.updateSetpoints (s : State) : State :=
  s.updateGenerator.computeSetpoints s.updateDemand

/-- One update, whole (R26, R42); its records follow its steps (DEDUCED, unsafe, notes/assumptions/16.md). -/
def State.update (s : State) : State :=
  let s' := s.updateSetpoints.arrive s.updateDemand
  if s.gen.carries then s'.boundaryNotice else s'

/-- UPDATE (R26). -/
def execUpdate (s : State) : Host.Outcome State Fault Refusal :=
  .next s.update

/-- The update at which something comes about, when it can come about now; nothing otherwise. -/
def State.updateIf (s : State) (now : Bool) : State :=
  if now then s.update else s

/-- COMMIT_APPLY_NOW: the update at which an ARMED NOW commit applies (R68). -/
def execCommitApplyNow (s : State) : Host.Outcome State Fault Refusal :=
  .next (s.updateIf (s.commit == .armedNow))

/-- BOUNDARY: the update whose addition carries (R30). -/
def execBoundary (s : State) : Host.Outcome State Fault Refusal :=
  .next (s.updateIf s.gen.carries)

/-- COMMIT_APPLY_BOUNDARY: the boundary at which an ARMED BOUNDARY commit applies (R69). -/
def execCommitApplyBoundary (s : State) : Host.Outcome State Fault Refusal :=
  .next (s.updateIf (s.gen.carries && s.commit == .armedBoundary))

/-- PENDING_STOP_ACTS: the boundary at which a pending stop takes effect (R30). -/
def execPendingStopActs (s : State) : Host.Outcome State Fault Refusal :=
  .next (s.updateIf (s.gen.carries && s.gen.pendingStop))

/-- A RAMP or DWELL block is current (R24, R25). -/
def Generator.timedBlock (g : Generator) : Bool :=
  match g.currentBlock with
  | some (.ramp _ _) | some (.dwell _) => true
  | some .stop | some (.cycle _ _ _) | some (.jump _ _) | none => false

/-- PENDING_ADVANCE_ACTS: the update in RUNNING at which a pending ADVANCE ends a RAMP or DWELL, or the boundary at which it ends
a CYCLE (R25). -/
def execPendingAdvanceActs (s : State) : Host.Outcome State Fault Refusal :=
  .next (s.updateIf (s.gen.pendingAdvance && ((s.gen.state == .running && s.gen.timedBlock) || s.gen.carries)))

/-- The next update ends a DWELL by its countdown (R28). -/
def Generator.dwellExpires (g : Generator) : Bool :=
  match g.state, g.currentBlock with
  | .running, some (.dwell _) => decide (g.countdown.toNat ≤ 1)
  | _, _ => false

/-- DWELL_END: the update at which a DWELL countdown reaches 0 (R28). -/
def execDwellEnd (s : State) : Host.Outcome State Fault Refusal :=
  .next (s.updateIf s.gen.dwellExpires)

/-- The next update ends a RAMP at its target (R27). -/
def Generator.rampArrives (g : Generator) : Bool :=
  match g.state, g.currentBlock with
  | .running, some (.ramp target rate) => !g.pendingAdvance && rampStep g.mean target rate == target
  | _, _ => false

/-- RAMP_END: the update at which the mean in force reaches the RAMP target (R27). -/
def execRampEnd (s : State) : Host.Outcome State Fault Refusal :=
  .next (s.updateIf s.gen.rampArrives)

/-- A list holds an entry that the boundary notice removes (R139). -/
def State.removalDue (s : State) : Bool :=
  allZones.any fun z => s.zones[z].entries.any Entry.boundaryDue

/-- BOUNDARY_REMOVAL: the boundary at whose notice BOUNDARY entries are removed (R139). -/
def execBoundaryRemoval (s : State) : Host.Outcome State Fault Refusal :=
  .next (s.updateIf (s.gen.carries && s.removalDue))

/-- BASELINE_CAPTURE: the boundary at which a pending capture of gauge g sets its baseline (R109). -/
def execBaselineCapture (g : Fin 64) (s : State) : Host.Outcome State Fault Refusal :=
  .next (s.updateIf
    (s.gen.carries && s.gauges[g].config.enabled && s.gauges[g].run.capture && s.gauges[g].run.running.isSome))

/-- The arrival report of the next update completes the ramp of a zone (R136). -/
def State.rampCompletes (s : State) (z : Fin 4) : Bool :=
  let s' := s.updateSetpoints
  (s.zones[z].state == .unloading && s'.atUnloadLevel z)
    || (s.zones[z].state == .reloading && s'.atTarget s.updateDemand z)

/-- ZONE_RAMP_COMPLETE: the update on whose arrival report the ramp of zone z completes (R136). -/
def execZoneRampComplete (z : Fin 4) (s : State) : Host.Outcome State Fault Refusal :=
  .next (s.updateIf (s.rampCompletes z))

end Sys2Proof.Machine
end

