-- ==== Sys2Proof/Machine/Dispatch.lean ====
section
/-! DEFINITION. The effect of each command: one arm per row of spec/opcode_table.json, in its order. -/
namespace Sys2Proof.Machine

def exec (i : Instr) (s : State) : Host.Outcome State Fault Refusal :=
  match i with
  | .malformedRequest p code length => Sys2Proof.Machine.execMalformedRequest p code length s
  | .windowAbandoned p => Sys2Proof.Machine.execWindowAbandoned p s
  | .hardwareReset selects => Sys2Proof.Machine.execHardwareReset selects s
  | .readIdent p => Sys2Proof.Machine.execReadIdent p s
  | .readEvents p => Sys2Proof.Machine.execReadEvents p s
  | .clearEvents p events => Sys2Proof.Machine.execClearEvents p events s
  | .setEventMask p mask => Sys2Proof.Machine.execSetEventMask p mask s
  | .reinit p => Sys2Proof.Machine.execReinit p s
  | .writeBlock p a => Sys2Proof.Machine.execWriteBlock p a s
  | .readBlock p index => Sys2Proof.Machine.execReadBlock p index s
  | .setStartBlock p index => Sys2Proof.Machine.execSetStartBlock p index s
  | .start p => Sys2Proof.Machine.execStart p s
  | .pause p => Sys2Proof.Machine.execPause p s
  | .resume p => Sys2Proof.Machine.execResume p s
  | .stop p mode => Sys2Proof.Machine.execStop p mode s
  | .advance p => Sys2Proof.Machine.execAdvance p s
  | .readGenerator p => Sys2Proof.Machine.execReadGenerator p s
  | .setChannel p a => Sys2Proof.Machine.execSetChannel p a s
  | .readChannel p channel => Sys2Proof.Machine.execReadChannel p channel s
  | .stageChannel p channel share offset => Sys2Proof.Machine.execStageChannel p channel share offset s
  | .stageScale p ascale => Sys2Proof.Machine.execStageScale p ascale s
  | .armCommit p mode => Sys2Proof.Machine.execArmCommit p mode s
  | .disarm p => Sys2Proof.Machine.execDisarm p s
  | .servoExchange p forceA forceB strokeA strokeB => Sys2Proof.Machine.execServoExchange p forceA forceB strokeA strokeB s
  | .trip p reason => Sys2Proof.Machine.execTrip p reason s
  | .setFrame p a => Sys2Proof.Machine.execSetFrame p a s
  | .readFrame p frame => Sys2Proof.Machine.execReadFrame p frame s
  | .setGauge p a => Sys2Proof.Machine.execSetGauge p a s
  | .captureBaseline p => Sys2Proof.Machine.execCaptureBaseline p s
  | .readGauges p first count => Sys2Proof.Machine.execReadGauges p first count s
  | .setCrack p a => Sys2Proof.Machine.execSetCrack p a s
  | .clearCrackLatch p inputs => Sys2Proof.Machine.execClearCrackLatch p inputs s
  | .readCrack p => Sys2Proof.Machine.execReadCrack p s
  | .setZone p zone isolate unloadRate reloadRate => Sys2Proof.Machine.execSetZone p zone isolate unloadRate reloadRate s
  | .release p zone tag => Sys2Proof.Machine.execRelease p zone tag s
  | .reloadZone p zone => Sys2Proof.Machine.execReloadZone p zone s
  | .readZone p zone => Sys2Proof.Machine.execReadZone p zone s
  | .takeRecord p => Sys2Proof.Machine.execTakeRecord p s
  | .snapshot p => Sys2Proof.Machine.execSnapshot p s
  | .resumeAutoSnapshot p => Sys2Proof.Machine.execResumeAutoSnapshot p s
  | .setQueue p on off n => Sys2Proof.Machine.execSetQueue p on off n s
  | .readQueue p => Sys2Proof.Machine.execReadQueue p s
  | .update => Sys2Proof.Machine.execUpdate s
  | .commitApplyNow => Sys2Proof.Machine.execCommitApplyNow s
  | .boundary => Sys2Proof.Machine.execBoundary s
  | .commitApplyBoundary => Sys2Proof.Machine.execCommitApplyBoundary s
  | .pendingStopActs => Sys2Proof.Machine.execPendingStopActs s
  | .pendingAdvanceActs => Sys2Proof.Machine.execPendingAdvanceActs s
  | .dwellEnd => Sys2Proof.Machine.execDwellEnd s
  | .rampEnd => Sys2Proof.Machine.execRampEnd s
  | .boundaryRemoval => Sys2Proof.Machine.execBoundaryRemoval s
  | .baselineCapture g => Sys2Proof.Machine.execBaselineCapture g s
  | .zoneRampComplete z => Sys2Proof.Machine.execZoneRampComplete z s
  | .referenceCount t => Sys2Proof.Machine.execReferenceCount t s
  | .watchdogExpiry f t => Sys2Proof.Machine.execWatchdogExpiry f t s
  | .staleExpiry g t => Sys2Proof.Machine.execStaleExpiry g t s
  | .clearTimerExpiry z tag t => Sys2Proof.Machine.execClearTimerExpiry z tag t s
  | .gaugeFrame link bits => Sys2Proof.Machine.execGaugeFrame link bits s
  | .selectAsserted p => Sys2Proof.Machine.execSelectAsserted p s
  | .portByteClocked p byte => Sys2Proof.Machine.execPortByteClocked p byte s
  | .selectDeassertedAfterAnswer p => Sys2Proof.Machine.execSelectDeassertedAfterAnswer p s
  | .gaugeLinkStartCondition link => Sys2Proof.Machine.execGaugeLinkStartCondition link s
  | .gaugeLinkClockEdge link bit => Sys2Proof.Machine.execGaugeLinkClockEdge link bit s

end Sys2Proof.Machine
end

