-- ==== Sys2Proof/Safety.lean ====
section
/-! DEFINITION. What holds of the part at every moment: the properties the reference states of the whole part, each as a predicate
of the state that every step keeps, and the words in which statements speak of answers. -/
namespace Sys2Proof.Machine

/-- The answer standing in the window of a port, if one has been built. -/
def State.answerOf (s : State) (p : PortId) : Option (List Byte) :=
  s.ports[portIndex p].window.answer

/-- An event stands in the event status of a port. -/
def State.holds (s : State) (p : PortId) (e : Event) : Bool :=
  (s.eventStatus p &&& e.bit) != 0#7

/-- The commands, in order, each on the state the one before left; it stops at the first that has no next state. -/
def execAll : List Instr → State → Host.Outcome State Fault Refusal
  | [], s => .next s
  | c :: rest, s =>
    match exec c s with
    | .next t => execAll rest t
    | .fault r => .fault r
    | .refused r => .refused r

/-! ### The record queue -/

/-- The record queue holds at most 128 records (R152). -/
abbrev State.QueueBounded (s : State) : Prop :=
  s.queue.records.length ≤ Config.queueCapacity

/-- LOG_READY is settled: set at ON records or more, clear at OFF or fewer, with ON in 1..128 and OFF below it (R154). -/
abbrev State.ReadySettled (s : State) : Prop :=
  (1 ≤ s.queue.on ∧ s.queue.on ≤ Config.queueCapacity ∧ s.queue.off < s.queue.on)
    ∧ (s.queue.on ≤ s.queue.records.length → s.queue.logReady = true)
    ∧ (s.queue.records.length ≤ s.queue.off → s.queue.logReady = false)

/-! ### Zones and alarm lists -/

/-- Each list holds at most one entry per source, at most 12 source entries and at most one overflow entry; no two entries of the
four lists carry the same tag, and none carries tag 0 (R131, R132). -/
abbrev State.ListsLawful (s : State) : Prop :=
  (∀ z : Fin 4,
      s.zones[z].sourceEntries.length ≤ Config.maxSourceEntries
        ∧ (s.zones[z].sourceEntries.map Entry.source).Nodup
        ∧ (s.zones[z].entries.filter fun e => e.kind == .overflow).length ≤ 1)
    ∧ s.usedTags.Nodup ∧ 0#16 ∉ s.usedTags

/-- A zone stands at least as protected as each entry of its list asks: out of NORMAL and RELOADING for HOLD, out of HELD as well
for UNLOAD, and DUMPED for DUMP (R134, R142). -/
abbrev State.ZonesProtected (s : State) : Prop :=
  ∀ z : Fin 4, ∀ e ∈ s.zones[z].entries,
    (1 ≤ e.action.severity → s.zones[z].state ≠ .normal ∧ s.zones[z].state ≠ .reloading)
      ∧ (2 ≤ e.action.severity → s.zones[z].state ≠ .held)
      ∧ (3 ≤ e.action.severity → s.zones[z].state = .dumped)

/-- The STOP condition is the line's qualified LOW, the STOP hold goes with it, and while it stands every zone is DUMPED; a STOP
entry's action is one that dumps (R123, R143). -/
abbrev State.StopObeyed (s : State) : Prop :=
  s.stopLine.condition = decide (s.stopLine.qualifier.level = some .low)
    ∧ s.stopHold = s.stopLine.condition
    ∧ (s.stopLine.condition = true → ∀ z : Fin 4, s.zones[z].state = .dumped)
    ∧ ∀ z : Fin 4, ∀ e ∈ s.zones[z].entries, e.isOf .stop = true → e.action.severity = 3

/-! ### Setpoints -/

/-- Every channel's UL lies in its force window; outside DUMPED its setpoint does too, and in DUMPED it stands at UL (R53, R51). -/
abbrev State.SetpointsBound (s : State) : Prop :=
  ∀ c : Fin 8,
    (s.channels[c].fmin.toInt ≤ s.channels[c].ul.toInt ∧ s.channels[c].ul.toInt ≤ s.channels[c].fmax.toInt)
      ∧ (s.channelZone c = .dumped → s.outputs[c].setpoint = s.channels[c].ul)
      ∧ (s.channelZone c ≠ .dumped →
          s.channels[c].fmin.toInt ≤ s.outputs[c].setpoint.toInt
            ∧ s.outputs[c].setpoint.toInt ≤ s.channels[c].fmax.toInt)

/-! ### The load generator -/

/-- A block that can govern an update (section 2.2). -/
def Block.governs : Block → Bool
  | .ramp _ _ | .dwell _ | .cycle _ _ _ => true
  | .stop | .jump _ _ => false

/-- A RAMP, DWELL or CYCLE block governs exactly in RUNNING and PAUSED; RUNNING stands only while neither pause input is present
and PAUSED only while one is; with no block current nothing is pending and the phase is 0; and the phase is 0 and no stop is
pending unless a CYCLE block is current (section 2.2, R21, R24, R29, R34). -/
abbrev State.GeneratorLawful (s : State) : Prop :=
  ((s.gen.state = .running ∨ s.gen.state = .paused) ↔ s.gen.current.isSome)
    ∧ (∀ b, s.gen.currentBlock = some b → b.governs = true)
    ∧ (s.gen.state = .running → s.pauseDemand = false ∧ s.gen.requestedPause = false)
    ∧ (s.gen.state = .paused → s.pauseDemand = true ∨ s.gen.requestedPause = true)
    ∧ (s.gen.current = none →
        s.gen.requestedPause = false ∧ s.gen.pendingAdvance = false ∧ s.gen.pendingStop = false)
    ∧ (s.gen.cycling = false → s.gen.phase = 0#32 ∧ s.gen.pendingStop = false)

/-- Every JUMP block's loop counter is at most its repeat count (R33). -/
abbrev State.LoopsBounded (s : State) : Prop :=
  ∀ i : Fin 64, ∀ j k, s.gen.program[i] = .jump j k → s.gen.loops[i].toNat ≤ k.toNat

/-! ### Counts -/

/-- The counts toward K, n and M stay below them and so within 0..14, a run of samples stays within 0..15, a stale timer within
0..1000 ms, a link's bit count within 0..40 and the automatic snapshot counter below N, or 0 with N of 0 (R75, R99, R116, R159, R166). -/
abbrev State.CountsInRange (s : State) : Prop :=
  (∀ c : Fin 8, s.supervision[c].misses < s.channels[c].k ∧ s.channels[c].k ≤ 15)
    ∧ (∀ g : Fin 64,
        (s.gauges[g].config.n ≤ 15 ∧ s.gauges[g].config.m ≤ 15 ∧ s.gauges[g].config.staleTime.toNat ≤ 1000)
          ∧ s.gauges[g].run.outCount < s.gauges[g].config.n ∧ s.gauges[g].run.inCount < s.gauges[g].config.n
          ∧ s.gauges[g].run.driftCount < s.gauges[g].config.m ∧ s.gauges[g].run.staleLeft.toNat ≤ 1000)
    ∧ (∀ i : Fin 16, s.cracks[i].qualifier.run ≤ 15)
    ∧ s.stopLine.qualifier.run ≤ 15
    ∧ (∀ l : Fin 2, s.links[l].count ≤ 40)
    ∧ s.queue.autoCount.toNat < max 1 s.queue.interval.toNat

/-- Timed seconds in their range (R59, R86, R96, R121). -/
abbrev timedSeconds (x : Half) : Prop :=
  1 ≤ x.toNat ∧ x.toNat ≤ Config.maxSeconds

/-- A timer that is running has time left, so that none rests at 0: the watchdog of a frame in ALIVE or LATE, a RUNNING stale timer, the
clear-timer of a TIMED entry whose condition is clear, the countdown of a current DWELL and the remaining count of a current finite
CYCLE. A clear-timer stays within 0..3,600,000 ms. What the timers are set from is in range: a watched frame has a period, a gauge with
a stale timer a stale time, a DWELL block a duration, and the timed seconds of every source and entry are 1..3600 (R17, R28, R30, R87,
R88, R95, R105, R128, R138). -/
abbrev State.TimersRun (s : State) : Prop :=
  (∀ f : Fin 4,
      (s.frames[f].dog = .unwatched ↔ s.frames[f].period = 0#16)
        ∧ (s.frames[f].dog = .alive ∨ s.frames[f].dog = .late → 1 ≤ s.frames[f].remaining.toNat)
        ∧ timedSeconds s.frames[f].seconds)
    ∧ (∀ g : Fin 64,
        (s.gauges[g].run.stale ≠ .off → s.gauges[g].config.staleTime ≠ 0#16)
          ∧ (s.gauges[g].run.stale = .running → 1 ≤ s.gauges[g].run.staleLeft.toNat)
          ∧ timedSeconds s.gauges[g].config.seconds)
    ∧ (∀ c : Fin 8, timedSeconds s.channels[c].seconds)
    ∧ (∀ i : Fin 16, timedSeconds s.cracks[i].config.seconds)
    ∧ (∀ z : Fin 4, ∀ e ∈ s.zones[z].entries,
        timedSeconds e.seconds ∧ e.timer.toNat ≤ 1000 * Config.maxSeconds
          ∧ (e.method = .timed → e.condition = false → 1 ≤ e.timer.toNat))
    ∧ (∀ (i : Fin 64) (d : Word), s.gen.program[i] = .dwell d → 1 ≤ d.toNat)
    ∧ (s.gen.executing = true → ∀ b, s.gen.currentBlock = some b →
        (b.kind = .dwell → 1 ≤ s.gen.countdown.toNat)
          ∧ (b.kind = .cycle → s.gen.endless = false → 1 ≤ s.gen.remaining.toNat))

end Sys2Proof.Machine
end

