-- ==== Sys2Proof/Certificates/Slice0/Obligations.lean ====
section
/-! DEFINITION. The statements asked of the model. Each docstring names the rules of the reference it formalises; the answers are
written with the request codes of section 10.3, and a frame is written as a record: what is not named in the update is equal. A
request row stands for its whole select window up to the moment of taking (the model's choice, notes/assumptions/4.md), so what is
said of a request holds from every phase of its port. -/

open Sys2Proof Sys2Proof.Machine

/-! ### Steps, reset and the ports (chapter 1) -/

/-- One step takes the command at the front of the queue and runs it with the queue's rest; with none waiting nothing happens (the
model's choice, notes/assumptions/1.md). -/
def Obligations.StepRunsTheFrontCommand : Prop :=
  ∀ (s : State) (c : Instr) (rest : List Instr),
    step { s with pending := c :: rest } = exec c { s with pending := rest }
      ∧ step { s with pending := [] } = .next { s with pending := [] }

/-- Every command, from every state, leaves a next state, and the commands waiting behind it stay as they are. (That no command stops
is the model's choice, notes/assumptions/24.md; that the commands wait in one queue, which HARDWARE_RESET and REINIT keep too, is its
choice as well, notes/assumptions/2.md and 15.md.) -/
def Obligations.EveryCommandHasANextState : Prop :=
  ∀ (c : Instr) (s : State), ∃ t, exec c s = .next t ∧ t.pending = s.pending

/-- The state after reset meets every invariant that the statements below say each step keeps. -/
def Obligations.ResetMeetsEveryInvariant : Prop :=
  State.reset.QueueBounded ∧ State.reset.ReadySettled ∧ State.reset.ListsLawful ∧ State.reset.ZonesProtected
    ∧ State.reset.StopObeyed ∧ State.reset.SetpointsBound ∧ State.reset.GeneratorLawful ∧ State.reset.LoopsBounded
    ∧ State.reset.CountsInRange ∧ State.reset.TimersRun

/-- R1, R16, R38, R57, R58, R74, R85, R93, R95, R114, R115, R125, R149, R163, R166: HARDWARE_RESET leaves, from every state, the
reset values of the ports, the generator, the channels, the load sets, the frames, the gauges and their links, the crack watch, the
zones and the record queue. (The model's choices: that it is the whole pulse, after which each port's select is as `selects` says,
notes/assumptions/9.md; that the waiting commands stay, 15.md; that the generator's countdown, remaining count and endless mark, the
links' counts, and the argument count of a window are then 0, 21.md.) -/
def Obligations.HardwareResetValues : Prop :=
  ∀ (selects : BitVec 6) (s : State), ∃ t, exec (.hardwareReset selects) s = .next t
    ∧ t.pending = s.pending ∧ t.stamp = 0#32
    ∧ (∀ p, t.eventStatus p = 1#7 ∧ t.ports[portIndex p].mask = 0#7 ∧ t.attnLow p = false
        ∧ t.ports[portIndex p].window =
          { selected := selects.getLsbD (portIndex p).val, phase := .idle, code := 0#8, lengthHigh := none, length := 0#16
            expected := 0, args := [], answer := none, unsent := [], sdo := none })
    ∧ t.gen =
        { program := Vector.replicate 64 .stop, loops := Vector.replicate 64 0#16, startIndex := 0, state := .stopped
          current := none, countdown := 0#32, remaining := 0#32, endless := false, phase := 0#32, mean := 0#16
          cycles := 0#40, requestedPause := false, pendingAdvance := false, pendingStop := false, lastReason := .stop }
    ∧ (∀ c : Fin 8,
        t.channels[c] =
          { fmin := 0#16, fmax := 0#16, rmax := 0#16, ul := 0#16, tol := 32767#16, k := 15, fabs := 0#16, smin := 0#16
            smax := 0#16, trackingAction := .holdZone, overforceAction := .unloadZone, strokeAction := .unloadZone
            method := .manual, seconds := 60#16, zone := ⟨c.val / 2, by omega⟩ }
        ∧ t.outputs[c] = { setpoint := 0#16, held := 0#16, clamped := false, slewing := false }
        ∧ t.supervision[c] =
          { handedOut := none, force := none, stroke := none, misses := 0, tracking := false, overforce := false
            strokeOut := false })
    ∧ t.activeSet = { share := Vector.replicate 8 0#16, offset := Vector.replicate 8 0#16, ascale := 1024#16 }
    ∧ t.stagedSet = t.activeSet ∧ t.commit = .none
    ∧ (∀ f : Fin 4, t.frames[f] =
        { period := 0#16, lateAction := .holdZone, lostAction := .dumpZone, tripAction := .unloadZone, method := .manual
          seconds := 60#16, dog := .unwatched, remaining := 0#16, late := false, lost := false, trip := false
          tripReason := 0#8 })
    ∧ (∀ g : Fin 64,
        t.gauges[g].config =
          { enabled := false, zero := 0#24, scale := 0#16, lo := 0x8001#16, hi := 32767#16, n := 1, staleTime := 0#16
            driftLimit := 0#16, m := 3, zone := ⟨g.val / 16, by omega⟩, windowAction := .report, faultAction := .report
            driftAction := .report, method := .auto, seconds := 60#16 }
        ∧ t.gauges[g].run =
          { lastRaw := none, current := none, currentSat := false, fault := none, window := false, outCount := 0, inCount := 0
            stale := .off, staleLeft := 0#16, running := none, runningSat := false, runningFault := false, last := none
            lastSat := false, lastFault := false, baseline := none, capture := false, driftCount := 0 })
    ∧ (∀ l : Fin 2, t.links[l].state = .waiting ∧ t.links[l].count = 0)
    ∧ (∀ i : Fin 16, t.cracks[i] =
        { config :=
            { enable := false, sense := .levelHigh, n := 4, zone := ⟨i.val / 4, by omega⟩, action := .holdZone
              method := .manual, seconds := 60#16 }
          qualifier := { level := none, last := none, run := 0 }, condition := false, detected := false })
    ∧ t.stopLine = { qualifier := { level := none, last := none, run := 0 }, condition := false } ∧ t.stopHold = false
    ∧ (∀ z : Fin 4, t.dumpAsserted z = true ∧ t.zones[z].isolate = false ∧ t.zones[z].unloadRate = 1#16
        ∧ t.zones[z].reloadRate = 1#16
        ∧ t.zones[z].entries =
          [{ tag := BitVec.ofNat 16 (z.val + 1), kind := .source, source := .restart z, action := .dumpZone
             method := .manual, seconds := 60#16, timer := 0#32, condition := false, repeats := 1#8, stamp := 0#32
             cycle := 0#40 }])
    ∧ t.tagCounter = 5#16
    ∧ t.queue =
        { records := [], nextSeq := 0#16, lost := false, logReady := false, on := 32, off := 8, interval := 0#16
          autoCount := 0#16, suspended := false }

/-- R5: a request answered with a result code other than OK has an answer length of 0, changes no state of the part and sets no
event at any port; only the window in which it was sent moves. -/
def Obligations.RefusedRequestChangesNothing : Prop :=
  ∀ (c : Instr) (p : PortId) (r : ReqName) (s t : State) (code : Byte) (rest : List Byte),
    requestName? c = some (p, r) → exec c s = .next t → t.answerOf p = some (code :: rest) → code ≠ 0x00#8 →
      rest = [0#8, 0#8] ∧ { t with ports := s.ports } = s
        ∧ (∀ q, t.ports[portIndex q].latched = s.ports[portIndex q].latched
            ∧ t.ports[portIndex q].mask = s.ports[portIndex q].mask)
        ∧ ∀ q, q ≠ p → t.ports[portIndex q] = s.ports[portIndex q]

/-- R7: a request is answered DENIED exactly at the ports to which the access table gives no right to it. -/
def Obligations.RightsDecideDenied : Prop :=
  ∀ (c : Instr) (p : PortId) (r : ReqName) (s t : State), requestName? c = some (p, r) → exec c s = .next t →
    ((t.answerOf p).bind List.head? = some 0x01#8 ↔
      ∀ row ∈
        [([ReqName.servoExchange, .trip], [PortGroup.frames]), ([.takeRecord], [.logger]), ([.snapshot], [.director, .logger]),
         ([.readIdent, .readEvents, .readGenerator, .readBlock, .readChannel, .readFrame, .readGauges, .readCrack, .readZone,
           .readQueue, .clearEvents, .setEventMask], [.frames, .director, .logger]),
         ([.writeBlock, .setStartBlock, .start, .pause, .resume, .stop, .advance, .setChannel, .stageChannel, .stageScale,
           .armCommit, .disarm, .setFrame, .setGauge, .captureBaseline, .setCrack, .clearCrackLatch, .setZone, .release,
           .reloadZone, .setQueue, .resumeAutoSnapshot, .reinit], [.director])],
        r ∈ row.1 → portGroup p ∉ row.2)

/-- R14: READ_IDENT is answered OK at every port with the part code 4C08h and the revision 1, and nothing but the window moves; so
it is right after a hardware reset and after REINIT. -/
def Obligations.ReadIdentAnswersThePartCode : Prop :=
  ∀ (p : PortId) (s : State),
    exec (.readIdent p) s = .next (s.answer p 0x01#8 0#16 .ok [0x4C#8, 0x08#8, 0x01#8])

/-- R11: READ_EVENTS is answered OK at every port with that port's event status, in which LOG_READY stands exactly while its
condition is set, and that port's mask; it changes neither. -/
def Obligations.ReadEventsAnswersStatusAndMask : Prop :=
  ∀ (p : PortId) (s : State),
    exec (.readEvents p) s =
        .next (s.answer p 0x02#8 0#16 .ok [eventByte (s.eventStatus p), eventByte s.ports[portIndex p].mask])
      ∧ (s.eventStatus p).getLsbD 5 = s.queue.logReady
      ∧ ∀ k, k ≠ 5 → (s.eventStatus p).getLsbD k = s.ports[portIndex p].latched.getLsbD k

/-- R12: CLEAR_EVENTS is answered OK at every port with the status left; the latched events named leave that port's status, every
other event of it, LOG_READY, its mask, the other ports and the rest of the part stay, and its ATTN line follows. -/
def Obligations.ClearEventsRemovesTheNamedEvents : Prop :=
  ∀ (p : PortId) (events : Byte) (s : State), ∃ t, exec (.clearEvents p events) s = .next t
    ∧ t.answerOf p = some [0x00#8, 0#8, 1#8, eventByte (t.eventStatus p)]
    ∧ (∀ k, k < 7 → (t.eventStatus p).getLsbD k =
        if k = 5 then s.queue.logReady else (s.eventStatus p).getLsbD k && !events.getLsbD k)
    ∧ t.ports[portIndex p].mask = s.ports[portIndex p].mask
    ∧ t.attnLow p = ((t.eventStatus p &&& s.ports[portIndex p].mask) != 0#7)
    ∧ (∀ q, q ≠ p → t.ports[portIndex q] = s.ports[portIndex q])
    ∧ { t with ports := s.ports } = s

/-- R13: SET_EVENT_MASK replaces the mask of its port, answers the mask and the status, and moves nothing else; a mask that names
OWN_LATE is refused CONFLICT at the DIRECTOR and LOGGER ports, and every other mask is accepted. The ATTN line is low exactly
while an event of the status is in the new mask. -/
def Obligations.SetEventMaskReplacesTheMask : Prop :=
  ∀ (p : PortId) (mask : Byte) (s : State),
    ((p = .director ∨ p = .logger) ∧ mask.getLsbD 6 = true →
        exec (.setEventMask p mask) s = .next (s.answer p 0x04#8 1#16 .conflict []))
      ∧ ((∃ f, p = .frame f) ∨ mask.getLsbD 6 = false → ∃ t, exec (.setEventMask p mask) s = .next t
          ∧ t.ports[portIndex p].mask = mask.setWidth 7
          ∧ t.eventStatus p = s.eventStatus p
          ∧ t.attnLow p = ((s.eventStatus p &&& mask.setWidth 7) != 0#7)
          ∧ t.answerOf p = some [0x00#8, 0#8, 2#8, eventByte (mask.setWidth 7), eventByte (s.eventStatus p)]
          ∧ (∀ q, q ≠ p → t.ports[portIndex q] = s.ports[portIndex q])
          ∧ { t with ports := s.ports } = s)

/-- R9, R10: ATTNx is low exactly while some event is both in the port's status and in its mask, whatever the window does; and
LOG_READY stands in every status exactly while the queue's condition is set. -/
def Obligations.AttentionFollowsStatusAndMask : Prop :=
  ∀ (s : State) (p : PortId),
    (s.attnLow p = true ↔ ∃ e : Event, s.holds p e = true ∧ s.ports[portIndex p].mask &&& e.bit ≠ 0#7)
      ∧ s.holds p .logReady = s.queue.logReady
      ∧ ∀ (q : PortId) (w : Window), (s.setWindow q w).attnLow p = s.attnLow p

/-- R3, R165: a code that is not in the request code table, or a length its row does not accept, is taken at once and answered
BADREQ; nothing but the window moves. -/
def Obligations.MalformedRequestIsAnsweredBadreq : Prop :=
  ∀ (p : PortId) (code : Byte) (length : Half) (s : State),
    (∀ row ∈
      [([0x01, 0x02, 0x0E, 0x13, 0x14, 0x15, 0x17, 0x18, 0x25, 0x41, 0x4A, 0x60, 0x61, 0x62, 0x64], [0]),
       ([0x03, 0x04, 0x11, 0x12, 0x16, 0x21, 0x24, 0x31, 0x52, 0x53], [1]), ([0x23, 0x42, 0x49], [2]), ([0x51], [3]),
       ([0x63], [4]), ([0x22], [5]), ([0x50], [6]), ([0x30], [8]), ([0x32, 0x48], [9]), ([0x10], [12]), ([0x40], [24]),
       ([0x20], [25]), ([0x33], [0, 1])],
      code.toNat ∈ row.1 → length.toNat ∉ row.2) →
    exec (.malformedRequest p code length) s = .next (s.answer p code length .badreq [])

/-- R2, R4, R13, R15, R16: asserting select begins a window in CODE with nothing kept; deasserting it before the request is taken
abandons the window, and deasserting it afterwards discards what was not sent; the port stands in IDLE, and nothing else moves. Of all
commands, the window of a port moves only by one at that port (a request, a malformed one, the select line, a byte) or HARDWARE_RESET,
and its mask only by its own SET_EVENT_MASK, by the director's REINIT or by HARDWARE_RESET; a byte clocked at a port moves a mask only
where it takes one of these two requests, whose code the window keeps. (That the command for a window that spanned a hardware reset,
still in IDLE, is WINDOW_ABANDONED is the model's choice, notes/assumptions/14.md.) -/
def Obligations.SelectMovesTheWindow : Prop :=
  (∀ (p : PortId) (s : State),
    let w := s.ports[portIndex p].window
    let idle (selected : Bool) (phase : Phase) : Window :=
      { selected := selected, phase := phase, code := 0#8, lengthHigh := none, length := 0#16, expected := 0, args := []
        answer := none, unsent := [], sdo := none }
    (w.selected = false → exec (.selectAsserted p) s = .next (s.setWindow p (idle true .code)))
      ∧ (w.selected = true → w.phase ∈ [Phase.idle, .code, .length, .arguments] →
          exec (.windowAbandoned p) s = .next (s.setWindow p (idle false .idle)))
      ∧ (w.selected = true → w.phase ∈ [Phase.answer, .spent] →
          exec (.selectDeassertedAfterAnswer p) s = .next (s.setWindow p (idle false .idle))))
  ∧ ∀ (c : Instr) (q : PortId) (s t : State), exec c s = .next t →
      let kept (p : PortId) : Byte := s.ports[portIndex p].window.code
      (t.ports[portIndex q].window ≠ s.ports[portIndex q].window →
          match c with
          | .hardwareReset _ => True
          | .malformedRequest p _ _ | .windowAbandoned p | .selectAsserted p | .selectDeassertedAfterAnswer p
          | .portByteClocked p _ => p = q
          | _ => (requestName? c).map Prod.fst = some q)
        ∧ (t.ports[portIndex q].mask ≠ s.ports[portIndex q].mask →
          match c with
          | .hardwareReset _ => True
          | .setEventMask p _ => p = q
          | .reinit p => p = .director
          | .portByteClocked p _ => (p = q ∧ kept p = 0x04#8) ∨ (p = .director ∧ kept p = 0x0E#8)
          | _ => False)

/-- R2, R3, R16: what one byte clocked at a port does up to the moment of taking, and after the answer is spent: the byte is kept
as code, length or argument, FFh is sent, and nothing else moves; with select deasserted it is ignored; a code and length the table
does not accept are answered BADREQ at the second length byte. -/
def Obligations.BytesAssembleTheRequest : Prop :=
  ∀ (p : PortId) (b : Byte) (s : State),
    let w := s.ports[portIndex p].window
    (w.selected = false → exec (.portByteClocked p b) s = .next s)
      ∧ (w.selected = true →
          (w.phase = .idle ∨ w.phase = .spent →
              exec (.portByteClocked p b) s = .next (s.setWindow p { w with sdo := some 0xFF#8 }))
            ∧ (w.phase = .code → exec (.portByteClocked p b) s =
                .next (s.setWindow p { w with phase := .length, code := b, lengthHigh := none, sdo := some 0xFF#8 }))
            ∧ (w.phase = .length → w.lengthHigh = none → exec (.portByteClocked p b) s =
                .next (s.setWindow p { w with lengthHigh := some b, sdo := some 0xFF#8 }))
            ∧ (∀ h, w.phase = .length → w.lengthHigh = some h → (accepted? w.code (h.toNat * 256 + b.toNat)).isSome →
                h.toNat * 256 + b.toNat ≠ 0 → exec (.portByteClocked p b) s =
                  .next (s.setWindow p
                    { w with
                      phase := .arguments, lengthHigh := none, length := h ++ b, expected := h.toNat * 256 + b.toNat
                      args := [], sdo := some 0xFF#8 }))
            ∧ (∀ h, w.phase = .length → w.lengthHigh = some h → accepted? w.code (h.toNat * 256 + b.toNat) = none →
                exec (.portByteClocked p b) s = .next (s.answer p w.code (h ++ b) .badreq []))
            ∧ (w.phase = .arguments → 1 < w.expected → exec (.portByteClocked p b) s =
                .next (s.setWindow p
                  { w with expected := w.expected - 1, args := w.args ++ [b], sdo := some 0xFF#8 })))

/-- R2, R3, R164, section 10.2: from CODE, clocking the bytes of any request (its code, its length and its arguments) takes that
request: the part does what the request's own row says. -/
def Obligations.RequestBytesTakeTheRequest : Prop :=
  ∀ (i : Instr) (p : PortId) (r : ReqName) (s : State), requestName? i = some (p, r) →
    s.ports[portIndex p].window.selected = true → s.ports[portIndex p].window.phase = .code →
    execAll (([reqCode r] ++ bytes2 (BitVec.ofNat 16 (encodeArgs i).length) ++ encodeArgs i).map (.portByteClocked p)) s
      = exec i s

/-- R2, R3, R6, R164: the answer built when a request is taken, or a malformed one, is its result code, the length of its body and the
body; it stands in its port's window, which is selected and in ANSWER, with all of it still to send, the last byte of the request having
been answered FFh. It is sent byte by byte as it was built, whatever is clocked in, the last byte bringing the window to SPENT; nothing
else moves. -/
def Obligations.AnswerIsSentByteByByte : Prop :=
  (∀ (i : Instr) (p : PortId) (s t : State), exec i s = .next t →
      ((∃ r, requestName? i = some (p, r))
        ∨ ∃ code length, i = .malformedRequest p code length ∧ accepted? code length.toNat = none) →
      let w := t.ports[portIndex p].window
      w.selected = true ∧ w.phase = .answer ∧ w.unsent ≠ [] ∧ t.answerOf p = some w.unsent ∧ w.sdo = some 0xFF#8)
  ∧ (∀ (p : PortId) (code : Byte) (length : Half) (result : Result) (body : List Byte) (s : State),
      let built := [result.code] ++ bytes2 (BitVec.ofNat 16 body.length) ++ body
      s.answer p code length result body =
        s.setWindow p
          { selected := true, phase := .answer, code := code, lengthHigh := none, length := length, expected := 0, args := []
            answer := some built, unsent := built, sdo := some 0xFF#8 })
  ∧ [Result.ok, .denied, .badreq, .range, .busy, .state, .conflict, .notfound, .empty].map Result.code =
      [0, 1, 2, 3, 4, 5, 6, 7, 8]
  ∧ ∀ (p : PortId) (bytes : List Byte) (s : State),
    let w := s.ports[portIndex p].window
    w.selected = true → w.phase = .answer → bytes ≠ [] → bytes.length ≤ w.unsent.length →
      execAll (bytes.map (.portByteClocked p)) s =
        .next (s.setWindow p
          { w with
            phase := if bytes.length < w.unsent.length then .answer else .spent
            unsent := w.unsent.drop bytes.length, sdo := w.unsent[bytes.length - 1]? })

/-- R164, section 10.3, section 10.4: the argument bytes of every request row, with every operand at every value, read back as
that row, and what is read from any bytes is written back as the same bytes. -/
def Obligations.ArgumentsReadBack : Prop :=
  ∀ (i : Instr) (p : PortId) (r : ReqName) (args : List Byte),
    (requestName? i = some (p, r) → parseRequest p r (encodeArgs i) = some i)
      ∧ (parseRequest p r args = some i → requestName? i = some (p, r) ∧ encodeArgs i = args)

/-- R15: REINIT in STOPPED and DONE returns configuration and running state to their reset values, dumps every zone behind one RESTART
entry, replaces the events, makes the records of step 4 (for each zone in turn the ALARM_RAISED of its RESTART entry, then the
ZONE_CHANGE from its former state to DUMPED where it was another), and keeps the time stamp, the cycle counter, the numbering and the
windows of the other ports; in RUNNING and PAUSED it is refused STATE. (Countdown, remaining count and endless mark: the model's
choice, notes/assumptions/21.md.) -/
def Obligations.ReinitRestoresTheDefaults : Prop :=
  ∀ s : State,
    (s.gen.state = .running ∨ s.gen.state = .paused →
        exec (.reinit .director) s = .next (s.answer .director 0x0E#8 0#16 .state []))
      ∧ (s.gen.state = .stopped ∨ s.gen.state = .done → ∃ t, exec (.reinit .director) s = .next t
          ∧ t.answerOf .director = some [0x00#8, 0#8, 0#8]
          ∧ t.stamp = s.stamp ∧ t.gen = { State.reset.gen with cycles := s.gen.cycles }
          ∧ t.channels = State.reset.channels ∧ t.outputs = State.reset.outputs
          ∧ t.supervision = State.reset.supervision ∧ t.activeSet = State.reset.activeSet
          ∧ t.stagedSet = State.reset.stagedSet ∧ t.commit = .none ∧ t.frames = State.reset.frames
          ∧ t.gauges = State.reset.gauges ∧ t.cracks = State.reset.cracks ∧ t.stopLine = State.reset.stopLine
          ∧ t.stopHold = false
          ∧ (let first := if s.tagCounter = 0#16 then 1#16 else s.tagCounter
             t.zones = Vector.ofFn (fun z : Fin 4 =>
                { State.reset.zones[z] with
                  entries := [restartEntry z (Nat.repeat succTag z.val first) s.stamp s.gen.cycles] })
              ∧ t.tagCounter = Nat.repeat succTag 4 first
              ∧ (let bodies : List Body := [0, 1, 2, 3].flatMap fun z : Fin 4 =>
                   .alarmRaised z (Nat.repeat succTag z.val first) (.restart z) .dumpZone 1#8 .dumped
                     :: (if s.zones[z].state = .dumped then [] else [.zoneChange z s.zones[z].state .dumped])
                 let offered := bodies.foldl State.record s
                 t.queue.records = offered.queue.records ∧ t.queue.lost = offered.queue.lost
                  ∧ t.queue.nextSeq = s.queue.nextSeq + BitVec.ofNat 16 bodies.length
                  ∧ (s.queue.records.length ≤ 120 → t.queue.records = s.queue.records ++ bodies.mapIdx fun k b =>
                      { seq := s.queue.nextSeq + BitVec.ofNat 16 k, stamp := s.stamp, cycle := s.gen.cycles, body := b })))
          ∧ t.queue.nextSeq = s.queue.nextSeq + 4#16 +
              BitVec.ofNat 16 (allZones.filter fun z => s.zones[z].state != .dumped).length
          ∧ (t.queue.on = 32 ∧ t.queue.off = 8 ∧ t.queue.interval = 0#16 ∧ t.queue.autoCount = 0#16
              ∧ t.queue.suspended = false ∧ t.queue.logReady = decide (32 ≤ t.queue.records.length))
          ∧ (s.queue.records.length ≤ 120 → t.queue.lost = s.queue.lost ∧ s.queue.records <+: t.queue.records)
          ∧ (∀ q, t.eventStatus q = (if t.queue.logReady then 0b0100001#7 else 0b0000001#7)
              ∧ t.ports[portIndex q].mask = 0#7)
          ∧ (∀ q, q ≠ .director → t.ports[portIndex q].window = s.ports[portIndex q].window))

/-- R37, R63, R92, R113, R124, R148, R156, R164, section 10.3, section 10.4: each read of the part's state is answered OK with the values of
its list, as they stand when it is taken, in the order and widths of the request table and of the shared blocks, each enumeration by its
code, and moves nothing but the window; READ_QUEUE at LOGGER clears the LOST flag after its answer is built. A channel, frame, zone or
first gauge out of range, a count of 0 and a range past gauge 63 are refused RANGE, and READ_FRAME with no argument at DIRECTOR and LOGGER
is refused CONFLICT. -/
def Obligations.ReadsAnswerAndChangeNothing : Prop :=
  ∀ (p : PortId) (s : State),
    let opt (x : Option Half) : List Byte := match x with
      | some v => [1#8] ++ bytes2 v
      | none => [0#8, 0#8, 0#8]
    let setpoint (c : Fin 8) : Option Half := if s.channelZone c = .dumped then none else some s.outputs[c].setpoint
    let entryBytes (e : Entry) : List Byte :=
      bytes2 e.tag ++ [e.kind.code, e.source.kindCode, BitVec.ofNat 8 e.source.index, e.action.code, e.method.code]
        ++ bytes2 e.seconds ++ bytes4 e.timer ++ [yes e.condition, e.repeats] ++ bytes4 e.stamp ++ bytes5 e.cycle
    let byte (n : Nat) : Byte := BitVec.ofNat 8 n
    let two (a b : Bool) : Byte := byte (a.toNat + 2 * b.toNat)
    let three (a b c : Bool) : Byte := byte (a.toNat + 2 * b.toNat + 4 * c.toNat)
    let supervised (c : Fin 8) : List Byte :=
      let v := s.supervision[c]
      opt v.handedOut ++ opt v.force ++ opt v.stroke ++ [byte v.misses, three v.tracking v.overforce v.strokeOut]
    let protection (c : Fin 8) (x : Channel) : List Byte :=
      [byte c.val] ++ bytes2 x.fmin ++ bytes2 x.fmax ++ bytes2 x.rmax ++ bytes2 x.ul ++ bytes2 x.tol ++ [byte x.k]
        ++ bytes2 x.fabs ++ bytes2 x.smin ++ bytes2 x.smax
        ++ [x.trackingAction.code, x.overforceAction.code, x.strokeAction.code, x.method.code] ++ bytes2 x.seconds
        ++ [byte x.zone.val]
    let frameRecord (f : Fin 4) (x : FrameRec) : List Byte :=
      [byte f.val] ++ bytes2 x.period ++ [x.lateAction.code, x.lostAction.code, x.tripAction.code, x.method.code]
        ++ bytes2 x.seconds ++ [x.dog.code] ++ bytes2 x.remaining ++ [three x.late x.lost x.trip, x.tripReason]
    let gaugeConfig (g : Fin 64) (x : GaugeConfig) : List Byte :=
      [byte g.val, yes x.enabled] ++ bytes3 x.zero ++ bytes2 x.scale ++ bytes2 x.lo ++ bytes2 x.hi ++ [byte x.n]
        ++ bytes2 x.staleTime ++ bytes2 x.driftLimit ++ [byte x.m, byte x.zone.val, x.windowAction.code, x.faultAction.code,
          x.driftAction.code, x.method.code] ++ bytes2 x.seconds
    let gaugeEntry (g : Fin 64) (x : Gauge) : List Byte :=
      let r := x.run
      gaugeConfig g x.config
        ++ (match r.lastRaw with
          | some v => [1#8] ++ bytes3 v
          | none => [0#8, 0#8, 0#8, 0#8])
        ++ opt r.current
        ++ [byte (r.currentSat.toNat + 2 * r.window.toNat + 4 * r.last.isNone.toNat + 8 * r.lastSat.toNat
            + 16 * r.lastFault.toNat + 32 * r.baseline.isSome.toNat + 64 * r.capture.toNat),
          faultCode r.fault, byte r.outCount, byte r.inCount, byte r.driftCount, r.stale.code]
        ++ bytes2 r.staleLeft
        ++ (match r.last with
          | some e => bytes2 e.peak ++ bytes2 e.valley
          | none => [0#8, 0#8, 0#8, 0#8])
        ++ (match r.baseline with
          | some b => bytes2 b
          | none => [0#8, 0#8])
    let crackInput (i : Fin 16) (x : Crack) : List Byte :=
      [byte i.val, yes x.config.enable, x.config.sense.code, byte x.config.n, byte x.config.zone.val, x.config.action.code,
        x.config.method.code] ++ bytes2 x.config.seconds
        ++ [levelCode x.qualifier.level, levelCode x.qualifier.last, byte x.qualifier.run, two x.condition x.detected]
    let current : Byte := match s.gen.current with
      | none => 0xFF#8
      | some i => BitVec.ofNat 8 i.val
    let block : Option Block := s.gen.current.map fun i => s.gen.program[i]
    let kind : Byte := match block with
      | none => 0#8
      | some x => x.kind.code
    let remaining : Word := match block with
      | some (.dwell _) => s.gen.countdown
      | some (.cycle _ _ _) => if s.gen.endless then 0#32 else s.gen.remaining
      | some (.ramp _ _) | some (.jump _ _) | some .stop | none => 0#32
    (let body := [s.gen.state.code, current, kind] ++ bytes4 remaining ++ [yes s.gen.endless] ++ bytes4 s.gen.phase
       ++ bytes2 (BitVec.ofNat 16 (s.gen.phase.toNat / 1048576)) ++ bytes2 s.gen.mean ++ bytes5 s.gen.cycles
       ++ [yes s.gen.requestedPause, yes s.pauseDemand, yes s.gen.pendingAdvance, yes s.gen.pendingStop,
         BitVec.ofNat 8 s.gen.startIndex.val, s.gen.lastReason.code]
     exec (.readGenerator p) s = .next (s.answer p 0x18#8 0#16 .ok body) ∧ body.length = 27)
      ∧ (∀ (c : Fin 8) (b : Byte), b.toNat = c.val →
          let body := protection c s.channels[c] ++ bytes2 s.activeSet.share[c] ++ bytes2 s.activeSet.offset[c]
            ++ bytes2 s.activeSet.ascale ++ bytes2 s.stagedSet.share[c] ++ bytes2 s.stagedSet.offset[c]
            ++ bytes2 s.stagedSet.ascale ++ [s.commit.code] ++ opt (setpoint c) ++ bytes2 s.outputs[c].held
            ++ [two s.outputs[c].clamped s.outputs[c].slewing, (s.channelZone c).code]
            ++ opt s.supervision[c].handedOut ++ opt s.supervision[c].force ++ opt s.supervision[c].stroke
            ++ [BitVec.ofNat 8 s.supervision[c].misses]
          exec (.readChannel p b) s = .next (s.answer p 0x21#8 1#16 .ok body) ∧ body.length = 55)
      ∧ (∀ (f : Fin 4) (b : Byte), b.toNat = f.val →
          let body := frameRecord f s.frames[f] ++ supervised (channelA f) ++ supervised (channelB f)
          exec (.readFrame p (some b)) s = .next (s.answer p 0x33#8 1#16 .ok body)
            ∧ exec (.readFrame (.frame f) none) s = .next (s.answer (.frame f) 0x33#8 0#16 .ok body) ∧ body.length = 36)
      ∧ (∀ first count : Byte, first.toNat ≤ 63 → 1 ≤ count.toNat → first.toNat + count.toNat ≤ 64 →
          ∃ body, exec (.readGauges p first count) s = .next (s.answer p 0x42#8 2#16 .ok body)
            ∧ body.length = 45 * count.toNat
            ∧ ∀ (k : Nat) (g : Fin 64), k < count.toNat → g.val = first.toNat + k →
                (body.drop (45 * k)).take 45 = gaugeEntry g s.gauges[g])
      ∧ (∃ body, exec (.readCrack p) s = .next (s.answer p 0x4A#8 0#16 .ok body) ∧ body.length = 212
          ∧ (∀ i : Fin 16, (body.drop (13 * i.val)).take 13 = crackInput i s.cracks[i])
          ∧ body.drop 208 =
              [levelCode s.stopLine.qualifier.level, levelCode s.stopLine.qualifier.last,
                BitVec.ofNat 8 s.stopLine.qualifier.run, yes s.stopLine.condition])
      ∧ (∀ (z : Fin 4) (b : Byte), b.toNat = z.val →
          let members := (List.finRange 8).filter fun c => s.channels[c].zone == z
          let body := [b, s.zones[z].state.code, yes s.zones[z].isolate] ++ bytes2 s.zones[z].unloadRate
            ++ bytes2 s.zones[z].reloadRate ++ [yes (s.zones[z].state == .dumped), yes s.pauseDemand, yes s.stopHold,
              BitVec.ofNat 8 members.length] ++ members.map (fun c => BitVec.ofNat 8 c.val) ++ bytes2 s.tagCounter
            ++ [BitVec.ofNat 8 s.zones[z].entries.length] ++ s.zones[z].entries.flatMap entryBytes
          exec (.readZone p b) s = .next (s.answer p 0x53#8 1#16 .ok body)
            ∧ body.length = 14 + members.length + 24 * s.zones[z].entries.length)
      ∧ (let q := s.queue
         let body := [BitVec.ofNat 8 q.records.length,
              BitVec.ofNat 8 (q.records.filter fun r => r.body.kindCode == 0x01#8).length]
            ++ opt (q.records.head?.map Record.seq) ++ bytes2 q.nextSeq
            ++ [yes q.lost, yes q.logReady, BitVec.ofNat 8 q.on, BitVec.ofNat 8 q.off] ++ bytes2 q.interval
            ++ bytes2 q.autoCount ++ [yes q.suspended]
         exec (.readQueue p) s =
            .next ({ s with queue := { q with lost := q.lost && p != PortId.logger } }.answer p 0x64#8 0#16 .ok body)
          ∧ body.length = 16)
      ∧ (∀ b : Byte, 8 ≤ b.toNat → exec (.readChannel p b) s = .next (s.answer p 0x21#8 1#16 .range []))
      ∧ (∀ b : Byte, 4 ≤ b.toNat → exec (.readFrame p (some b)) s = .next (s.answer p 0x33#8 1#16 .range [])
          ∧ exec (.readZone p b) s = .next (s.answer p 0x53#8 1#16 .range []))
      ∧ (p = .director ∨ p = .logger → exec (.readFrame p none) s = .next (s.answer p 0x33#8 0#16 .conflict []))
      ∧ (∀ first count : Byte, 63 < first.toNat ∨ count = 0#8 ∨ 64 < first.toNat + count.toNat →
          exec (.readGauges p first count) s = .next (s.answer p 0x42#8 2#16 .range []))
      ∧ (∀ c x, Channel.bytes c x = protection c x ∧ (protection c x).length = 25)
      ∧ (∀ f x, FrameRec.bytes f x = frameRecord f x ∧ (frameRecord f x).length = 14)
      ∧ (∀ g x, GaugeConfig.bytes g x = gaugeConfig g x ∧ (gaugeConfig g x).length = 24)
      ∧ (∀ i x, Crack.bytes i x = crackInput i x ∧ (crackInput i x).length = 13)
      ∧ [GenState.stopped, .running, .paused, .done].map GenState.code = [0, 1, 2, 3]
      ∧ [BlockKind.stop, .ramp, .dwell, .cycle, .jump].map BlockKind.code = [0, 1, 2, 3, 4]
      ∧ [Reason.start, .next, .jump, .advance, .stop, .done, .loopLimit, .pause, .resume].map Reason.code =
          [0, 1, 2, 3, 4, 5, 6, 7, 8]
      ∧ [CommitState.none, .armedNow, .armedBoundary].map CommitState.code = [0, 1, 2]
      ∧ [CommitOutcome.none, .appliedNow, .appliedBoundary, .cancelled].map CommitOutcome.code = [0, 1, 2, 3]
      ∧ [ZoneState.normal, .held, .unloading, .unloaded, .reloading, .dumped].map ZoneState.code = [0, 1, 2, 3, 4, 5]
      ∧ [Mode.follow, .hold, .unload, .reload, .dump].map Mode.code = [0, 1, 2, 3, 4]
      ∧ [Action.report, .holdZone, .holdAll, .unloadZone, .unloadAll, .dumpZone, .dumpAll].map Action.code =
          [0, 1, 2, 3, 4, 5, 6]
      ∧ [Method.manual, .auto, .timed, .boundary].map Method.code = [0, 1, 2, 3]
      ∧ (∀ (z f : Fin 4) (i : Fin 16) (g : Fin 64) (c : Fin 8),
          [Source.restart z, .stop, .crack i, .gaugeWindow g, .gaugeFault g, .gaugeDrift g, .tracking c, .overforce c, .stroke c,
              .frameLate f, .frameLost f, .frameTrip f].map (fun x => (x.kindCode, x.index)) =
            [(0, z.val), (1, 0), (2, i.val), (3, g.val), (4, g.val), (5, g.val), (6, c.val), (7, c.val), (8, c.val),
              (9, f.val), (10, f.val), (11, f.val)])
      ∧ [EntryKind.source, .overflow].map EntryKind.code = [0, 1]
      ∧ [DogState.unwatched, .alive, .late, .lost].map DogState.code = [0, 1, 2, 3]
      ∧ [none, some FaultCause.over, some .open, some .stale].map faultCode = [0, 1, 2, 3]
      ∧ [StaleState.off, .running, .expired].map StaleState.code = [0, 1, 2]
      ∧ [Sense.levelHigh, .levelLow, .rising, .falling, .anyChange].map Sense.code = [0, 1, 2, 3, 4]
      ∧ [none, some Level.low, some .high].map levelCode = [0, 1, 2]
      ∧ [Trigger.auto, .director, .logger].map Trigger.code = [0, 1, 2]

/-! ### The load generator (chapter 2) -/

/-- R17, R18, section 10.3: WRITE_BLOCK stores each kind of block, its frequency word clamped, with the loop counter of the index 0,
and answers the block as stored; bytes its kind does not use are ignored. An index, kind or field out of range is refused RANGE, a JUMP to
its own index CONFLICT, and a write to the block currently executing BUSY. -/
def Obligations.WriteBlockStoresTheBlock : Prop :=
  (∀ (a : BlockArgs) (s : State),
      63 < a.index.toNat ∨ 4 < a.kind.toNat
        ∨ (a.kind = 1#8 ∧ ∃ rate unused : Half, a.body = rate ++ unused ∧ (rate = 0#16 ∨ 32767 < rate.toNat))
        ∨ (a.kind = 2#8 ∧ (a.body = 0#32 ∨ 16777215 < a.body.toNat))
        ∨ (a.kind = 3#8 ∧ (a.head.toInt < 0 ∨ a.body = 0#32))
        ∨ (a.kind = 4#8 ∧ ((∃ jb unused : Byte, a.head = jb ++ unused ∧ 63 < jb.toNat)
            ∨ ∃ unused : Half, a.body = 0#16 ++ unused)) →
      exec (.writeBlock .director a) s = .next (s.answer .director 0x10#8 12#16 .range []))
  ∧ ∀ (i : Fin 64) (b kind : Byte) (head : Half) (body tail : Word) (s : State), b.toNat = i.val →
    let request := Instr.writeBlock .director { index := b, kind := kind, head := head, body := body, tail := tail }
    let executing := (s.gen.state = .running ∨ s.gen.state = .paused) ∧ s.gen.current = some i
    let stored (x : Block) (fields : List Byte) : Prop :=
      (executing → exec request s = .next (s.answer .director 0x10#8 12#16 .busy []))
        ∧ (¬ executing → exec request s = .next
            ({ s with gen := { s.gen with program := s.gen.program.set i x, loops := s.gen.loops.set i 0#16 } }.answer .director
              0x10#8 12#16 .ok ([b, kind] ++ fields)))
    (kind = 0#8 → stored .stop (List.replicate 10 0#8))
      ∧ (∀ rate unused : Half, kind = 1#8 → body = rate ++ unused → 1 ≤ rate.toNat → rate.toNat ≤ 32767 →
          stored (.ramp head rate) (bytes2 head ++ bytes2 rate ++ List.replicate 6 0#8))
      ∧ (kind = 2#8 → 1 ≤ body.toNat → body.toNat ≤ 16777215 →
          stored (.dwell body) ([0#8, 0#8] ++ bytes4 body ++ List.replicate 4 0#8))
      ∧ (kind = 3#8 → 0 ≤ head.toInt → 1 ≤ body.toNat →
          let f : Word := if body.toNat ≤ 16777216 then body else 16777216#32
          stored (.cycle head f tail) (bytes2 head ++ bytes4 f ++ bytes4 tail))
      ∧ (∀ (j : Fin 64) (jb unused : Byte) (k unused' : Half), kind = 4#8 → jb.toNat = j.val → head = jb ++ unused →
          body = k ++ unused' → 1 ≤ k.toNat →
          (j = i → exec request s = .next (s.answer .director 0x10#8 12#16 .conflict []))
            ∧ (j ≠ i → stored (.jump j k) ([jb, 0#8] ++ bytes2 k ++ List.replicate 6 0#8)))

/-- R19, R20: SET_START_BLOCK names the index at which the next START begins, in every generator state, and moves nothing else; it is
0 after reset and REINIT. READ_BLOCK answers the block at its index with the loop counter, at every port. An index above 63 is refused
RANGE by both. -/
def Obligations.StartIndexAndReadBlock : Prop :=
  (∀ (i : Fin 64) (b : Byte) (s : State), b.toNat = i.val →
      exec (.setStartBlock .director b) s =
        .next ({ s with gen := { s.gen with startIndex := i } }.answer .director 0x12#8 1#16 .ok [b]))
    ∧ (∀ s : State, s.gen.executing = false → s.allNormal = true → s.gen.program[s.gen.startIndex].governs = true →
        ∃ t, exec (.start .director) s = .next t ∧ t.gen.current = some s.gen.startIndex)
    ∧ State.reset.gen.startIndex = 0 ∧ (∀ s : State, s.reinit.gen.startIndex = 0)
    ∧ (∀ (p : PortId) (i : Fin 64) (b : Byte) (s : State), b.toNat = i.val →
        exec (.readBlock p b) s =
          .next (s.answer p 0x11#8 1#16 .ok
              ([b] ++ (match s.gen.program[i] with
                | .stop => 0x00#8 :: List.replicate 10 0#8
                | .ramp target rate => [0x01#8] ++ bytes2 target ++ bytes2 rate ++ List.replicate 6 0#8
                | .dwell d => [0x02#8, 0#8, 0#8] ++ bytes4 d ++ List.replicate 4 0#8
                | .cycle a f n => [0x03#8] ++ bytes2 a ++ bytes4 f ++ bytes4 n
                | .jump j k => [0x04#8, BitVec.ofNat 8 j.val, 0#8] ++ bytes2 k ++ List.replicate 6 0#8)
                ++ bytes2 s.gen.loops[i])))
    ∧ ∀ (p : PortId) (b : Byte) (s : State), 64 ≤ b.toNat →
        exec (.setStartBlock .director b) s = .next (s.answer .director 0x12#8 1#16 .range [])
          ∧ exec (.readBlock p b) s = .next (s.answer p 0x11#8 1#16 .range [])

/-- R22, R32 to R36: START in STOPPED or DONE with every zone NORMAL clears the loop counters, the phase and the pendings, keeps the
mean and the cycle counter, and takes the chain from the start index (ChainsEvaluateJumps says what a chain does): the block it ends at
is current, its countdown or count set, with reason START, or the program ends in DONE with the chain's reason; with one PROGRAM record
and GEN_CHANGE at every port. Otherwise it is refused STATE. -/
def Obligations.StartBeginsTheProgram : Prop :=
  ∀ s : State,
    let reached := chain s.gen.program 8 s.gen.startIndex.val (Vector.replicate 64 0#16) false
    (s.gen.executing = true ∨ (∃ z : Fin 4, s.zones[z].state ≠ .normal) →
        exec (.start .director) s = .next (s.answer .director 0x13#8 0#16 .state []))
      ∧ (s.gen.executing = false → (∀ z : Fin 4, s.zones[z].state = .normal) → ∃ t, exec (.start .director) s = .next t
            ∧ t.gen.loops = reached.1 ∧ t.gen.phase = 0#32 ∧ t.gen.mean = s.gen.mean
            ∧ t.gen.cycles = s.gen.cycles ∧ t.gen.pendingAdvance = false ∧ t.gen.pendingStop = false
            ∧ t.gen.program = s.gen.program ∧ t.gen.startIndex = s.gen.startIndex
            ∧ (let recorded (i : Fin 64) : Prop := s.queue.records.length < 128 → t.queue.records = s.queue.records ++
                [{ seq := s.queue.nextSeq, stamp := s.stamp, cycle := s.gen.cycles
                   body := .program i s.gen.program[i].kind t.gen.state t.gen.lastReason }]
               (∀ i jumped, reached.2 = .governs i jumped →
                  t.gen.state = .running ∧ t.gen.current = some i ∧ t.gen.lastReason = .start
                    ∧ t.gen.requestedPause = s.gen.requestedPause
                    ∧ t.answerOf .director = some [0x00#8, 0#8, 2#8, 0x01#8, byteOf i.val]
                    ∧ (∀ d, s.gen.program[i] = .dwell d → t.gen.countdown = d)
                    ∧ (∀ a f n, s.gen.program[i] = .cycle a f n → t.gen.remaining = n ∧ t.gen.endless = (n == 0#32))
                    ∧ recorded i)
                ∧ ∀ i reason, reached.2 = .ends i reason →
                    t.gen.state = .done ∧ t.gen.current = none ∧ t.gen.lastReason = reason
                      ∧ t.gen.requestedPause = false
                      ∧ t.answerOf .director = some [0x00#8, 0#8, 2#8, 0x03#8, 0xFF#8]
                      ∧ recorded i)
            ∧ t.queue.nextSeq = s.queue.nextSeq + 1#16
            ∧ (∀ q, t.holds q .genChange = true)
            ∧ { t with gen := s.gen, queue := s.queue, ports := s.ports } = s)

/-- R21, R23: PAUSE sets the requested pause, and in RUNNING the generator enters PAUSED at once with its record; RESUME clears it, and
in PAUSED without the zone pause demand the generator enters RUNNING; neither has another effect, and PAUSE has none in STOPPED and
DONE. -/
def Obligations.PauseAndResume : Prop :=
  ∀ s : State,
    let flagged (b : Bool) : State := { s with gen := { s.gen with requestedPause := b } }
    let moved (b : Bool) (x : GenState) : State := { s with gen := { s.gen with requestedPause := b, state := x } }
    (∀ i, s.gen.state = .running → s.gen.current = some i → exec (.pause .director) s =
        .next (((moved true .paused).programRecord i .pause).answer .director 0x14#8 0#16 .ok [0x02#8, 1#8]))
      ∧ (s.gen.state = .paused → exec (.pause .director) s =
          .next ((flagged true).answer .director 0x14#8 0#16 .ok [0x02#8, 1#8]))
      ∧ (s.gen.state = .stopped ∨ s.gen.state = .done → exec (.pause .director) s =
          .next (s.answer .director 0x14#8 0#16 .ok [s.gen.state.code, yes s.gen.requestedPause]))
      ∧ (∀ i, s.gen.state = .paused → s.gen.current = some i → s.pauseDemand = false → exec (.resume .director) s =
          .next (((moved false .running).programRecord i .resume).answer .director 0x15#8 0#16 .ok [0x01#8, 0#8]))
      ∧ (s.gen.state ≠ .paused ∨ s.pauseDemand = true → exec (.resume .director) s =
          .next ((flagged false).answer .director 0x15#8 0#16 .ok [s.gen.state.code, 0#8]))

/-- R24, R25: STOP NOW in RUNNING and PAUSED, and STOP AT_BOUNDARY without a CYCLE current, enter STOPPED with the mean kept and the
block, the phase and the pendings given up; AT_BOUNDARY in a CYCLE sets the pending stop; ADVANCE sets the pending ADVANCE; in STOPPED
and DONE neither has an effect; a mode outside the two is refused RANGE. (That the countdown and remaining count given up read 0 is
the model's choice, notes/assumptions/21.md.) -/
def Obligations.StopAndAdvance : Prop :=
  ∀ (mode : Byte) (s : State),
    let stopped : State :=
      { s with
        gen := { s.gen with
          state := .stopped, current := none, countdown := 0#32, remaining := 0#32, endless := false, phase := 0#32
          requestedPause := false, pendingAdvance := false, pendingStop := false } }
    (2 ≤ mode.toNat → exec (.stop .director mode) s = .next (s.answer .director 0x16#8 1#16 .range []))
      ∧ (∀ i, mode.toNat ≤ 1 → s.gen.executing = true → s.gen.current = some i →
          ((mode = 0#8 ∨ ∀ a f n, s.gen.program[i] ≠ .cycle a f n) → exec (.stop .director mode) s =
              .next ((stopped.programRecord i .stop).answer .director 0x16#8 1#16 .ok [0x00#8, 0#8]))
            ∧ (∀ a f n, mode = 1#8 → s.gen.program[i] = .cycle a f n → exec (.stop .director mode) s =
                .next ({ s with gen := { s.gen with pendingStop := true } }.answer .director 0x16#8 1#16 .ok
                  [s.gen.state.code, 1#8])))
      ∧ (mode.toNat ≤ 1 → s.gen.executing = false → exec (.stop .director mode) s =
          .next (s.answer .director 0x16#8 1#16 .ok [s.gen.state.code, yes s.gen.pendingStop]))
      ∧ (s.gen.executing = true → exec (.advance .director) s =
          .next ({ s with gen := { s.gen with pendingAdvance := true } }.answer .director 0x17#8 0#16 .ok
            [s.gen.state.code, 1#8]))
      ∧ (s.gen.executing = false → exec (.advance .director) s =
          .next (s.answer .director 0x17#8 0#16 .ok [s.gen.state.code, yes s.gen.pendingAdvance]))

/-- R25, R27, R28, R32 to R36: at an update in RUNNING a RAMP moves the mean toward its target by at most its rate and ends when it is
there; a DWELL counts down, keeps the mean and ends at 0; a pending ADVANCE ends either with the mean where it stood. A block that ends
gives way to what the chain from the next index reaches (ChainsEvaluateJumps says what a chain does), with the chain's loop counters,
one PROGRAM record with its reason, and GEN_CHANGE at every port. (The model's choices: RAMP_END, DWELL_END and PENDING_ADVANCE_ACTS
are the updates at which these come about, notes/assumptions/6.md; the PROGRAM record follows a NOW commit's, 16.md.) -/
def Obligations.TimedBlocksAtAnUpdate : Prop :=
  ∀ (s : State) (i : Fin 64), s.gen.state = .running → s.gen.current = some i →
    let reached := chain s.gen.program 8 (i.val + 1) s.gen.loops false
    let recorded (t : State) (j : Fin 64) (st : GenState) (reason : Reason) : Prop := s.queue.records.length ≤ 126 →
      { seq := s.queue.nextSeq + (if s.commit = .armedNow then 1#16 else 0#16), stamp := s.stamp, cycle := s.gen.cycles
        body := .program j s.gen.program[j].kind st reason } ∈ t.queue.records
    let stays (t : State) : Prop := t.gen.current = some i ∧ t.gen.pendingAdvance = false ∧ t.gen.loops = s.gen.loops
    let ends (t : State) : Prop :=
      t.gen.loops = reached.1 ∧ t.gen.pendingAdvance = false ∧ t.gen.phase = 0#32 ∧ (∀ q, t.holds q .genChange = true)
        ∧ (∀ j jumped, reached.2 = .governs j jumped →
            let reason : Reason := if s.gen.pendingAdvance then .advance else if jumped then .jump else .next
            t.gen.current = some j ∧ recorded t j .running reason
              ∧ (∀ d, s.gen.program[j] = .dwell d → t.gen.countdown = d)
              ∧ (∀ a f n, s.gen.program[j] = .cycle a f n → t.gen.remaining = n ∧ t.gen.endless = (n == 0#32))
              ∧ (s.pauseDemand = false → s.gen.requestedPause = false →
                  t.gen.state = .running ∧ t.gen.lastReason = reason))
        ∧ (∀ j reason, reached.2 = .ends j reason →
            t.gen.current = none ∧ t.gen.state = .done ∧ t.gen.lastReason = reason ∧ t.gen.requestedPause = false
              ∧ recorded t j .done reason)
    (∀ target rate, s.gen.program[i] = .ramp target rate → ∃ t, exec .update s = .next t
        ∧ t.gen.cycles = s.gen.cycles ∧ t.gen.program = s.gen.program
        ∧ (s.gen.pendingAdvance = false →
            t.gen.mean.toInt =
                (if (target.toInt - s.gen.mean.toInt).natAbs ≤ rate.toNat then target.toInt
                  else if s.gen.mean.toInt < target.toInt then s.gen.mean.toInt + rate.toNat
                  else s.gen.mean.toInt - rate.toNat)
              ∧ (t.gen.mean ≠ target → stays t)
              ∧ (t.gen.mean = target → exec .rampEnd s = .next t ∧ ends t))
        ∧ (s.gen.pendingAdvance = true → exec .pendingAdvanceActs s = .next t ∧ t.gen.mean = s.gen.mean ∧ ends t))
      ∧ ∀ d, s.gen.program[i] = .dwell d → ∃ t, exec .update s = .next t
          ∧ t.gen.cycles = s.gen.cycles ∧ t.gen.program = s.gen.program ∧ t.gen.mean = s.gen.mean
          ∧ (s.gen.pendingAdvance = false → 2 ≤ s.gen.countdown.toNat →
              stays t ∧ t.gen.countdown.toNat = s.gen.countdown.toNat - 1)
          ∧ (s.gen.countdown.toNat ≤ 1 → exec .dwellEnd s = .next t ∧ ends t)
          ∧ (s.gen.pendingAdvance = true → exec .pendingAdvanceActs s = .next t ∧ ends t)

/-- R29 to R36: at an update in RUNNING with a CYCLE current the frequency word is added to the phase; without a carry nothing else of
the generator advances; with one, the update is a boundary: the cycle counter rises, saturating at 2^40 − 1, a finite count falls, and
the block ends when the count is through, ADVANCE is pending or a stop is pending, with the phase 0. It then gives way to what the chain
from the next index reaches (ChainsEvaluateJumps), or to STOPPED at a pending stop, with one PROGRAM record and GEN_CHANGE at every
port; where the zones were NORMAL the generator is then RUNNING, or PAUSED if the boundary's drift raises brought the pause demand.
(The model's choices: BOUNDARY, PENDING_ADVANCE_ACTS and PENDING_STOP_ACTS take that whole update, notes/assumptions/6.md; the PROGRAM
record follows a NOW commit's, 16.md.) -/
def Obligations.CycleAtAnUpdate : Prop :=
  ∀ (s : State) (i : Fin 64) (a : Half) (f n : Word),
    s.gen.state = .running → s.gen.current = some i → s.gen.program[i] = .cycle a f n →
    let sum := s.gen.phase.toNat + f.toNat
    let counts := s.gen.endless = false ∧ s.gen.remaining.toNat ≤ 1
    let reached := chain s.gen.program 8 (i.val + 1) s.gen.loops false
    let recorded (t : State) (j : Fin 64) (st : GenState) (reason : Reason) : Prop := s.queue.records.length ≤ 126 →
      { seq := s.queue.nextSeq + (if s.commit = .armedNow then 1#16 else 0#16), stamp := s.stamp, cycle := t.gen.cycles
        body := .program j s.gen.program[j].kind st reason } ∈ t.queue.records
    ∃ t, exec .update s = .next t ∧ t.gen.mean = s.gen.mean
      ∧ (sum < 2 ^ 32 →
          t.gen.phase.toNat = sum ∧ t.gen.cycles = s.gen.cycles ∧ t.gen.remaining = s.gen.remaining
            ∧ t.gen.current = some i ∧ t.gen.loops = s.gen.loops)
      ∧ (2 ^ 32 ≤ sum → exec .boundary s = .next t
          ∧ t.gen.cycles.toNat = min (s.gen.cycles.toNat + 1) (2 ^ 40 - 1)
          ∧ (¬ counts → s.gen.pendingAdvance = false → s.gen.pendingStop = false →
              t.gen.phase.toNat = sum - 2 ^ 32 ∧ t.gen.current = some i ∧ t.gen.loops = s.gen.loops
                ∧ (s.gen.endless = false → t.gen.remaining.toNat = s.gen.remaining.toNat - 1))
          ∧ (counts ∨ s.gen.pendingAdvance = true → s.gen.pendingStop = false →
              t.gen.phase = 0#32 ∧ t.gen.pendingAdvance = false ∧ t.gen.loops = reached.1
                ∧ (∀ q, t.holds q .genChange = true)
                ∧ (∀ j jumped, reached.2 = .governs j jumped →
                    let reason : Reason := if s.gen.pendingAdvance then .advance else if jumped then .jump else .next
                    t.gen.current = some j ∧ recorded t j .running reason
                      ∧ (∀ d, s.gen.program[j] = .dwell d → t.gen.countdown = d)
                      ∧ (∀ a f n, s.gen.program[j] = .cycle a f n → t.gen.remaining = n ∧ t.gen.endless = (n == 0#32))
                      ∧ ((∀ z : Fin 4, s.zones[z].state = .normal) → s.gen.requestedPause = false →
                          if t.pauseDemand then t.gen.state = .paused ∧ t.gen.lastReason = .pause
                          else t.gen.state = .running ∧ t.gen.lastReason = reason))
                ∧ (∀ j reason, reached.2 = .ends j reason →
                    t.gen.current = none ∧ t.gen.state = .done ∧ t.gen.lastReason = reason ∧ t.gen.requestedPause = false
                      ∧ recorded t j .done reason)
                ∧ (s.gen.pendingAdvance = true → exec .pendingAdvanceActs s = .next t))
          ∧ (s.gen.pendingStop = true → exec .pendingStopActs s = .next t
              ∧ t.gen.state = .stopped ∧ t.gen.current = none ∧ t.gen.phase = 0#32 ∧ t.gen.pendingStop = false
              ∧ t.gen.pendingAdvance = false ∧ t.gen.requestedPause = false ∧ t.gen.loops = s.gen.loops
              ∧ t.gen.lastReason = .stop ∧ recorded t i .stopped .stop ∧ ∀ q, t.holds q .genChange = true))

/-- R21, R26, R29, R30: an update in PAUSED, STOPPED or DONE advances nothing of the generator, and hands on the mean with the amplitude
and sine index of the frozen block in PAUSED (0 and 0 for a RAMP or DWELL) and with amplitude 0 and index 0 in STOPPED and DONE; an
update in RUNNING hands on the values of the block that governed it after its step. (R44 gives the first update of a CYCLE the index 0
where R29 and section 2.7 give it the index after the addition: that the latter holds is the model's choice, notes/assumptions/27.md.) -/
def Obligations.UpdateFreezesAndHandsOn : Prop :=
  ∀ s : State,
    (s.gen.state ≠ .running → ∃ t, exec .update s = .next t
        ∧ { t.gen with state := s.gen.state, lastReason := s.gen.lastReason } = s.gen
        ∧ (s.gen.state ≠ .paused → t.gen = s.gen))
      ∧ (s.gen.state = .stopped ∨ s.gen.state = .done →
          s.gen.drive = { mean := s.gen.mean, amplitude := 0#16, index := 0 })
      ∧ ∀ i, s.gen.current = some i →
          (∀ a f n, s.gen.program[i] = .cycle a f n →
            (s.gen.state = .paused →
                s.gen.drive = { mean := s.gen.mean, amplitude := a, index := s.gen.phase.toNat / 1048576 })
              ∧ (s.gen.state = .running → s.gen.drive.mean = s.gen.mean ∧ s.gen.drive.amplitude = a
                  ∧ (s.gen.phase.toNat + f.toNat < 2 ^ 32 →
                      s.gen.drive.index = (s.gen.phase.toNat + f.toNat) / 1048576)
                  ∧ (2 ^ 32 ≤ s.gen.phase.toNat + f.toNat → s.gen.endless = true ∨ 2 ≤ s.gen.remaining.toNat →
                      s.gen.pendingAdvance = false → s.gen.pendingStop = false →
                      s.gen.drive.index = (s.gen.phase.toNat + f.toNat) % 4294967296 / 1048576)
                  ∧ (2 ^ 32 ≤ s.gen.phase.toNat + f.toNat →
                      s.gen.pendingAdvance = true ∨ s.gen.pendingStop = true
                        ∨ (s.gen.endless = false ∧ s.gen.remaining.toNat ≤ 1) →
                      s.gen.drive.index = 0)))
            ∧ ((∀ a f n, s.gen.program[i] ≠ .cycle a f n) → s.gen.state = .paused ∨ s.gen.state = .running →
                s.gen.drive.amplitude = 0#16 ∧ s.gen.drive.index = s.gen.phase.toNat / 1048576
                  ∧ (s.gen.state = .paused → s.gen.drive.mean = s.gen.mean))
            ∧ (∀ target rate, s.gen.program[i] = .ramp target rate → s.gen.state = .running →
                s.gen.drive.amplitude = 0#16
                  ∧ (s.gen.pendingAdvance = true → s.gen.drive.mean = s.gen.mean)
                  ∧ (s.gen.pendingAdvance = false → (target.toInt - s.gen.mean.toInt).natAbs ≤ rate.toNat →
                      s.gen.drive.mean = target)
                  ∧ (s.gen.pendingAdvance = false → s.gen.mean.toInt + rate.toNat < target.toInt →
                      s.gen.drive.mean.toInt = s.gen.mean.toInt + rate.toNat)
                  ∧ (s.gen.pendingAdvance = false → target.toInt < s.gen.mean.toInt - rate.toNat →
                      s.gen.drive.mean.toInt = s.gen.mean.toInt - rate.toNat))
            ∧ ∀ d, s.gen.program[i] = .dwell d → s.gen.state = .running →
                s.gen.drive.amplitude = 0#16 ∧ s.gen.drive.mean = s.gen.mean

/-- R32, R33, R34: a chain ends at the first block that governs, at a STOP, past block 63 or at a ninth JUMP, and evaluates a JUMP by
its loop counter, at most eight of them; it changes the loop counters of JUMP blocks only, at most eight of them. -/
def Obligations.ChainsEvaluateJumps : Prop :=
  ∀ (program : Vector Block 64) (loops : Vector Half 64) (jumped : Bool),
    (∀ (left : Nat) (i j : Fin 64) (k : Half), program[i] = .jump j k →
        (loops[i].toNat < k.toNat → chain program (left + 1) i.val loops jumped =
            chain program left j.val (loops.set i (loops[i] + 1#16)) true)
          ∧ (loops[i] = k → chain program (left + 1) i.val loops jumped =
              chain program left (i.val + 1) (loops.set i 0#16) jumped)
          ∧ chain program 0 i.val loops jumped = (loops, .ends i .loopLimit))
      ∧ (∀ (left : Nat) (i : Fin 64),
          (program[i].governs = true → chain program left i.val loops jumped = (loops, .governs i jumped))
            ∧ (program[i] = .stop → chain program left i.val loops jumped = (loops, .ends i .done)))
      ∧ (∀ left candidate : Nat, 64 ≤ candidate → chain program left candidate loops jumped = (loops, .ends 63 .done))
      ∧ ∀ candidate : Nat,
          let r := chain program 8 candidate loops jumped
          (∀ i b, r.2 = .governs i b → program[i].governs = true)
            ∧ (∀ i, r.2 = .ends i .loopLimit → program[i].kind = .jump)
            ∧ (∀ i, r.2 = .ends i .done → program[i] = .stop ∨ i = 63)
            ∧ (∀ i : Fin 64, r.1[i] ≠ loops[i] → program[i].kind = .jump)
            ∧ ((List.finRange 64).filter fun i => r.1[i] != loops[i]).length ≤ 8

/-! ### The setpoint arithmetic (chapter 3) -/

/-- R39: a rounded quotient is the whole number nearest to the exact quotient, and the greater of the two at a tie. -/
def Obligations.RoundingIsNearestTiesUp : Prop :=
  ∀ (a : Int) (d : Nat), 0 < d →
    (∀ q : Int, (a - roundDiv a d * d).natAbs ≤ (a - q * d).natAbs)
      ∧ ∀ q : Int, (a - q * d).natAbs = (a - roundDiv a d * d).natAbs → q ≤ roundDiv a d

/-- R40: the symmetries of the sine table, its four fixed entries, its range, and that it rises through its first quarter. -/
def Obligations.SineTableIsSymmetric : Prop :=
  (∀ k, k ≤ 2048 → sineEntry (2048 - k) = sineEntry k)
    ∧ (∀ k, 1 ≤ k → k ≤ 4095 → sineEntry (4096 - k) = - sineEntry k)
    ∧ sineEntry 0 = 0 ∧ sineEntry 2048 = 0 ∧ sineEntry 1024 = 32767 ∧ sineEntry 3072 = -32767
    ∧ (∀ k, k ≤ 4095 → -32767 ≤ sineEntry k ∧ sineEntry k ≤ 32767)
    ∧ ∀ k, k < 1024 → sineEntry k ≤ sineEntry (k + 1)

/-- R30, R42 to R49: what an update leaves in a channel's output record, by the state of its zone when the update is taken: stages 1 to 5
in NORMAL, the held value in HELD, the ramps toward UL and toward the stage-4 target at the zone's rates, UL in UNLOADED and DUMPED; with
the CLAMPED and SLEWING flags, and the held value written back in HELD alone. At a boundary the active set is the one after step 4, and
what a drift raise then does to the outputs is said of the raise (BaselinesAreCapturedAtABoundary, TripAndSetFrame): the statement is of
the boundaries at which no drift count can come to M. -/
def Obligations.UpdateComputesSetpoints : Prop :=
  ∀ (s : State) (c : Fin 8),
    (s.gen.carries = true → ∀ g : Fin 64, s.gauges[g].config.enabled = true →
      s.gauges[g].run.driftCount + 1 < s.gauges[g].config.m) →
    s.channels[c].fmin.toInt ≤ s.channels[c].fmax.toInt →
    ∃ t, exec .update s = .next t ∧ t.channels = s.channels
      ∧ t.activeSet = (if s.commit = .armedNow ∨ (s.commit = .armedBoundary ∧ s.gen.carries = true) then s.stagedSet
          else s.activeSet)
      ∧ let d := s.gen.drive
        let ch := s.channels[c]
        let z := s.zones[ch.zone]
        let sat (x : Int) : Int := max (-32768) (min x 32767)
        let within (x : Int) : Int := max ch.fmin.toInt (min x ch.fmax.toInt)
        let toward (x goal : Int) (rate : Nat) : Int :=
          if (goal - x).natAbs ≤ rate then goal else if x < goal then x + rate else x - rate
        let eff := min (roundDiv (d.amplitude.toInt * (t.activeSet.ascale.toNat : Int)) 1024) 32767
        let dem := sat (d.mean.toInt + roundDiv (eff * sineEntry d.index) 32768)
        let raw := sat (t.activeSet.offset[c].toInt + roundDiv (dem * t.activeSet.share[c].toInt) 4096)
        let target := within raw
        let prev := s.outputs[c].setpoint.toInt
        let o := t.outputs[c]
        (z.state ≠ .held → o.held = s.outputs[c].held)
          ∧ (z.state ≠ .dumped → o.clamped = decide (raw < ch.fmin.toInt ∨ ch.fmax.toInt < raw))
          ∧ (z.state ≠ .normal → o.slewing = false)
          ∧ (z.state = .normal →
              (ch.rmax = 0#16 → o.setpoint.toInt = target ∧ o.slewing = false)
                ∧ (ch.rmax ≠ 0#16 → o.setpoint.toInt = toward prev target ch.rmax.toNat
                    ∧ o.slewing = decide (ch.rmax.toNat < (target - prev).natAbs)))
          ∧ (z.state = .held → o.setpoint.toInt = within s.outputs[c].held.toInt ∧ o.held = o.setpoint)
          ∧ (z.state = .unloading → o.setpoint.toInt = toward prev ch.ul.toInt z.unloadRate.toNat)
          ∧ (z.state = .unloaded → o.setpoint = ch.ul)
          ∧ (z.state = .reloading → o.setpoint.toInt = toward prev target z.reloadRate.toNat)
          ∧ (z.state = .dumped → o.setpoint = ch.ul ∧ o.clamped = false)

/-- R21, R52, R136: at an update an UNLOADING zone whose members all come to UL enters UNLOADED, and a RELOADING zone whose members all
come to their targets enters NORMAL, each with its ZONE_CHANGE record and ZONE_CHANGE at every port; a zone with no members completes at
once, one with a member still away stays in its ramp, and a zone in another state stays in it. Where the pause demand goes with a
completion, a PAUSED generator without the requested pause resumes. At a boundary the same report comes before the notice: the zone
stands so (`reported`) until the notice's removals and raises. ZONE_RAMP_COMPLETE is the update that completes the ramp, and does
nothing at another (the model's choice, notes/assumptions/6.md). -/
def Obligations.RampsCompleteOnTheReport : Prop :=
  ∀ (s : State) (z : Fin 4),
    let near (x goal : Half) (rate : Half) : Prop := (goal.toInt - x.toInt).natAbs ≤ rate.toNat
    let arrives (c : Fin 8) : Prop :=
      (s.zones[z].state = .unloading → near s.outputs[c].setpoint s.channels[c].ul s.zones[z].unloadRate)
        ∧ (s.zones[z].state = .reloading →
            near s.outputs[c].setpoint (s.updateGenerator.targetOf s.updateDemand c) s.zones[z].reloadRate)
    let reported := s.updateSetpoints.arrive s.updateDemand
    let turned (t : State) (after : ZoneState) : Prop :=
      exec (.zoneRampComplete z) s = .next t ∧ reported.zones[z] = { s.zones[z] with state := after }
        ∧ (∀ q, t.holds q .zoneChange = true)
        ∧ (s.queue.records.length ≤ 110 → ∃ r ∈ t.queue.records, r.stamp = s.stamp ∧ r.cycle = reported.gen.cycles
            ∧ r.body = .zoneChange z s.zones[z].state after)
        ∧ (s.gen.state = .paused → s.gen.requestedPause = false → reported.pauseDemand = false →
            reported.gen.state = .running)
    ∃ t, exec .update s = .next t
      ∧ (s.gen.carries = false → t = reported)
      ∧ (s.gen.carries = true → t = reported.boundaryRemovals.closeCycles.autoSnapshot.syncPause)
      ∧ (s.zones[z].state = .unloading → (∀ c : Fin 8, s.channels[c].zone = z → arrives c) → turned t .unloaded)
      ∧ (s.zones[z].state = .reloading → (∀ c : Fin 8, s.channels[c].zone = z → arrives c) → turned t .normal)
      ∧ (∀ c : Fin 8, s.channels[c].zone = z → ¬ arrives c →
          reported.zones[z] = s.zones[z] ∧ exec (.zoneRampComplete z) s = .next s)
      ∧ (s.zones[z].state ≠ .unloading → s.zones[z].state ≠ .reloading →
          reported.zones[z] = s.zones[z] ∧ exec (.zoneRampComplete z) s = .next s)

/-! ### Channels and load sets (chapter 4) -/

/-- R59, R60, R61: SET_CHANNEL with fields in range and in no conflict replaces the record, brings the setpoint and held value inside
the new window (to UL while the zone is DUMPED), sets the miss count to 0, keeps the flags, and answers record, setpoint and held
value; a field out of range is refused RANGE, a window that is no window, or the method BOUNDARY with an action other than REPORT,
CONFLICT, and a change of zone that is not allowed STATE. -/
def Obligations.SetChannelReplacesTheRecord : Prop :=
  (∀ (a : ChannelArgs) (s : State),
      7 < a.channel.toNat ∨ 3 < a.zone.toNat ∨ a.rmax.toInt < 0 ∨ a.tol.toInt < 1 ∨ 15 < a.k.toNat ∨ a.fabs.toInt < 0
        ∨ 6 < a.trackingAction.toNat ∨ 6 < a.overforceAction.toNat ∨ 6 < a.strokeAction.toNat ∨ 3 < a.method.toNat
        ∨ a.seconds = 0#16 ∨ 3600 < a.seconds.toNat →
      exec (.setChannel .director a) s = .next (s.answer .director 0x20#8 25#16 .range []))
  ∧ ∀ (a : ChannelArgs) (c : Fin 8) (z : Fin 4) (s : State), a.channel.toNat = c.val → a.zone.toNat = z.val →
    0 ≤ a.rmax.toInt → 1 ≤ a.tol.toInt → a.k.toNat ≤ 15 → 0 ≤ a.fabs.toInt → a.trackingAction.toNat ≤ 6 →
    a.overforceAction.toNat ≤ 6 → a.strokeAction.toNat ≤ 6 → a.method.toNat ≤ 3 → 1 ≤ a.seconds.toNat →
    a.seconds.toNat ≤ 3600 →
    let reports := a.trackingAction = 0#8 ∧ a.overforceAction = 0#8 ∧ a.strokeAction = 0#8
    let agrees := a.fmin.toInt ≤ a.ul.toInt ∧ a.ul.toInt ≤ a.fmax.toInt ∧ a.smin.toInt ≤ a.smax.toInt
      ∧ (a.method = 3#8 → reports)
    let old := s.channels[c].zone
    let mayStand := old = z ∨ (s.gen.executing = false
      ∧ ((s.zones[old].state = .normal ∧ s.zones[z].state = .normal)
        ∨ (s.zones[old].state = .dumped ∧ s.zones[z].state = .dumped)))
    let within (x : Half) : Int := max a.fmin.toInt (min x.toInt a.fmax.toInt)
    (¬ agrees → exec (.setChannel .director a) s = .next (s.answer .director 0x20#8 25#16 .conflict []))
      ∧ (agrees → ¬ mayStand → exec (.setChannel .director a) s = .next (s.answer .director 0x20#8 25#16 .state []))
      ∧ (agrees → mayStand → ∃ t, exec (.setChannel .director a) s = .next t
          ∧ (let x := t.channels[c]
             x.fmin = a.fmin ∧ x.fmax = a.fmax ∧ x.rmax = a.rmax ∧ x.ul = a.ul ∧ x.tol = a.tol ∧ x.k = max 1 a.k.toNat
              ∧ x.fabs = a.fabs ∧ x.smin = a.smin ∧ x.smax = a.smax ∧ x.trackingAction.code = a.trackingAction
              ∧ x.overforceAction.code = a.overforceAction ∧ x.strokeAction.code = a.strokeAction
              ∧ x.method.code = a.method ∧ x.seconds = a.seconds ∧ x.zone = z)
          ∧ (s.zones[z].state = .dumped → t.outputs[c].setpoint = a.ul)
          ∧ (s.zones[z].state ≠ .dumped → t.outputs[c].setpoint.toInt = within s.outputs[c].setpoint)
          ∧ t.outputs[c].held.toInt = within s.outputs[c].held
          ∧ t.outputs[c].flags = s.outputs[c].flags
          ∧ t.supervision[c] = { s.supervision[c] with misses := 0 }
          ∧ (∀ c' : Fin 8, c' ≠ c → t.channels[c'] = s.channels[c'] ∧ t.outputs[c'] = s.outputs[c']
              ∧ t.supervision[c'] = s.supervision[c'])
          ∧ t.answerOf .director = some
              ([0x00#8, 0#8, 30#8] ++ t.channels[c].bytes c ++ opt2 (t.setpoint? c) ++ bytes2 t.outputs[c].held)
          ∧ (∀ q, t.eventStatus q = s.eventStatus q)
          ∧ { t with channels := s.channels, outputs := s.outputs, supervision := s.supervision, ports := s.ports } = s)

/-- R65, R66: STAGE_CHANNEL writes the share and offset of one channel in the pending set and STAGE_SCALE its amplitude scale, leaving
everything else as it was and answering the pending and active values; out of range they are refused RANGE, and while a commit is armed
BUSY. -/
def Obligations.StagingWritesThePendingSet : Prop :=
  ∀ s : State,
    (∀ (b : Byte) (share offset : Half), 7 < b.toNat ∨ share.toInt < -8192 ∨ 8192 < share.toInt →
        exec (.stageChannel .director b share offset) s = .next (s.answer .director 0x22#8 5#16 .range []))
      ∧ (∀ (c : Fin 8) (b : Byte) (share offset : Half), b.toNat = c.val → -8192 ≤ share.toInt → share.toInt ≤ 8192 →
          (s.commit ≠ .none → exec (.stageChannel .director b share offset) s =
              .next (s.answer .director 0x22#8 5#16 .busy []))
            ∧ (s.commit = .none → exec (.stageChannel .director b share offset) s =
                .next ({ s with stagedSet :=
                    { s.stagedSet with
                      share := s.stagedSet.share.set c share, offset := s.stagedSet.offset.set c offset } }.answer .director
                  0x22#8 5#16 .ok
                  (bytes2 share ++ bytes2 offset ++ bytes2 s.activeSet.share[c] ++ bytes2 s.activeSet.offset[c]))))
      ∧ ∀ ascale : Half,
          (2048 < ascale.toNat → exec (.stageScale .director ascale) s =
              .next (s.answer .director 0x23#8 2#16 .range []))
            ∧ (ascale.toNat ≤ 2048 → s.commit ≠ .none → exec (.stageScale .director ascale) s =
                .next (s.answer .director 0x23#8 2#16 .busy []))
            ∧ (ascale.toNat ≤ 2048 → s.commit = .none → exec (.stageScale .director ascale) s =
                .next ({ s with stagedSet := { s.stagedSet with ascale := ascale } }.answer .director 0x23#8 2#16 .ok
                  (bytes2 ascale ++ bytes2 s.activeSet.ascale)))

/-- R67, R71: ARM_COMMIT arms a commit of its mode, with no record and no event, unless one is armed (BUSY) or the mode is neither of
the two (RANGE); DISARM cancels an armed commit with a CANCELLED record and COMMIT_DONE at every port, keeping both sets, and answers
NONE with no effect when none is armed. -/
def Obligations.ArmAndDisarm : Prop :=
  ∀ (mode : Byte) (s : State),
    (2 ≤ mode.toNat → exec (.armCommit .director mode) s = .next (s.answer .director 0x24#8 1#16 .range []))
      ∧ (mode.toNat ≤ 1 → s.commit ≠ .none → exec (.armCommit .director mode) s =
          .next (s.answer .director 0x24#8 1#16 .busy []))
      ∧ (mode = 0#8 → s.commit = .none → exec (.armCommit .director mode) s =
          .next ({ s with commit := .armedNow }.answer .director 0x24#8 1#16 .ok [0x01#8]))
      ∧ (mode = 1#8 → s.commit = .none → exec (.armCommit .director mode) s =
          .next ({ s with commit := .armedBoundary }.answer .director 0x24#8 1#16 .ok [0x02#8]))
      ∧ (s.commit = .none → exec (.disarm .director) s = .next (s.answer .director 0x25#8 0#16 .ok [0x00#8]))
      ∧ (s.commit ≠ .none → exec (.disarm .director) s =
          .next ((({ s with commit := .none }.record (.commit .cancelled)).addEvent .commitDone).answer .director 0x25#8 0#16 .ok
            [0x03#8]))

/-- R68, R69, R72, R150: a commit armed NOW applies at the next update in every generator state, and one armed BOUNDARY at the next
boundary and not before: the active set becomes the pending set, the commit state NONE, with COMMIT_DONE at every port and a COMMIT
record: for NOW the first of the update, with the cycle count before the generator advances (at a boundary the model's choice,
notes/assumptions/28.md); for BOUNDARY the one after the PROGRAM record of a block that ends (16.md), with the cycle count that includes
the boundary. (That the two rows take the whole update is the model's choice, notes/assumptions/6.md.) -/
def Obligations.CommitsApply : Prop :=
  ∀ s : State,
    let applied (t : State) : Prop := t.activeSet = s.stagedSet ∧ t.stagedSet = s.stagedSet ∧ t.commit = .none
      ∧ ∀ q, t.holds q .commitDone = true
    let made (k : Half) (cycle : Cycle40) (outcome : CommitOutcome) : Record :=
      { seq := s.queue.nextSeq + k, stamp := s.stamp, cycle := cycle, body := .commit outcome }
    (s.commit = .armedNow → ∃ t, exec .commitApplyNow s = .next t ∧ exec .update s = .next t ∧ applied t
        ∧ (s.gen.carries = false → s.queue.records.length ≤ 110 →
            s.queue.records ++ [made 0#16 s.gen.cycles .appliedNow] <+: t.queue.records)
        ∧ (s.queue.records.length ≤ 127 → made 0#16 s.gen.cycles .appliedNow ∈ t.queue.records))
      ∧ (s.commit = .armedBoundary → s.gen.carries = true →
          ∃ t, exec .commitApplyBoundary s = .next t ∧ exec .update s = .next t ∧ applied t
            ∧ t.gen.cycles.toNat = min (s.gen.cycles.toNat + 1) (2 ^ 40 - 1)
            ∧ (s.queue.records.length ≤ 126 →
                made (if s.gen.cycleEnds then 1#16 else 0#16) t.gen.cycles .appliedBoundary ∈ t.queue.records))
      ∧ (s.commit = .armedBoundary → s.gen.carries = false →
          ∃ t, exec .update s = .next t ∧ t.commit = .armedBoundary ∧ t.activeSet = s.activeSet ∧ t.stagedSet = s.stagedSet)
      ∧ (s.commit = .none → ∃ t, exec .update s = .next t ∧ t.commit = .none ∧ t.activeSet = s.activeSet
          ∧ t.stagedSet = s.stagedSet)

/-! ### The frame supervisor (chapter 5) -/

/-- R76, R82, R83, R88: SERVO_EXCHANGE stores the measured values, answers with the modes, setpoints and flags of its two channels as
the checks left them (mode DUMP and no setpoint for a DUMPED zone) with the generator state, the sine index and the low 32 bits of the
cycle counter, hands those setpoints out, and brings a set watchdog to ALIVE with its full period: an active FRAME_LATE condition clears
and then an active FRAME_LOST condition, each with its clear handed over, so that no active entry of it is left in any list. Other
frames, channels, gauges and inputs stay as they are. (ServoExchangeChecksItsChannels says what the checks leave; the order of the two
clears is the model's choice, notes/assumptions/18.md.) -/
def Obligations.ServoExchangeAnswersAndHandsOut : Prop :=
  ∀ (f : Fin 4) (forceA forceB strokeA strokeB : Half) (s : State),
    let m := s.exchangeChecks f forceA forceB strokeA strokeB
    let block (c : Fin 8) : List Byte :=
      match m.channelZone c with
      | .normal => [0x00#8] ++ bytes2 m.outputs[c].setpoint ++ [m.outputs[c].flags]
      | .held => [0x01#8] ++ bytes2 m.outputs[c].setpoint ++ [m.outputs[c].flags]
      | .unloading | .unloaded => [0x02#8] ++ bytes2 m.outputs[c].setpoint ++ [m.outputs[c].flags]
      | .reloading => [0x03#8] ++ bytes2 m.outputs[c].setpoint ++ [m.outputs[c].flags]
      | .dumped => [0x04#8, 0#8, 0#8, 0#8]
    let handed (c : Fin 8) : Option Half := if m.channelZone c = .dumped then none else some m.outputs[c].setpoint
    let body : List Byte := block (channelA f) ++ block (channelB f) ++ [m.gen.state.code]
      ++ bytes2 (BitVec.ofNat 16 (m.gen.phase.toNat / 1048576)) ++ bytes4 (m.gen.cycles.setWidth 32)
    ∃ t, exec (.servoExchange (.frame f) forceA forceB strokeA strokeB) s = .next t
      ∧ t.answerOf (.frame f) = some ([0x00#8, 0#8, 15#8] ++ body)
      ∧ (∀ p ∈ [(channelA f, forceA, strokeA), (channelB f, forceB, strokeB)],
          t.supervision[p.1].force = some p.2.1 ∧ t.supervision[p.1].stroke = some p.2.2
            ∧ t.supervision[p.1].handedOut = handed p.1)
      ∧ (s.frames[f].dog = .unwatched → t.frames = s.frames)
      ∧ (s.frames[f].dog ≠ .unwatched → t.frames = s.frames.set f
          { s.frames[f] with dog := .alive, remaining := s.frames[f].period, late := false, lost := false })
      ∧ (let exchanged : State := { m with supervision := t.supervision, frames := t.frames }
         let late := s.frames[f].dog ≠ .unwatched ∧ s.frames[f].late = true
         let lost := s.frames[f].dog ≠ .unwatched ∧ s.frames[f].lost = true
         let onTime := if late then exchanged.clear (.frameLate f) else exchanged
         t = (if lost then onTime.clear (.frameLost f) else onTime).answer (.frame f) 0x30#8 8#16 .ok body
          ∧ ∀ z : Fin 4, ∀ e ∈ t.zones[z].entries,
              (late ∧ e.isOf (.frameLate f) = true) ∨ (lost ∧ e.isOf (.frameLost f) = true) → e.condition = false)
      ∧ (∀ c : Fin 8, c ≠ channelA f → c ≠ channelB f → t.supervision[c] = s.supervision[c])
      ∧ { t.gen with state := s.gen.state, lastReason := s.gen.lastReason } = s.gen
      ∧ { t with ports := s.ports, gen := s.gen, outputs := s.outputs, supervision := s.supervision, frames := s.frames
                 zones := s.zones, tagCounter := s.tagCounter, queue := s.queue } = s

/-- R76 to R81: what the checks of SERVO_EXCHANGE leave of a channel's conditions and miss count: in full with a handed-out
value, the tracking condition after K misses in a row and until a hit; in part without one, when nothing becomes active. Channel A is
checked before B, and in each the tracking, the overforce and the stroke condition in turn: one that becomes active hands over the raise
of its source and index with the channel's action for it, method and seconds, into the channel's zone or by an _ALL action into every
zone (TripAndSetFrame says what a raise does), an ALARM at every port; one that clears hands over the clear of its source
(TimedAndBoundaryRemovals), so that no active entry of it is left in any list; one that does neither hands over nothing. Then the
measured values are stored. -/
def Obligations.ServoExchangeChecksItsChannels : Prop :=
  ∀ (f : Fin 4) (forceA forceB strokeA strokeB : Half) (s : State), ∃ t,
    exec (.servoExchange (.frame f) forceA forceB strokeA strokeB) s = .next t
      ∧ (∀ p ∈ [(channelA f, forceA, strokeA), (channelB f, forceB, strokeB)],
          let v := s.supervision[p.1]
          let w := t.supervision[p.1]
          let ch := s.channels[p.1]
          let beyond : Bool := decide (ch.fabs ≠ 0#16 ∧ ch.fabs.toInt < (p.2.1.toInt.natAbs : Int))
          let outside : Bool := decide (¬ (ch.smin = 0#16 ∧ ch.smax = 0#16)
            ∧ (p.2.2.toInt < ch.smin.toInt ∨ ch.smax.toInt < p.2.2.toInt))
          (∀ h, v.handedOut = some h →
              let miss : Prop := ch.tol.toInt < ((p.2.1.toInt - h.toInt).natAbs : Int)
              (v.tracking = true → w.misses = v.misses ∧ (w.tracking = true ↔ miss))
                ∧ (v.tracking = false → ¬ miss → w.misses = 0 ∧ w.tracking = false)
                ∧ (v.tracking = false → miss → v.misses + 1 < ch.k → w.misses = v.misses + 1 ∧ w.tracking = false)
                ∧ (v.tracking = false → miss → ch.k ≤ v.misses + 1 → w.misses = 0 ∧ w.tracking = true)
                ∧ w.overforce = beyond ∧ w.strokeOut = outside)
            ∧ (v.handedOut = none → w.misses = 0 ∧ w.tracking = false ∧ w.overforce = (v.overforce && beyond)
                ∧ w.strokeOut = (v.strokeOut && outside))
            ∧ ((v.tracking = false ∧ w.tracking = true) ∨ (v.overforce = false ∧ w.overforce = true)
                ∨ (v.strokeOut = false ∧ w.strokeOut = true) → ∀ q, t.holds q .alarm = true)
            ∧ ∀ z : Fin 4, ∀ e ∈ t.zones[z].entries,
                (v.tracking = true ∧ w.tracking = false ∧ e.isOf (.tracking p.1) = true)
                  ∨ (v.overforce = true ∧ w.overforce = false ∧ e.isOf (.overforce p.1) = true)
                  ∨ (v.strokeOut = true ∧ w.strokeOut = false ∧ e.isOf (.stroke p.1) = true) → e.condition = false)
      ∧ (let hand (u : State) (c : Fin 8) (source : Source) (action : Action) (before after : Bool) : State :=
           if before = after then u
           else if after then
             u.raise { source := source, action := action, method := s.channels[c].method, seconds := s.channels[c].seconds
                       active := true } [s.channels[c].zone]
           else u.clear source
         let checked (u : State) (c : Fin 8) : State :=
           let v := s.supervision[c]
           let w := t.supervision[c]
           let ch := s.channels[c]
           let tracked := { v with misses := w.misses, tracking := w.tracking }
           let forced := { tracked with overforce := w.overforce }
           let stroked := { forced with strokeOut := w.strokeOut }
           let u1 := hand { u with supervision := u.supervision.set c tracked } c (.tracking c) ch.trackingAction v.tracking
             w.tracking
           let u2 := hand { u1 with supervision := u1.supervision.set c forced } c (.overforce c) ch.overforceAction v.overforce
             w.overforce
           hand { u2 with supervision := u2.supervision.set c stroked } c (.stroke c) ch.strokeAction v.strokeOut w.strokeOut
         let m := checked (checked s (channelA f)) (channelB f)
         s.exchangeChecks f forceA forceB strokeA strokeB =
           { m with
             supervision := (m.supervision.set (channelA f)
              { m.supervision[channelA f] with force := some forceA, stroke := some strokeA }).set (channelB f)
              { m.supervision[channelB f] with force := some forceB, stroke := some strokeB } })

/-- R1, R87, R88: at a count the watchdog of a frame in ALIVE or LATE with two or more remaining is decreased by 1, and in UNWATCHED and
LOST it is not changed; at the count at which it reaches 0, ALIVE enters LATE with its full period, FRAME_LATE active and OWN_LATE at
the frame's own port, and LATE enters LOST with nothing remaining and FRAME_LOST active; either is an ALARM at every port, and hands over
the raise of its source with the frame's late or lost action, method and seconds, into the zones of the frame's two channels or by an
_ALL action into every zone (TripAndSetFrame says what a raise does), in whatever order the count's events come: `earlier` and `later`
are the other events of the count. (That WATCHDOG_EXPIRY is the whole count, and that its order is an operand, is the model's choice,
notes/assumptions/7.md and 3.md.) -/
def Obligations.WatchdogExpires : Prop :=
  ∀ (f : Fin 4) (a : CountArgs) (s : State), ∃ t, exec (.referenceCount a) s = .next t ∧ t.stamp = s.stamp + 1#32 ∧
    let x := s.frames[f]
    let handed (turned : FrameRec) (own : Bool) (source : Source) (action : Action) : Prop :=
      ∃ earlier later : List CountAct, s.countSchedule a = earlier ++ .watchdog f :: later ∧
        let u := earlier.foldl (fun v act => v.countAct a act) { s with stamp := s.stamp + 1#32 }
        let v : State := { u with frames := u.frames.set f turned }
        u.frames[f] = x ∧ t = later.foldl (fun v act => v.countAct a act)
          ((if own then v.addEventAt (.frame f) .ownLate else v).raise
            { source := source, action := action, method := x.method, seconds := x.seconds, active := true }
            [s.channels[channelA f].zone, s.channels[channelB f].zone])
    (x.dog = .unwatched ∨ x.dog = .lost → t.frames[f] = x)
    ∧ (x.dog = .alive ∨ x.dog = .late → 2 ≤ x.remaining.toNat →
        t.frames[f] = { x with remaining := x.remaining - 1#16 }
          ∧ exec (.watchdogExpiry f a) s = .next s)
    ∧ (x.dog = .alive → x.remaining.toNat ≤ 1 → exec (.watchdogExpiry f a) s = .next t
        ∧ t.frames[f] = { x with dog := .late, remaining := x.period, late := true }
        ∧ t.holds (.frame f) .ownLate = true ∧ (∀ q, t.holds q .alarm = true)
        ∧ handed { x with dog := .late, remaining := x.period, late := true } true (.frameLate f) x.lateAction)
    ∧ (x.dog = .late → x.remaining.toNat ≤ 1 → exec (.watchdogExpiry f a) s = .next t
        ∧ t.frames[f] = { x with dog := .lost, remaining := 0#16, lost := true }
        ∧ (∀ q, t.holds q .alarm = true)
        ∧ handed { x with dog := .lost, remaining := 0#16, lost := true } false (.frameLost f) x.lostAction)

/-- R50, R51, R86, R90, R91, R128, R130 to R135: TRIP with a reason 1 to 255 keeps the reason, makes the FRAME_TRIP condition active
and raises it in the zones of both channels, or in every zone for an _ALL action; reason 0 clears the condition and keeps the reason,
handing over the clear of FRAME_TRIP where it was active and nothing else. A raise of any source, in one zone, is a repeat on the
source's entry, or a new entry with the next free tag while fewer than 12 source entries stand, or is folded into the overflow entry;
it escalates the zone by the action of the entry that took it, captures the held values at an entry into HELD and sets the setpoints
to UL at one into DUMPED, makes its ALARM_RAISED and ZONE_CHANGE records and events, and pauses the generator where the pause demand
appears, if that is not left to the end of a boundary; a new AUTO entry with a clear condition is removed at once. The severities of
the actions are those of R130. SET_FRAME replaces the configuration, restarts or stops the watchdog, clears FRAME_LATE and FRAME_LOST,
each with its clear handed over where it was active, so that no active entry of it is left in any list, and leaves the trip; a frame,
action, method or seconds out of range is refused RANGE. (The order of its two clears is the model's choice, notes/assumptions/18.md.) -/
def Obligations.TripAndSetFrame : Prop :=
  ∀ (f : Fin 4) (s : State),
    let mode (t : State) (c : Fin 8) : Byte := match t.channelZone c with
      | .normal => 0x00#8
      | .held => 0x01#8
      | .unloading | .unloaded => 0x02#8
      | .reloading => 0x03#8
      | .dumped => 0x04#8
    let body (t : State) : List Byte :=
      [BitVec.ofNat 8 (t.frames[f].late.toNat + 2 * t.frames[f].lost.toNat + 4 * t.frames[f].trip.toNat), t.frames[f].tripReason,
        mode t (channelA f), mode t (channelB f)]
    let answered (t : State) : Prop := t.answerOf (.frame f) = some ([0x00#8, 0#8, 4#8] ++ body t)
    let frame (t : State) : Prop :=
      { t.gen with state := s.gen.state, lastReason := s.gen.lastReason } = s.gen
        ∧ { t with ports := s.ports, gen := s.gen, outputs := s.outputs, frames := s.frames, zones := s.zones
                   tagCounter := s.tagCounter, queue := s.queue } = s
    (∀ reason : Byte, reason ≠ 0#8 → ∃ t, exec (.trip (.frame f) reason) s = .next t ∧ answered t ∧ frame t
        ∧ t.frames = s.frames.set f { s.frames[f] with tripReason := reason, trip := true }
        ∧ (let u : State := { s with frames := t.frames }
           let v := u.raise
             { source := .frameTrip f, action := s.frames[f].tripAction, method := s.frames[f].method
               seconds := s.frames[f].seconds, active := true }
             [s.channels[channelA f].zone, s.channels[channelB f].zone]
           { t with ports := v.ports } = v ∧ ∀ q, t.eventStatus q = v.eventStatus q)
        ∧ (∀ q, t.holds q .alarm = true)
        ∧ ∀ c, (c = channelA f ∨ c = channelB f) →
            (∀ e ∈ s.zones[s.channels[c].zone].entries, e.isOf (.frameTrip f) = false) →
            (s.frames[f].tripAction.severity = 1 →
                t.channelZone c ≠ .normal ∧ t.channelZone c ≠ .reloading)
              ∧ (s.frames[f].tripAction.severity = 2 →
                  t.channelZone c = .unloading ∨ t.channelZone c = .unloaded ∨ t.channelZone c = .dumped)
              ∧ (s.frames[f].tripAction.severity = 3 → t.channelZone c = .dumped))
      ∧ (∃ t, exec (.trip (.frame f) 0#8) s = .next t ∧ answered t ∧ frame t
          ∧ t.frames = s.frames.set f { s.frames[f] with trip := false }
          ∧ (s.frames[f].trip = false → t = s.answer (.frame f) 0x31#8 1#16 .ok (body t))
          ∧ (s.frames[f].trip = true → t =
              (State.clear { s with frames := t.frames } (.frameTrip f)).answer (.frame f) 0x31#8 1#16 .ok (body t))
          ∧ (s.frames[f].trip = true → ∀ z : Fin 4, ∀ e ∈ t.zones[z].entries, e.isOf (.frameTrip f) = true →
              e.condition = false))
      ∧ (∀ a : FrameArgs, a.frame.toNat = f.val → a.lateAction.toNat ≤ 6 → a.lostAction.toNat ≤ 6 → a.tripAction.toNat ≤ 6 →
          a.method.toNat ≤ 3 → 1 ≤ a.seconds.toNat → a.seconds.toNat ≤ 3600 →
          let reports := a.lateAction = 0#8 ∧ a.lostAction = 0#8 ∧ a.tripAction = 0#8
          (a.method = 3#8 ∧ ¬ reports →
              exec (.setFrame .director a) s = .next (s.answer .director 0x32#8 9#16 .conflict []))
            ∧ (a.method ≠ 3#8 ∨ reports → ∃ t, exec (.setFrame .director a) s = .next t ∧ frame t
                ∧ t.answerOf .director = some ([0x00#8, 0#8, 14#8] ++ t.frames[f].bytes f)
                ∧ (let x := t.frames[f]
                   x.period = a.period ∧ x.lateAction.code = a.lateAction ∧ x.lostAction.code = a.lostAction
                    ∧ x.tripAction.code = a.tripAction ∧ x.method.code = a.method ∧ x.seconds = a.seconds
                    ∧ x.dog = (if a.period = 0#16 then .unwatched else .alive) ∧ x.remaining = a.period
                    ∧ x.late = false ∧ x.lost = false ∧ x.trip = s.frames[f].trip
                    ∧ x.tripReason = s.frames[f].tripReason)
                ∧ (∀ g : Fin 4, g ≠ f → t.frames[g] = s.frames[g])
                ∧ (let set : State := { s with frames := t.frames }
                   let onTime := if s.frames[f].late then set.clear (.frameLate f) else set
                   t = (if s.frames[f].lost then onTime.clear (.frameLost f) else onTime).answer .director 0x32#8 9#16 .ok
                      (t.frames[f].bytes f))
                ∧ ∀ z : Fin 4, ∀ e ∈ t.zones[z].entries,
                    (s.frames[f].late = true ∧ e.isOf (.frameLate f) = true)
                      ∨ (s.frames[f].lost = true ∧ e.isOf (.frameLost f) = true) → e.condition = false))
      ∧ (∀ a : FrameArgs, 3 < a.frame.toNat ∨ 6 < a.lateAction.toNat ∨ 6 < a.lostAction.toNat ∨ 6 < a.tripAction.toNat
            ∨ 3 < a.method.toNat ∨ a.seconds = 0#16 ∨ 3600 < a.seconds.toNat →
          exec (.setFrame .director a) s = .next (s.answer .director 0x32#8 9#16 .range []))
      ∧ [Action.report, .holdZone, .holdAll, .unloadZone, .unloadAll, .dumpZone, .dumpAll].map Action.severity =
          [0, 1, 1, 2, 2, 3, 3]
      ∧ (∀ (r : Raise) (own : List (Fin 4)) (late : Bool),
          s.raise r own late =
            ([0, 1, 2, 3].filter fun z : Fin 4 => r.action ∈ [Action.holdAll, .unloadAll, .dumpAll] ∨ z ∈ own).foldl
              (fun u z => u.raiseIn z r late) s)
      ∧ ∀ (z : Fin 4) (r : Raise) (late : Bool), s.ListsLawful →
          let list := s.zones[z].entries
          let before := s.zones[z].state
          let t := s.raiseIn z r late
          let room := s.queue.records.length ≤ 120
          let more (n : Byte) : Byte := if n = 255#8 then 255#8 else n + 1#8
          let ms (seconds : Half) : Word := BitVec.ofNat 32 (seconds.toNat * 1000)
          let record (k : Half) (b : Body) : Record :=
            { seq := s.queue.nextSeq + k, stamp := s.stamp, cycle := s.gen.cycles, body := b }
          let alarm (e : Entry) (after : ZoneState) : Record :=
            record 0#16 (.alarmRaised z e.tag r.source e.action e.repeats after)
          let escalated (severity : Nat) : ZoneState :=
            if severity = 1 ∧ before ∈ [ZoneState.normal, .reloading] then .held
            else if severity = 2 ∧ before ∈ [ZoneState.normal, .held, .reloading] then .unloading
            else if severity = 3 then .dumped else before
          let newTag (tag : Half) : Prop := tag ≠ 0#16 ∧ tag ∉ s.usedTags ∧ t.tagCounter = succTag tag
            ∧ ∃ k, tag = Nat.repeat succTag k s.tagCounter
              ∧ ∀ j, j < k → Nat.repeat succTag j s.tagCounter = 0#16 ∨ Nat.repeat succTag j s.tagCounter ∈ s.usedTags
          let taken (e : Entry) (entries : List Entry) : Prop :=
            let after := escalated e.action.severity
            t.zones = s.zones.set z { s.zones[z] with state := after, entries := entries }
              ∧ (∀ c : Fin 8, t.outputs[c] =
                  if s.channels[c].zone = z ∧ before ≠ .held ∧ after = .held then
                    { s.outputs[c] with held := s.outputs[c].setpoint }
                  else if s.channels[c].zone = z ∧ before ≠ .dumped ∧ after = .dumped then
                    { s.outputs[c] with setpoint := s.channels[c].ul }
                  else s.outputs[c])
              ∧ (room → s.queue.records ++ [alarm e after]
                  ++ (if before = after then [] else [record 1#16 (.zoneChange z before after)]) <+: t.queue.records)
              ∧ (∀ q, t.holds q .alarm = true ∧ (before ≠ after → t.holds q .zoneChange = true))
              ∧ (before = after ∨ late = true → t.gen = s.gen)
              ∧ (∀ i, before ≠ after → late = false → s.gen.state = .running → s.gen.current = some i →
                  t.pauseDemand = true → t.gen.state = .paused
                    ∧ (room → record 2#16 (.program i s.gen.program[i].kind .paused .pause) ∈ t.queue.records))
              ∧ { t.gen with state := s.gen.state, lastReason := s.gen.lastReason } = s.gen
              ∧ { t with zones := s.zones, outputs := s.outputs, gen := s.gen, queue := s.queue, ports := s.ports
                         tagCounter := s.tagCounter } = s
          (∀ pre e post, list = pre ++ e :: post → e.isOf r.source = true → t.tagCounter = s.tagCounter
              ∧ (let e' := { e with
                   repeats := more e.repeats, condition := e.condition || r.active
                   timer := if e.method = .timed then ms e.seconds else e.timer }
                 taken e' (pre ++ e' :: post)))
            ∧ ((∀ e ∈ list, e.isOf r.source = false) → (list.filter fun e => e.kind == .source).length < 12 →
                ∃ tag, newTag tag ∧
                  let e : Entry :=
                    { tag := tag, kind := .source, source := r.source, action := r.action, method := r.method
                      seconds := r.seconds, timer := if r.method = .timed then ms r.seconds else 0#32
                      condition := r.active, repeats := 1#8, stamp := s.stamp, cycle := s.gen.cycles }
                  (r.method ≠ .auto ∨ r.active = true → taken e (list ++ [e]))
                    ∧ (r.method = .auto → r.active = false → r.action = .report →
                        before ∈ [ZoneState.normal, .unloading, .unloaded, .reloading] ∨ (∃ x ∈ list, 1 ≤ x.action.severity) →
                        t.zones = s.zones ∧ (∀ q, t.holds q .alarm = true)
                          ∧ (room → s.queue.records
                              ++ [alarm e before, record 1#16 (.alarmCleared z tag .source r.source .auto before)]
                              <+: t.queue.records)))
            ∧ ((∀ e ∈ list, e.isOf r.source = false) → 12 ≤ (list.filter fun e => e.kind == .source).length →
                (∀ pre e post, list = pre ++ e :: post → e.kind = .overflow → t.tagCounter = s.tagCounter
                    ∧ (let e' := { e with
                         action := if e.action.severity < r.action.severity then r.action else e.action
                         repeats := more e.repeats, source := r.source }
                       taken e' (pre ++ e' :: post)))
                  ∧ ((∀ e ∈ list, e.kind = .source) →
                      ∃ tag, newTag tag ∧
                        let e : Entry :=
                          { tag := tag, kind := .overflow, source := r.source, action := r.action, method := .manual
                            seconds := 60#16, timer := 0#32, condition := false, repeats := 1#8, stamp := s.stamp
                            cycle := s.gen.cycles }
                        taken e (list ++ [e])))

/-! ### The strain unit (chapter 6) -/

/-- R94, R100, R101, R102, R104, R105, R107, R166: a complete frame on a link acts on the gauge it names by its status: an OK frame
converts its raw value, clears the fault, restarts the stale timer and is taken by the extremes; an active fault that clears hands
over the clear of GAUGE_FAULT, so that no active entry of it is left in any list (WindowCheckCountsSamples gives what the frame hands
over, in order). OVER and OPEN make or keep the fault and leave the last sample, the extremes and the timer; a fault made from clear
is an ALARM at every port and hands over the raise of GAUGE_FAULT with the gauge's fault action, method and seconds, into its zone or
by an _ALL action into every zone (TripAndSetFrame says what a raise does), a fault kept hands over nothing; a frame with a wrong
check byte, no status, a channel above 31 or a disabled gauge is discarded. Every other gauge stays as it is, and the receiver waits
(its count and bits then: notes/assumptions/20.md). -/
def Obligations.GaugeFramesActByStatus : Prop :=
  ∀ (link : Fin 2) (bits : BitVec 40) (s : State),
    let channel := bits.toNat / 2 ^ 34
    let status := bits.toNat / 2 ^ 32 % 4
    let raw : Raw24 := bits.extractLsb' 8 24
    let sum := bits.toNat / 2 ^ 32 + bits.toNat / 2 ^ 24 % 256 + bits.toNat / 2 ^ 16 % 256 + bits.toNat / 2 ^ 8 % 256
      + bits.toNat % 256
    ∃ t, exec (.gaugeFrame link bits) s = .next t
      ∧ t.links = s.links.set link { state := .waiting, count := 40, bits := bits }
      ∧ ((sum % 256 ≠ 255 ∨ status = 3 ∨ 31 < channel) → { t with links := s.links } = s)
      ∧ ∀ g : Fin 64, g.val = 32 * link.val + channel → channel ≤ 31 → sum % 256 = 255 →
          let x := s.gauges[g].config
          let r := s.gauges[g].run
          let u := t.gauges[g].run
          let quotient := roundDiv ((raw.toInt - x.zero.toInt) * x.scale.toInt) 65536
          let strain := max (-32767) (min quotient 32767)
          (x.enabled = false → { t with links := s.links } = s)
            ∧ (∀ g' : Fin 64, g' ≠ g → t.gauges[g'] = s.gauges[g']) ∧ t.gauges[g].config = x
            ∧ (x.enabled = true → status = 0 →
                u.lastRaw = some raw ∧ u.current.map BitVec.toInt = some strain
                  ∧ u.currentSat = decide (quotient < -32767 ∨ 32767 < quotient)
                  ∧ u.fault = none
                  ∧ (r.stale = .off → u.stale = .off) ∧ (r.stale ≠ .off → u.stale = .running ∧ u.staleLeft = x.staleTime)
                  ∧ u.running.map (fun e => (e.peak.toInt, e.valley.toInt)) =
                      some (match r.running with
                        | none => (strain, strain)
                        | some e => (max e.peak.toInt strain, min e.valley.toInt strain))
                  ∧ u.runningSat = (r.runningSat || u.currentSat) ∧ u.runningFault = r.runningFault
                  ∧ u.last = r.last ∧ u.baseline = r.baseline ∧ u.capture = r.capture ∧ u.driftCount = r.driftCount
                  ∧ (r.fault ≠ none → ∀ z : Fin 4, ∀ e ∈ t.zones[z].entries, e.isOf (.gaugeFault g) = true →
                      e.condition = false))
            ∧ (x.enabled = true → status = 1 ∨ status = 2 →
                t.gauges[g].run =
                    { r with
                      fault := some (if status = 1 then .over else .open), runningFault := r.runningFault || r.fault.isNone }
                  ∧ (r.fault = none → (∀ q, t.holds q .alarm = true)
                      ∧ t = State.raise { s with links := t.links, gauges := t.gauges }
                          { source := .gaugeFault g, action := x.faultAction, method := x.method, seconds := x.seconds
                            active := true } [x.zone])
                  ∧ (r.fault ≠ none → { t with links := s.links, gauges := s.gauges } = s))

/-- R101, R103, R107: the window check of an OK frame: n samples in a row outside make the WINDOW condition active, n in a row inside clear
it, and each sample moves the two counts as the table states. A condition that becomes active is an ALARM at every port and hands over
the raise of GAUGE_WINDOW with the gauge's window action, method and seconds, into its zone or by an _ALL action into every zone
(TripAndSetFrame says what a raise does); one that clears hands over its clear (TimedAndBoundaryRemovals). The frame hands over the
clear of an active fault before it, and nothing else: apart from the gauges and the receiver the part is as these leave it. -/
def Obligations.WindowCheckCountsSamples : Prop :=
  ∀ (link : Fin 2) (bits : BitVec 40) (g : Fin 64) (s : State),
    frameSum bits = 0xFF#8 → bits.extractLsb' 32 2 = 0#2 → linkGauge link (bits.extractLsb' 34 6) = some g →
    s.gauges[g].config.enabled = true →
    let x := s.gauges[g].config
    let r := s.gauges[g].run
    ∃ t, exec (.gaugeFrame link bits) s = .next t
      ∧ (let linked : State := { s with links := t.links }
         let faultless := if r.fault.isSome then linked.clear (.gaugeFault g) else linked
         let checked :=
           if r.window = t.gauges[g].run.window then faultless
           else if r.window then faultless.clear (.gaugeWindow g)
           else faultless.raise
             { source := .gaugeWindow g, action := x.windowAction, method := x.method, seconds := x.seconds, active := true }
             [x.zone]
         t = { checked with gauges := t.gauges })
      ∧ ∃ strain, t.gauges[g].run.current = some strain
      ∧ let u := t.gauges[g].run
        let inside : Prop := x.lo.toInt ≤ strain.toInt ∧ strain.toInt ≤ x.hi.toInt
        let counts (o i : Nat) (w : Bool) : Prop := u.outCount = o ∧ u.inCount = i ∧ u.window = w
        (r.window = false → inside → counts 0 r.inCount false)
          ∧ (r.window = false → ¬ inside → r.outCount + 1 < x.n → counts (r.outCount + 1) r.inCount false)
          ∧ (r.window = false → ¬ inside → x.n ≤ r.outCount + 1 → counts 0 0 true ∧ ∀ q, t.holds q .alarm = true)
          ∧ (r.window = true → ¬ inside → counts r.outCount 0 true)
          ∧ (r.window = true → inside → r.inCount + 1 < x.n → counts r.outCount (r.inCount + 1) true)
          ∧ (r.window = true → inside → x.n ≤ r.inCount + 1 → counts r.outCount 0 false
              ∧ ∀ z : Fin 4, ∀ e ∈ t.zones[z].entries, e.isOf (.gaugeWindow g) = true → e.condition = false)

/-- R94, R166: a start condition and forty clock edges take exactly the frame whose bits they carried, most significant first, from any
state of the receiver; a start condition discards what was received, and an edge without one is ignored. -/
def Obligations.FortyBitsMakeAFrame : Prop :=
  ∀ (link : Fin 2) (bits : BitVec 40) (s : State),
    execAll (.gaugeLinkStartCondition link
        :: (List.range 40).map fun k => .gaugeLinkClockEdge link (bits.getLsbD (39 - k))) s = exec (.gaugeFrame link bits) s
      ∧ exec (.gaugeLinkStartCondition link) s =
          .next { s with links := s.links.set link { state := .receiving, count := 0, bits := 0#40 } }
      ∧ (s.links[link].state = .waiting → ∀ b, exec (.gaugeLinkClockEdge link b) s = .next s)
      ∧ (s.links[link].state = .receiving → s.links[link].count < 39 → ∀ b : Bool,
          let more : Link :=
            { state := .receiving, count := s.links[link].count + 1
              bits := (s.links[link].bits <<< 1) ||| (if b then 1#40 else 0#40) }
          exec (.gaugeLinkClockEdge link b) s = .next { s with links := s.links.set link more })

/-- R105, R107: at a count the RUNNING stale timer of an enabled gauge with two or more remaining is decreased by 1, and one that is OFF or
EXPIRED is not changed; at the count at which it reaches 0 it is EXPIRED, and the FAULT condition is active: with cause STALE, running
FAULT and an ALARM at every port where it was clear, with its cause kept where it was active. Where it was clear the expiry hands over
the raise of GAUGE_FAULT with the gauge's fault action, method and seconds, into its zone or by an _ALL action into every zone
(TripAndSetFrame says what a raise does), and where it was active nothing, in whatever order the count's events come: `earlier` and
`later` are the other events of the count. (That a timer
restarted between two counts to a stale time of 1 expires at the next count, as R105 has it, where R98 and R106 say that the expiry does
not occur, is the model's choice, notes/assumptions/29.md.)
(That STALE_EXPIRY is the whole count, and that its order is an operand, is the model's choice, notes/assumptions/7.md and 3.md.) -/
def Obligations.StaleTimerExpires : Prop :=
  ∀ (g : Fin 64) (a : CountArgs) (s : State),
    let x := s.gauges[g].config
    let r := s.gauges[g].run
    ∃ t, exec (.referenceCount a) s = .next t ∧ t.stamp = s.stamp + 1#32
      ∧ (x.enabled = false ∨ r.stale = .off ∨ r.stale = .expired → t.gauges[g] = s.gauges[g])
      ∧ (x.enabled = true → r.stale = .running → 2 ≤ r.staleLeft.toNat →
          t.gauges[g] = { config := x, run := { r with staleLeft := r.staleLeft - 1#16 } }
            ∧ exec (.staleExpiry g a) s = .next s)
      ∧ (x.enabled = true → r.stale = .running → r.staleLeft.toNat ≤ 1 → exec (.staleExpiry g a) s = .next t
          ∧ t.gauges[g] =
              { config := x
                run := { r with
                  stale := .expired, staleLeft := 0#16, fault := some (r.fault.getD .stale)
                  runningFault := r.runningFault || r.fault.isNone } }
          ∧ (r.fault = none → ∀ q, t.holds q .alarm = true)
          ∧ ∃ earlier later : List CountAct, s.countSchedule a = earlier ++ .stale g :: later ∧
              let u := earlier.foldl (fun v act => v.countAct a act) { s with stamp := s.stamp + 1#32 }
              let v : State := { u with gauges := u.gauges.set g t.gauges[g] }
              u.gauges[g] = s.gauges[g] ∧ t = later.foldl (fun v act => v.countAct a act)
                (if r.fault.isSome then v
                  else v.raise
                    { source := .gaugeFault g, action := x.faultAction, method := x.method, seconds := x.seconds
                      active := true } [x.zone]))

/-- R107 to R110, R112: CAPTURE_BASELINE makes a capture pending on every enabled gauge and answers how many are pending; at a boundary
each enabled gauge closes its cycle, a disabled one is passed over, and a pending capture of a gauge with samples takes their range as
its baseline. With a valid baseline, a drift limit above 0 and samples the drift check sets the drift count to 0 at the limit or below,
counts above it, and at M sets it to 0 and raises GAUGE_DRIFT with the condition clear, an ALARM at every port; else the count is not
changed. The generator's pause comes after the record queue's part. (That BOUNDARY and BASELINE_CAPTURE take that whole update is the
model's choice, notes/assumptions/6.md.) -/
def Obligations.BaselinesAreCapturedAtABoundary : Prop :=
  ∀ s : State,
    (∃ t, exec (.captureBaseline .director) s = .next t
        ∧ (∀ g : Fin 64, t.gauges[g].config = s.gauges[g].config
            ∧ t.gauges[g].run = { s.gauges[g].run with capture := s.gauges[g].run.capture || s.gauges[g].config.enabled })
        ∧ t.answerOf .director = some [0x00#8, 0#8, 1#8,
            BitVec.ofNat 8 ((List.finRange 64).filter fun g => t.gauges[g].run.capture).length]
        ∧ (∀ q, t.eventStatus q = s.eventStatus q)
        ∧ { t with gauges := s.gauges, ports := s.ports } = s)
      ∧ (s.gen.carries = true → ∃ u : State, u.gauges = s.gauges
          ∧ exec .boundary s = .next ((List.finRange 64).foldl State.closeCycle u).autoSnapshot.syncPause)
      ∧ (∀ g : Fin 64, s.gauges[g].config.enabled = false → ∃ t, exec .update s = .next t ∧ t.gauges[g] = s.gauges[g])
      ∧ ∀ g : Fin 64, s.gen.carries = true → s.gauges[g].config.enabled = true →
          let r := s.gauges[g].run
          ∃ t, exec .boundary s = .next t
            ∧ t.gauges[g].run.last = r.running ∧ t.gauges[g].run.lastSat = r.runningSat
            ∧ t.gauges[g].run.lastFault = r.runningFault ∧ t.gauges[g].run.running = none
            ∧ t.gauges[g].run.runningSat = false ∧ t.gauges[g].run.runningFault = r.fault.isSome
            ∧ (∀ e, r.running = some e → r.capture = true → exec (.baselineCapture g) s = .next t
                ∧ t.gauges[g].run.baseline = some (e.peak - e.valley) ∧ t.gauges[g].run.capture = false
                ∧ t.gauges[g].run.driftCount = 0)
            ∧ (r.running = none ∨ r.capture = false →
                t.gauges[g].run.baseline = r.baseline ∧ t.gauges[g].run.capture = r.capture)
            ∧ (r.running = none ∨ (r.capture = false ∧ (r.baseline = none ∨ s.gauges[g].config.driftLimit = 0#16)) →
                t.gauges[g].run.driftCount = r.driftCount)
            ∧ ∀ e b, r.running = some e → r.baseline = some b → r.capture = false →
                s.gauges[g].config.driftLimit ≠ 0#16 →
                let drift := (((e.peak - e.valley).toNat : Int) - b.toNat).natAbs
                let limit := s.gauges[g].config.driftLimit.toNat
                (drift ≤ limit → t.gauges[g].run.driftCount = 0)
                  ∧ (limit < drift → r.driftCount + 1 < s.gauges[g].config.m →
                      t.gauges[g].run.driftCount = r.driftCount + 1)
                  ∧ (limit < drift → s.gauges[g].config.m ≤ r.driftCount + 1 →
                      t.gauges[g].run.driftCount = 0 ∧ (∀ q, t.holds q .alarm = true)
                        ∧ ∀ u : State, u.gauges = s.gauges →
                            let v := u.closeCycle g
                            v = { u.raise
                                    { source := .gaugeDrift g, action := s.gauges[g].config.driftAction
                                      method := s.gauges[g].config.method, seconds := s.gauges[g].config.seconds
                                      active := false } [s.gauges[g].config.zone] true with gauges := v.gauges })

/-- R96, R97: SET_GAUGE with fields in range and in no conflict replaces the configuration and sets the running fields afresh, the
stale timer RUNNING when the gauge is enabled with a stale time, and hands over the clear of a WINDOW condition and then of a FAULT
condition that was active, so that no active entry of it is left in any list, and nothing else; the other gauges stay. With a field out
of range it is refused RANGE, and in conflict CONFLICT. (The model's choices: the order of the two clears,
notes/assumptions/17.md; the remaining time 0 of a stale timer put to OFF, 30.md.) -/
def Obligations.SetGaugeStartsAfresh : Prop :=
  (∀ (a : GaugeArgs) (s : State),
      63 < a.gauge.toNat ∨ 3 < a.zone.toNat ∨ 1 < a.enabled.toNat ∨ a.lo.toInt < -32767 ∨ a.hi.toInt < -32767 ∨ 15 < a.n.toNat
        ∨ 15 < a.m.toNat ∨ 1000 < a.staleTime.toNat ∨ a.driftLimit.toInt < 0 ∨ 6 < a.windowAction.toNat
        ∨ 6 < a.faultAction.toNat ∨ 6 < a.driftAction.toNat ∨ 3 < a.method.toNat ∨ a.seconds = 0#16
        ∨ 3600 < a.seconds.toNat →
      exec (.setGauge .director a) s = .next (s.answer .director 0x40#8 24#16 .range []))
  ∧ ∀ (a : GaugeArgs) (g : Fin 64) (z : Fin 4) (s : State), a.gauge.toNat = g.val → a.zone.toNat = z.val →
    a.enabled.toNat ≤ 1 → -32767 ≤ a.lo.toInt → -32767 ≤ a.hi.toInt → a.n.toNat ≤ 15 → a.m.toNat ≤ 15 →
    a.staleTime.toNat ≤ 1000 → 0 ≤ a.driftLimit.toInt → a.windowAction.toNat ≤ 6 → a.faultAction.toNat ≤ 6 →
    a.driftAction.toNat ≤ 6 → a.method.toNat ≤ 3 → 1 ≤ a.seconds.toNat → a.seconds.toNat ≤ 3600 →
    let agrees := a.lo.toInt ≤ a.hi.toInt
      ∧ (a.method = 3#8 → a.windowAction = 0#8 ∧ a.faultAction = 0#8 ∧ a.driftAction = 0#8)
      ∧ (a.method = 1#8 → a.driftAction = 0#8)
    (¬ agrees → exec (.setGauge .director a) s = .next (s.answer .director 0x40#8 24#16 .conflict []))
      ∧ (agrees → ∃ t, exec (.setGauge .director a) s = .next t
          ∧ t.answerOf .director = some ([0x00#8, 0#8, 24#8] ++ t.gauges[g].config.bytes g)
          ∧ (let x := t.gauges[g].config
             x.enabled = decide (a.enabled = 1#8) ∧ x.zero = a.zero ∧ x.scale = a.scale ∧ x.lo = a.lo ∧ x.hi = a.hi
              ∧ x.n = max 1 a.n.toNat ∧ x.staleTime = a.staleTime ∧ x.driftLimit = a.driftLimit
              ∧ x.m = max 1 a.m.toNat ∧ x.zone = z ∧ x.windowAction.code = a.windowAction
              ∧ x.faultAction.code = a.faultAction ∧ x.driftAction.code = a.driftAction ∧ x.method.code = a.method
              ∧ x.seconds = a.seconds)
          ∧ (let runs := a.enabled = 1#8 ∧ a.staleTime ≠ 0#16
             t.gauges[g].run =
              { lastRaw := none, current := none, currentSat := false, fault := none, window := false, outCount := 0
                inCount := 0, stale := if runs then .running else .off, staleLeft := if runs then a.staleTime else 0#16
                running := none, runningSat := false, runningFault := false, last := none, lastSat := false
                lastFault := false, baseline := none, capture := false, driftCount := 0 })
          ∧ (∀ g' : Fin 64, g' ≠ g → t.gauges[g'] = s.gauges[g'])
          ∧ (∀ z : Fin 4, ∀ e ∈ t.zones[z].entries,
              (s.gauges[g].run.window = true ∧ e.isOf (.gaugeWindow g) = true)
                ∨ (s.gauges[g].run.fault ≠ none ∧ e.isOf (.gaugeFault g) = true) → e.condition = false)
          ∧ (let set : State := { s with gauges := t.gauges }
             let inWindow := if s.gauges[g].run.window then set.clear (.gaugeWindow g) else set
             t = (if s.gauges[g].run.fault.isSome then inWindow.clear (.gaugeFault g) else inWindow).answer .director 0x40#8 24#16
                .ok (t.gauges[g].config.bytes g)))

/-! ### The crack watch (chapter 7) -/

/-- R1, R116, R117, R118, R120, R123, R143: one count of the reference timer raises the time stamp by 1 and takes one sample of each
crack input and of STOPn, in whatever order the count's events come; a sample moves its qualifier, a qualification moves condition and
latch by the sense, and STOPn qualified LOW dumps every zone and sets the STOP hold. A detection of an input whose alarm is enabled
raises CRACK: an ALARM at every port, and where it is all that comes about at the count, the part is otherwise as that one raise of the
input's action, method and seconds leaves it (TripAndSetFrame says what a raise does), the condition active for a LEVEL sense; with the
alarm not enabled nothing is raised. A LEVEL input back at the other level leaves no active entry. STOPn is sampled after CK0 to CK15:
qualified LOW, the STOP hold is set and STOP is raised (source STOP, DUMP_ALL, MANUAL, 60 s, condition active) into all four zones;
qualified HIGH from LOW, the clear of STOP reaches the lists, then the STOP hold is cleared, and then each DUMPED zone without a
protective entry, in ascending order, enters UNLOADED with its ZONE_CHANGE record and event. `earlier` and `later` are the other events
of the count. (That the order is an operand is the model's choice, notes/assumptions/3.md.) -/
def Obligations.CountsSampleTheInputs : Prop :=
  ∀ (a : CountArgs) (s : State), s.StopObeyed → ∃ t, exec (.referenceCount a) s = .next t
    ∧ t.stamp = s.stamp + 1#32
    ∧ (∀ (q q' : Qualifier) (n : Nat) (level : Level),
        (q = s.stopLine.qualifier ∧ q' = t.stopLine.qualifier ∧ n = 2 ∧ level = a.stopn)
          ∨ (∃ i : Fin 16, q = s.cracks[i].qualifier ∧ q' = t.cracks[i].qualifier ∧ n = s.cracks[i].config.n
              ∧ level = if a.ck.getLsbD i.val then .high else .low) →
        q'.last = some level
          ∧ q'.run = (if q.last = some level then min (q.run + 1) (max q.run 15) else 1)
          ∧ q'.level = if n ≤ q'.run then some level else q.level)
    ∧ (∀ i : Fin 16,
        let c := s.cracks[i]
        let d := t.cracks[i]
        let level : Level := if a.ck.getLsbD i.val then .high else .low
        d.config = c.config
          ∧ (d.qualifier.level = c.qualifier.level → d.condition = c.condition ∧ d.detected = c.detected)
          ∧ (d.qualifier.level ≠ c.qualifier.level →
              (∀ sensed, (c.config.sense = .levelHigh ∧ sensed = .high) ∨ (c.config.sense = .levelLow ∧ sensed = .low) →
                  (level = sensed → d.condition = true ∧ d.detected = true)
                    ∧ (level ≠ sensed → d.detected = c.detected ∧ (c.qualifier.level = some sensed → d.condition = false)))
                ∧ (c.config.sense ∈ [Sense.rising, .falling, .anyChange] → d.condition = c.condition
                    ∧ d.detected = (c.detected || decide (c.qualifier.level ≠ none
                        ∧ (c.config.sense = .rising → level = .high) ∧ (c.config.sense = .falling → level = .low))))))
    ∧ (∀ i : Fin 16,
        let c := s.cracks[i]
        let level : Level := if a.ck.getLsbD i.val then .high else .low
        let lasting : Bool := c.config.sense == .levelHigh || c.config.sense == .levelLow
        let detects : Prop := t.cracks[i].qualifier.level ≠ c.qualifier.level
          ∧ (c.config.sense = .levelHigh ∧ level = .high ∨ c.config.sense = .levelLow ∧ level = .low
            ∨ (c.qualifier.level ≠ none
              ∧ (c.config.sense = .anyChange ∨ c.config.sense = .rising ∧ level = .high
                ∨ c.config.sense = .falling ∧ level = .low)))
        let alone : Prop := (∀ j : Fin 16, j ≠ i → t.cracks[j].qualifier.level = s.cracks[j].qualifier.level)
          ∧ t.stopLine.qualifier.level = s.stopLine.qualifier.level
          ∧ (∀ f : Fin 4, s.frames[f].dog = .unwatched ∨ s.frames[f].dog = .lost)
          ∧ (∀ g : Fin 64, s.gauges[g].config.enabled = true → s.gauges[g].run.stale ≠ .running)
          ∧ (∀ z : Fin 4, ∀ e ∈ s.zones[z].entries, e.method = .timed → e.condition = true)
          ∧ ∀ z tag, CountAct.clearTimer z tag ∉ a.order
        let sampled : State := { s with stamp := s.stamp + 1#32, cracks := t.cracks, stopLine := t.stopLine }
        (detects → c.config.enable = true → ∀ q, t.holds q .alarm = true)
          ∧ (detects → alone → c.config.enable = true →
              t = sampled.raise
                { source := .crack i, action := c.config.action, method := c.config.method, seconds := c.config.seconds
                  active := lasting } [c.config.zone])
          ∧ (detects → alone → c.config.enable = false → t = sampled)
          ∧ (lasting = true → c.condition = true → t.cracks[i].condition = false → ∀ z : Fin 4, ∀ e ∈ t.zones[z].entries,
              e.isOf (.crack i) = true → e.condition = false))
    ∧ (t.stopLine.qualifier.level = some .low → t.stopLine.condition = true ∧ t.stopHold = true
        ∧ ∀ z : Fin 4, t.zones[z].state = .dumped)
    ∧ (t.stopLine.qualifier.level ≠ some .low → t.stopLine.condition = false ∧ t.stopHold = false)
    ∧ ∃ earlier later : List CountAct, s.countSchedule a = earlier ++ .sample :: later ∧
        let u := (List.finRange 16).foldl (fun v i => v.sampleCrack i (if a.ck.getLsbD i.val then .high else .low))
          (earlier.foldl (fun v act => v.countAct a act) { s with stamp := s.stamp + 1#32 })
        let sampled : State := { u with stopLine := t.stopLine }
        let cleared := sampled.clear .stop
        let unloaded (v : State) (z : Fin 4) : State :=
          if v.zones[z].state = .dumped ∧ v.zones[z].entries.all (fun e => e.action.severity == 0) = true then
            ((State.record { v with zones := v.zones.set z { v.zones[z] with state := .unloaded } }
              (.zoneChange z .dumped .unloaded)).addEvent .zoneChange).syncPause
          else v
        u.stopLine = s.stopLine ∧ u.stopHold = s.stopHold ∧ t = later.foldl (fun v act => v.countAct a act)
          (if s.stopLine.qualifier.level = t.stopLine.qualifier.level then sampled
            else if t.stopLine.qualifier.level = some .low then
              State.raise { sampled with stopHold := true }
                { source := .stop, action := .dumpAll, method := .manual, seconds := 60#16, active := true } [0, 1, 2, 3]
            else if s.stopLine.qualifier.level = some .low then
              [0, 1, 2, 3].foldl unloaded { cleared with stopHold := false }
            else sampled)

/-- R119, R121, R122: SET_CRACK with fields in range and in no conflict replaces the configuration, and restarts the qualifier when the
sense or n stored changes, handing over the clear of a condition that was active, so that no active entry of it is left in any list, and
nothing else; the latch and the other inputs stay. With a field out of range SET_CRACK is refused RANGE, and in conflict CONFLICT.
CLEAR_CRACK_LATCH clears the latches it names and answers the sixteen. -/
def Obligations.CrackRequests : Prop :=
  ∀ s : State,
    (∀ inputs : Half, ∃ t, exec (.clearCrackLatch .director inputs) s = .next t
        ∧ (∀ i : Fin 16, t.cracks[i] =
            { s.cracks[i] with detected := s.cracks[i].detected && !inputs.getLsbD i.val })
        ∧ (∃ x : Half, t.answerOf .director = some ([0x00#8, 0#8, 2#8] ++ bytes2 x)
            ∧ ∀ i : Fin 16, x.getLsbD i.val = t.cracks[i].detected)
        ∧ (∀ q, t.eventStatus q = s.eventStatus q)
        ∧ { t with cracks := s.cracks, ports := s.ports } = s)
      ∧ (∀ a : CrackArgs, 15 < a.input.toNat ∨ 3 < a.zone.toNat ∨ 1 < a.enable.toNat ∨ 4 < a.sense.toNat ∨ 15 < a.n.toNat
            ∨ 6 < a.action.toNat ∨ 3 < a.method.toNat ∨ a.seconds = 0#16 ∨ 3600 < a.seconds.toNat →
          exec (.setCrack .director a) s = .next (s.answer .director 0x48#8 9#16 .range []))
      ∧ ∀ (a : CrackArgs) (i : Fin 16) (z : Fin 4), a.input.toNat = i.val → a.zone.toNat = z.val → a.enable.toNat ≤ 1 →
          a.sense.toNat ≤ 4 → a.n.toNat ≤ 15 → a.action.toNat ≤ 6 → a.method.toNat ≤ 3 → 1 ≤ a.seconds.toNat →
          a.seconds.toNat ≤ 3600 →
          let conflicts := (2 ≤ a.sense.toNat ∧ (a.method = 1#8 ∨ a.method = 3#8)) ∨ (a.method = 3#8 ∧ a.action ≠ 0#8)
          (conflicts → exec (.setCrack .director a) s = .next (s.answer .director 0x48#8 9#16 .conflict []))
            ∧ (¬ conflicts → ∃ t, exec (.setCrack .director a) s = .next t
                ∧ t.answerOf .director = some ([0x00#8, 0#8, 13#8] ++ t.cracks[i].bytes i)
                ∧ (let c := s.cracks[i]
                   let d := t.cracks[i]
                   d.config.enable = decide (a.enable = 1#8) ∧ d.config.sense.code = a.sense
                    ∧ d.config.n = max 1 a.n.toNat ∧ d.config.zone = z ∧ d.config.action.code = a.action
                    ∧ d.config.method.code = a.method ∧ d.config.seconds = a.seconds ∧ d.detected = c.detected
                    ∧ (d.config.sense = c.config.sense ∧ d.config.n = c.config.n →
                        d.qualifier = c.qualifier ∧ d.condition = c.condition)
                    ∧ (¬ (d.config.sense = c.config.sense ∧ d.config.n = c.config.n) →
                        d.qualifier = { level := none, last := none, run := 0 } ∧ d.condition = false
                          ∧ (c.condition = true → ∀ z : Fin 4, ∀ e ∈ t.zones[z].entries, e.isOf (.crack i) = true →
                              e.condition = false))
                    ∧ (let set : State := { s with cracks := t.cracks }
                       let restarts := ¬ (d.config.sense = c.config.sense ∧ d.config.n = c.config.n) ∧ c.condition = true
                       t = (if restarts then set.clear (.crack i) else set).answer .director 0x48#8 9#16 .ok (d.bytes i)))
                ∧ ∀ j : Fin 16, j ≠ i → t.cracks[j] = s.cracks[j])

/-! ### Zones and alarm lists (chapter 8) -/

/-- R21, R127, R144, R146: SET_ZONE replaces isolate flag and rates and leaves the zone's state and list; RELOAD_ZONE takes an UNLOADED
zone without a protective entry to RELOADING, with its ZONE_CHANGE record and ZONE_CHANGE at every port and the pause demand present, and
is refused STATE otherwise; where the demand appears a RUNNING generator is PAUSED, and where it goes a PAUSED one without the requested
pause resumes, each with its PROGRAM record, naming the current block, after the ZONE_CHANGE record, and GEN_CHANGE at every port
(`syncPause`), and nothing else moves. A zone above 3, an isolate flag that is neither yes nor no, and a rate outside 1..32767 are
refused RANGE. -/
def Obligations.SetZoneAndReloadZone : Prop :=
  (∀ (b isolate : Byte) (unloadRate reloadRate : Half) (s : State),
      (3 < b.toNat ∨ 1 < isolate.toNat ∨ unloadRate = 0#16 ∨ 32767 < unloadRate.toNat ∨ reloadRate = 0#16
          ∨ 32767 < reloadRate.toNat →
          exec (.setZone .director b isolate unloadRate reloadRate) s = .next (s.answer .director 0x50#8 6#16 .range []))
        ∧ (3 < b.toNat → exec (.reloadZone .director b) s = .next (s.answer .director 0x52#8 1#16 .range [])))
  ∧ (∀ s : State,
      let moved (i : Fin 64) (x : GenState) (reason : Reason) : State :=
        (State.record { s with gen := { s.gen with state := x, lastReason := reason } }
          (.program i s.gen.program[i].kind x reason)).addEvent .genChange
      let pauseInput := s.pauseDemand = true ∨ s.gen.requestedPause = true
      (∀ i, s.gen.state = .running → pauseInput → s.gen.current = some i → s.syncPause = moved i .paused .pause)
        ∧ (∀ i, s.gen.state = .paused → ¬ pauseInput → s.gen.current = some i → s.syncPause = moved i .running .resume)
        ∧ (¬ (s.gen.state = .running ∧ pauseInput) → ¬ (s.gen.state = .paused ∧ ¬ pauseInput) → s.syncPause = s))
  ∧ ∀ (z : Fin 4) (b : Byte) (s : State), b.toNat = z.val →
    let pauses (t : State) : Prop :=
      (t.pauseDemand = true → s.pauseDemand = false → s.gen.state = .running → t.gen.state = .paused)
        ∧ (t.pauseDemand = false → s.pauseDemand = true → s.gen.state = .paused → s.gen.requestedPause = false →
            t.gen.state = .running)
        ∧ (t.pauseDemand = s.pauseDemand → s.GeneratorLawful → t.gen = s.gen)
        ∧ { t.gen with state := s.gen.state, lastReason := s.gen.lastReason } = s.gen
    (∀ (isolate : Byte) (unloadRate reloadRate : Half),
        1 ≤ unloadRate.toNat → unloadRate.toNat ≤ 32767 → 1 ≤ reloadRate.toNat → reloadRate.toNat ≤ 32767 →
        (isolate.toNat ≤ 1 → ∃ t, exec (.setZone .director b isolate unloadRate reloadRate) s = .next t ∧ pauses t
            ∧ t.zones = s.zones.set z
                { s.zones[z] with isolate := decide (isolate = 1#8), unloadRate := unloadRate, reloadRate := reloadRate }
            ∧ t.answerOf .director = some ([0x00#8, 0#8, 7#8, b, isolate] ++ bytes2 unloadRate ++ bytes2 reloadRate
                ++ [s.zones[z].state.code])
            ∧ (let set : State := { s with zones := t.zones }
               t = (if set.pauseDemand = s.pauseDemand then set else set.syncPause).answer .director 0x50#8 6#16 .ok
                  ([b, isolate] ++ bytes2 unloadRate ++ bytes2 reloadRate ++ [s.zones[z].state.code]))
            ∧ { t with zones := s.zones, gen := s.gen, queue := s.queue, ports := s.ports } = s)
          ∧ (2 ≤ isolate.toNat → exec (.setZone .director b isolate unloadRate reloadRate) s =
              .next (s.answer .director 0x50#8 6#16 .range [])))
      ∧ ((s.zones[z].state ≠ .unloaded ∨ ∃ e ∈ s.zones[z].entries, 1 ≤ e.action.severity) →
          exec (.reloadZone .director b) s = .next (s.answer .director 0x52#8 1#16 .state []))
      ∧ (s.zones[z].state = .unloaded → (∀ e ∈ s.zones[z].entries, e.action.severity = 0) →
          ∃ t, exec (.reloadZone .director b) s = .next t ∧ pauses t
            ∧ t.zones = s.zones.set z { s.zones[z] with state := .reloading }
            ∧ t.answerOf .director = some [0x00#8, 0#8, 1#8, 0x04#8]
            ∧ t.pauseDemand = true ∧ (∀ q, t.holds q .zoneChange = true)
            ∧ t = ((State.record { s with zones := t.zones } (.zoneChange z .unloaded .reloading)).addEvent
                .zoneChange).syncPause.answer .director 0x52#8 1#16 .ok [0x04#8]
            ∧ { t with zones := s.zones, gen := s.gen, queue := s.queue, ports := s.ports } = s)

/-- R21, R137, R140, R142, R150: RELEASE removes the entry its tag names in its zone, if its condition is clear, with an ALARM_CLEARED
record of method MANUAL; when no protective entry is left a HELD zone enters RELOADING and a DUMPED one UNLOADED unless the STOP hold
stands, and otherwise the state stays. Apart from its answer the part is as the removal leaves it (TimedAndBoundaryRemovals says what a
removal does: its ZONE_CHANGE record and event, and the generator's pause or resume, in order). A zone above 3 is refused RANGE, an
active condition STATE, a tag not in that list NOTFOUND. -/
def Obligations.ReleaseRemovesTheEntry : Prop :=
  (∀ (b : Byte) (tag : Half) (s : State), 3 < b.toNat →
      exec (.release .director b tag) s = .next (s.answer .director 0x51#8 3#16 .range []))
  ∧ ∀ (z : Fin 4) (b : Byte) (tag : Half) (s : State), b.toNat = z.val →
    ((∀ e ∈ s.zones[z].entries, e.tag ≠ tag) →
        exec (.release .director b tag) s = .next (s.answer .director 0x51#8 3#16 .notfound []))
      ∧ ∀ (before after : List Entry) (e : Entry), s.zones[z].entries = before ++ e :: after → e.tag = tag →
          (∀ x ∈ before, x.tag ≠ tag) →
          (e.condition = true →
              exec (.release .director b tag) s = .next (s.answer .director 0x51#8 3#16 .state []))
            ∧ (e.condition = false →
                let bare := ∀ x ∈ before ++ after, x.action.severity = 0
                ∃ (t : State) (st : ZoneState), exec (.release .director b tag) s = .next t
                  ∧ t.zones = s.zones.set z { s.zones[z] with state := st, entries := before ++ after }
                  ∧ (bare → s.zones[z].state = .held → st = .reloading)
                  ∧ (bare → s.zones[z].state = .dumped → s.stopHold = false → st = .unloaded)
                  ∧ (¬ bare ∨ (s.zones[z].state = .dumped ∧ s.stopHold = true)
                      ∨ s.zones[z].state ∈ [ZoneState.normal, .unloading, .unloaded, .reloading] → st = s.zones[z].state)
                  ∧ t.answerOf .director = some [0x00#8, 0#8, 2#8, st.code, BitVec.ofNat 8 (before ++ after).length]
                  ∧ t = (s.removeEntry z e .manual false).answer .director 0x51#8 3#16 .ok
                      [st.code, BitVec.ofNat 8 (before ++ after).length]
                  ∧ t.outputs = s.outputs
                  ∧ (s.queue.records.length ≤ 125 →
                      s.queue.records ++ [{ seq := s.queue.nextSeq, stamp := s.stamp, cycle := s.gen.cycles
                                            body := .alarmCleared z tag e.kind e.source .manual st }]
                        <+: t.queue.records)
                  ∧ { t.gen with state := s.gen.state, lastReason := s.gen.lastReason } = s.gen
                  ∧ { t with zones := s.zones, outputs := s.outputs, gen := s.gen, queue := s.queue
                             ports := s.ports } = s)

/-- R137, R138, R139, R142: a source's clear reaches the four lists in ascending order. Where a list holds no entry of the source
nothing changes; else the entry's condition clears, and where it was active an AUTO entry is removed with the method AUTO, a TIMED one
has its clear-timer set to its seconds x 1000, and a MANUAL or BOUNDARY one stays. A removal, whatever its method, takes the entry out
of its list and makes its ALARM_CLEARED record with the state after the return toward service, which it takes when no protective entry
is left: a HELD zone enters RELOADING and a DUMPED one UNLOADED unless the STOP hold stands, with its ZONE_CHANGE record and event,
and the generator then acts on the pause demand. At a count the running clear-timer of a TIMED entry with two or more remaining is
decreased by 1, and at the count at which it reaches 0 the entry leaves its list: in whatever order the count's events come, of a
source that a count does not itself raise; and taken first, of any source, with the method TIMED. At a boundary whose notice finds
BOUNDARY entries with a clear condition exactly those leave their lists, before the strain unit closes the cycle. (The model's
choices: that the order is an operand, notes/assumptions/3.md; that CLEAR_TIMER_EXPIRY is the whole count, 7.md; that BOUNDARY_REMOVAL
is the whole update, 6.md.) -/
def Obligations.TimedAndBoundaryRemovals : Prop :=
  ∀ s : State,
    (∀ (z : Fin 4) (e : Entry) (a : CountArgs), s.zones[z].entries.find? (fun x => x.tag == e.tag) = some e →
        e.method = .timed → e.condition = false → e.timer.toNat ≤ 1 → a.order = [.clearTimer z e.tag] →
        ∃ rest : List CountAct, exec (.clearTimerExpiry z e.tag a) s =
            .next (rest.foldl (fun u x => u.countAct a x) ((s.setStamp (s.stamp + 1#32)).removeEntry z e .timed false))
          ∧ CountAct.sample ∈ rest ∧ CountAct.clearTimer z e.tag ∉ rest)
      ∧ (s.ListsLawful → ∀ (z : Fin 4) (a : CountArgs), ∀ e ∈ s.zones[z].entries, e.kind = .source → e.method = .timed →
          e.condition = false →
          (match e.source with
            | .crack _ | .stop | .gaugeFault _ | .frameLate _ | .frameLost _ => False
            | .restart _ | .gaugeWindow _ | .gaugeDrift _ | .tracking _ | .overforce _ | .stroke _ | .frameTrip _ => True) →
          ∃ t, exec (.referenceCount a) s = .next t
            ∧ (2 ≤ e.timer.toNat → { e with timer := e.timer - 1#32 } ∈ t.zones[z].entries
                ∧ exec (.clearTimerExpiry z e.tag a) s = .next s)
            ∧ (e.timer.toNat ≤ 1 → exec (.clearTimerExpiry z e.tag a) s = .next t
                ∧ ∀ x ∈ t.zones[z].entries, x.isOf e.source = false))
      ∧ (∀ x : Source, s.clear x = (((s.clearIn 0 x).clearIn 1 x).clearIn 2 x).clearIn 3 x)
      ∧ (∀ (z : Fin 4) (x : Source), (∀ e ∈ s.zones[z].entries, e.isOf x = false) → s.clearIn z x = s)
      ∧ (s.ListsLawful → ∀ (z : Fin 4) (x : Source) (pre post : List Entry) (e : Entry),
          s.zones[z].entries = pre ++ e :: post → e.isOf x = true →
          let left (timer : Word) : State :=
            { s with
              zones := s.zones.set z
                { s.zones[z] with entries := pre ++ { e with condition := false, timer := timer } :: post } }
          (e.condition = true → e.method = .auto → s.clearIn z x = s.removeEntry z e .auto false)
            ∧ (e.condition = true → e.method = .timed →
                s.clearIn z x = left (BitVec.ofNat 32 (e.seconds.toNat * 1000)))
            ∧ (e.condition = true → e.method = .manual ∨ e.method = .boundary → s.clearIn z x = left e.timer)
            ∧ (e.condition = false → s.clearIn z x = s))
      ∧ (∀ (z : Fin 4) (e : Entry) (m : Method) (late : Bool) (pre post : List Entry),
          s.zones[z].entries = pre ++ e :: post → (∀ x ∈ pre, x.tag ≠ e.tag) →
          let before := s.zones[z].state
          let after : ZoneState :=
            if ∃ x ∈ pre ++ post, 1 ≤ x.action.severity then before
            else if before = .held then .reloading
            else if before = .dumped ∧ s.stopHold = false then .unloaded
            else before
          let out : State := { s with zones := s.zones.set z { s.zones[z] with entries := pre ++ post } }
          let told := out.record (.alarmCleared z e.tag e.kind e.source m after)
          let back : State :=
            (State.record { told with zones := s.zones.set z { s.zones[z] with state := after, entries := pre ++ post } }
              (.zoneChange z before after)).addEvent .zoneChange
          s.removeEntry z e m late = if after = before then told else if late then back else back.syncPause)
      ∧ (s.gen.carries = true → (∃ z : Fin 4, ∃ e ∈ s.zones[z].entries, e.method = .boundary ∧ e.condition = false) →
          let u := s.updateSetpoints.arrive s.updateDemand
          exec .boundaryRemoval s = .next u.boundaryRemovals.closeCycles.autoSnapshot.syncPause
            ∧ (s.ListsLawful → ∀ z : Fin 4, u.boundaryRemovals.zones[z].entries =
                s.zones[z].entries.filter fun e => !(e.method == .boundary && !e.condition)))

/-! ### The record queue (chapter 9) -/

/-- R150, R152: a record made takes the next sequence number, the time stamp and the cycle count, and is appended while the queue holds
fewer than 128; in a full queue a safety record takes the place of the oldest SNAPSHOT, and every other record is dropped; either sets
LOST. Nothing but the queue moves. -/
def Obligations.AdmissionIsByKind : Prop :=
  ∀ (s : State) (b : Body),
    let r : Record := { seq := s.queue.nextSeq, stamp := s.stamp, cycle := s.gen.cycles, body := b }
    let t := s.record b
    let safety : Prop := b.kindCode ∈ [0x02#8, 0x03#8, 0x04#8]
    let snapshot (x : Record) : Prop := x.body.kindCode = 0x01#8
    { t with queue := s.queue } = s ∧ t.queue.nextSeq = s.queue.nextSeq + 1#16
      ∧ (s.queue.records.length < 128 → t.queue.records = s.queue.records ++ [r] ∧ t.queue.lost = s.queue.lost
          ∧ (t.queue.logReady = true ↔ s.queue.logReady = true ∨ s.queue.on ≤ s.queue.records.length + 1))
      ∧ (128 ≤ s.queue.records.length → t.queue.lost = true ∧ t.queue.logReady = s.queue.logReady)
      ∧ (∀ before x after, 128 ≤ s.queue.records.length → safety → s.queue.records = before ++ x :: after → snapshot x →
          (∀ y ∈ before, ¬ snapshot y) → t.queue.records = before ++ after ++ [r])
      ∧ (128 ≤ s.queue.records.length → ¬ safety ∨ (∀ y ∈ s.queue.records, ¬ snapshot y) →
          t.queue.records = s.queue.records)

/-- R153, section 10.5: TAKE_RECORD removes the oldest record and is answered with it and the number left, LOG_READY clearing at OFF or
below; with an empty queue it is refused EMPTY and changes nothing. A record is its header (kind, sequence number, time stamp, cycle
count and body length) and the body of its kind; the codes are those of R164. -/
def Obligations.TakeRecordTakesTheOldest : Prop :=
  ∀ s : State,
    (s.queue.records = [] → exec (.takeRecord .logger) s = .next (s.answer .logger 0x60#8 0#16 .empty []))
      ∧ ∀ (r : Record) (rest : List Record), s.queue.records = r :: rest →
          let logReady := if rest.length ≤ s.queue.off then false else s.queue.logReady
          let opt (x : Option Half) : List Byte := match x with
            | some v => [1#8] ++ bytes2 v
            | none => [0#8, 0#8, 0#8]
          let source (kind : EntryKind) (x : Source) : List Byte := match kind with
            | .source => [x.kindCode, BitVec.ofNat 8 x.index]
            | .overflow => [0x0C#8, 0#8]
          let body : Byte × Nat × List Byte := match r.body with
            | .snapshot trigger gen block gauges channels =>
              (0x01#8, 60 + 6 * gauges.length,
                [trigger.code, gen.code, match block with
                  | some i => BitVec.ofNat 8 i.val
                  | none => 0xFF#8, BitVec.ofNat 8 gauges.length]
                ++ gauges.flatMap (fun x => [BitVec.ofNat 8 x.gauge.val] ++ (match x.extremes with
                    | some e => bytes2 e.peak ++ bytes2 e.valley
                    | none => [0#8, 0#8, 0#8, 0#8])
                  ++ [BitVec.ofNat 8 (x.extremes.isNone.toNat + 2 * x.fault.toNat + 4 * x.sat.toNat)])
                ++ channels.toList.flatMap fun x => opt x.setpoint ++ opt x.force ++ [x.zone.code])
            | .alarmRaised zone tag x action repeats after =>
              (0x02#8, 8, [BitVec.ofNat 8 zone.val] ++ bytes2 tag ++ source .source x ++ [action.code, repeats, after.code])
            | .alarmCleared zone tag kind x method after =>
              (0x03#8, 7, [BitVec.ofNat 8 zone.val] ++ bytes2 tag ++ source kind x ++ [method.code, after.code])
            | .zoneChange zone before after => (0x04#8, 3, [BitVec.ofNat 8 zone.val, before.code, after.code])
            | .program block kind gen reason => (0x05#8, 4, [BitVec.ofNat 8 block.val, kind.code, gen.code, reason.code])
            | .commit outcome => (0x06#8, 1, [outcome.code])
          body.2.2.length = body.2.1 ∧ exec (.takeRecord .logger) s =
            .next ({ s with queue := { s.queue with records := rest, logReady := logReady } }.answer .logger 0x60#8 0#16 .ok
              ([body.1] ++ bytes2 r.seq ++ bytes4 r.stamp ++ bytes5 r.cycle ++ bytes2 (BitVec.ofNat 16 body.2.1) ++ body.2.2
                ++ [BitVec.ofNat 8 rest.length]))

/-- R154, R155, R158 to R161: SET_QUEUE stores its thresholds, OFF clamped below ON, re-evaluates LOG_READY and restarts the automatic
counter when N changes, an ON outside 1..128 being refused RANGE; SNAPSHOT makes a snapshot triggered by its port, suspends the
automatic ones and answers its number and whether it was admitted; RESUME_AUTO_SNAPSHOT clears the suspension and the counter. At a
boundary the automatic counter rises by 1 unless N is 0 or the suspension stands; where it comes to N it is 0 and a snapshot with the
trigger AUTO is made, of the part as the boundary leaves it but for the pause that comes last. A snapshot holds the generator state and
current block, an entry of each enabled gauge in ascending order with its last-cycle extremes and flags, and of each channel its
setpoint, none while its zone is DUMPED, its last measured force and its zone's state. -/
def Obligations.QueueRequests : Prop :=
  ∀ s : State,
    let count := s.queue.records.length
    let shot (u v : State) (trigger : Trigger) : Body :=
      .snapshot trigger u.gen.state u.gen.current
        (((List.finRange 64).filter fun g => v.gauges[g].config.enabled).map fun g =>
          { gauge := g, extremes := v.gauges[g].run.last, fault := v.gauges[g].run.lastFault, sat := v.gauges[g].run.lastSat })
        (Vector.ofFn fun c => {
          setpoint := if v.zones[v.channels[c].zone].state = .dumped then none else some v.outputs[c].setpoint
          force := v.supervision[c].force, zone := v.zones[v.channels[c].zone].state })
    (∀ (on off : Byte) (n : Half),
        (on = 0#8 ∨ 128 < on.toNat → exec (.setQueue .director on off n) s =
            .next (s.answer .director 0x63#8 4#16 .range []))
          ∧ (1 ≤ on.toNat → on.toNat ≤ 128 →
              let off' := min off.toNat (on.toNat - 1)
              let logReady := if on.toNat ≤ count then true else if count ≤ off' then false else s.queue.logReady
              let autoCount := if n = s.queue.interval then s.queue.autoCount else 0#16
              exec (.setQueue .director on off n) s =
                .next ({ s with queue :=
                    { s.queue with
                      on := on.toNat, off := off', interval := n, logReady := logReady, autoCount := autoCount } }.answer
                  .director 0x63#8 4#16 .ok ([on, BitVec.ofNat 8 off'] ++ bytes2 n ++ [yes logReady]))))
      ∧ (∀ p, p = .director ∨ p = .logger →
          let trigger : Trigger := if p = .director then .director else .logger
          let made := s.record (shot s s trigger)
          exec (.snapshot p) s =
            .next ({ made with queue := { made.queue with suspended := true } }.answer p 0x61#8 0#16 .ok
              (bytes2 s.queue.nextSeq ++ [if count < 128 then 1#8 else 0#8])))
      ∧ exec (.resumeAutoSnapshot .director) s =
          .next ({ s with queue := { s.queue with autoCount := 0#16, suspended := false } }.answer .director 0x62#8 0#16 .ok
            (bytes2 s.queue.interval ++ [0#8, 0#8, 0#8]))
      ∧ (s.gen.carries = true → ∃ u t : State, exec .boundary s = .next t
          ∧ u.queue.interval = s.queue.interval ∧ u.queue.suspended = s.queue.suspended
          ∧ u.queue.autoCount = s.queue.autoCount ∧ { t with queue := u.queue, gen := u.gen, ports := u.ports } = u
          ∧ u.gen.cycles.toNat = min (s.gen.cycles.toNat + 1) (2 ^ 40 - 1)
          ∧ { t.gen with state := u.gen.state, lastReason := u.gen.lastReason } = u.gen
          ∧ (s.queue.interval = 0#16 ∨ s.queue.suspended = true →
              t = u.syncPause ∧ t.queue.autoCount = s.queue.autoCount)
          ∧ (s.queue.interval ≠ 0#16 → s.queue.suspended = false → s.queue.autoCount + 1#16 ≠ s.queue.interval →
              t = State.syncPause { u with queue := { u.queue with autoCount := s.queue.autoCount + 1#16 } }
                ∧ t.queue.autoCount = s.queue.autoCount + 1#16)
          ∧ (s.queue.interval ≠ 0#16 → s.queue.suspended = false → s.queue.autoCount + 1#16 = s.queue.interval →
              t = (State.record { u with queue := { u.queue with autoCount := 0#16 } }
                    (shot u t .auto)).syncPause
                ∧ t.queue.autoCount = 0#16))

/-! ### Invariants that every step keeps -/

/-- R152, R154: every step keeps the record queue at 128 records or fewer, and keeps LOG_READY settled against its thresholds: set at ON
or more, clear at OFF or fewer. -/
def Obligations.StepsKeepTheQueue : Prop :=
  ∀ s t : State, step s = .next t →
    (s.QueueBounded → t.QueueBounded) ∧ (s.ReadySettled → t.ReadySettled)

/-- R131, R132, R134: every step keeps the alarm lists lawful (one entry a source, at most twelve and one overflow entry a list, no tag
twice in the four lists and none 0) and every zone at least as protected as each of its entries asks; so no zone is NORMAL while its
list holds a protective entry. -/
def Obligations.StepsKeepTheAlarmLists : Prop :=
  ∀ s t : State, step s = .next t →
    (s.ListsLawful → t.ListsLawful) ∧ (s.ZonesProtected → t.ZonesProtected)

/-- R123, R143, R145: every step keeps the STOP condition, the STOP hold and the zones together: while STOPn is qualified low, every
zone is DUMPED and its DUMPn line is asserted. -/
def Obligations.StepsObeyTheStopLine : Prop :=
  ∀ s t : State, step s = .next t → s.StopObeyed →
    t.StopObeyed ∧ (t.stopLine.qualifier.level = some .low → ∀ z : Fin 4, t.dumpAsserted z = true)

/-- R53: every step keeps each channel's UL within its force window, and its setpoint within it too while its zone is not DUMPED, and
at UL while it is. -/
def Obligations.StepsKeepSetpointsInTheWindow : Prop :=
  ∀ s t : State, step s = .next t → s.SetpointsBound → t.SetpointsBound

/-- R21, R24, R29, R33, R34: every step keeps the generator lawful: a RAMP, DWELL or CYCLE is current exactly in RUNNING and PAUSED,
RUNNING excludes both pause inputs and PAUSED needs one, and nothing is pending and the phase is 0 with no block current; and every
step keeps the loop counter of a JUMP at or below its repeat count. -/
def Obligations.StepsKeepTheGeneratorLawful : Prop :=
  ∀ s t : State, step s = .next t →
    (s.GeneratorLawful → t.GeneratorLawful) ∧ (s.LoopsBounded → t.LoopsBounded)

/-- R75, R87, R88, R99, R105, R116, R128, R138, R159, R166: every step keeps the miss, out, in and drift counts below K, n and M, the
runs of samples at 15 or fewer, the stale timers at 1000 ms or less, the links' bit counts at 40 or fewer and the automatic snapshot
counter below N; and, the alarm lists being lawful (StepsKeepTheAlarmLists), keeps every running timer above 0 (the watchdogs, the stale
timers, the clear-timers, the DWELL countdown and the remaining count of a finite CYCLE) and the clear-timers at 3,600,000 ms or less,
with the durations they are set from in range. -/
def Obligations.StepsKeepTheCountsInRange : Prop :=
  ∀ s t : State, step s = .next t →
    (s.CountsInRange → t.CountsInRange) ∧ (s.ListsLawful → s.TimersRun → t.TimersRun)
end

