-- ==== Sys2Proof/Laws/Commute.lean ====
section
/-! SUPPORT. A raise and a clear do not read the gauges, the frames or the supervision records: handing one over and replacing those
records commute. -/
namespace Sys2Proof.Machine

/-- A replacement of records that zone protection, the record queue and the generator's pause do not read. -/
structure Unread (f : State → State) : Prop where
  zones : ∀ s, (f s).zones = s.zones
  stopHold : ∀ s, (f s).stopHold = s.stopHold
  tagCounter : ∀ s, (f s).tagCounter = s.tagCounter
  stamp : ∀ s, (f s).stamp = s.stamp
  gen : ∀ s, (f s).gen = s.gen
  channels : ∀ s, (f s).channels = s.channels
  outputs : ∀ s, (f s).outputs = s.outputs
  setZones : ∀ s x, (f s).setZones x = f (s.setZones x)
  setOutputs : ∀ s x, (f s).setOutputs x = f (s.setOutputs x)
  setGen : ∀ s x, (f s).setGen x = f (s.setGen x)
  setTagCounter : ∀ s x, (f s).setTagCounter x = f (s.setTagCounter x)
  record : ∀ s b, (f s).record b = f (s.record b)
  addEvent : ∀ s e, (f s).addEvent e = f (s.addEvent e)

theorem Unread.of_setGauges (x : Vector Gauge 64) : Unread fun s => s.setGauges x := by
  constructor <;> intros <;> rfl

theorem Unread.of_setFrames (x : Vector FrameRec 4) : Unread fun s => s.setFrames x := by
  constructor <;> intros <;> rfl

theorem Unread.of_setSupervision (x : Vector Supervision 8) : Unread fun s => s.setSupervision x := by
  constructor <;> intros <;> rfl

theorem foldl_comm_of_forall {α : Type} {f : State → State} (g : State → α → State) (hg : ∀ s a, g (f s) a = f (g s a)) (l : List α) (s : State) :
    l.foldl g (f s) = f (l.foldl g s) := by
  induction l generalizing s with
  | nil => rfl
  | cons a l ih => simp only [List.foldl_cons, hg, ih]

section
variable {f : State → State} (h : Unread f)
include h

theorem Unread.updZone (s : State) (z : Fin 4) (g : Zone → Zone) : (f s).updZone z g = f (s.updZone z g) := by
  simp only [State.updZone, h.zones, h.setZones]

theorem Unread.pauseDemand (s : State) : (f s).pauseDemand = s.pauseDemand := by
  simp only [State.pauseDemand, h.zones]

theorem Unread.syncPause (s : State) : (f s).syncPause = f s.syncPause := by
  unfold State.syncPause State.moveGenerator State.programRecord
  simp only [h.pauseDemand, h.gen, h.setGen, h.record, h.addEvent]
  split <;> (try split) <;> rfl

theorem Unread.enterZone (s : State) (z : Fin 4) (st : ZoneState) : (f s).enterZone z st = f (s.enterZone z st) := by
  unfold State.enterZone State.captureHeld State.dumpMembers
  cases st <;> simp only [h.updZone, h.setOutputs, h.channels, h.outputs]

theorem Unread.changeZone (s : State) (z : Fin 4) (st : ZoneState) (d : Bool) :
    (f s).changeZone z st d = f (s.changeZone z st d) := by
  unfold State.changeZone
  simp only [h.zones, h.enterZone, h.record, h.addEvent, h.syncPause]
  split
  · rfl
  · split <;> rfl

theorem Unread.removeEntry (s : State) (z : Fin 4) (e : Entry) (m : Method) (d : Bool) :
    (f s).removeEntry z e m d = f (s.removeEntry z e m d) := by
  unfold State.removeEntry
  simp only [h.updZone, h.zones, h.stopHold, h.record, h.changeZone]

theorem Unread.appendEntry (s : State) (z : Fin 4) (e : Entry) : (f s).appendEntry z e = f (s.appendEntry z e) := by
  simp only [State.appendEntry, h.updZone, h.setTagCounter]

theorem Unread.nextTag (s : State) : (f s).nextTag = s.nextTag := by
  simp only [State.nextTag, State.usedTags, h.zones, h.tagCounter]

theorem Unread.newEntry (s : State) (r : Raise) : (f s).newEntry r = s.newEntry r := by
  simp only [State.newEntry, h.nextTag, h.stamp, h.gen]

theorem Unread.newOverflow (s : State) (r : Raise) : (f s).newOverflow r = s.newOverflow r := by
  simp only [State.newOverflow, h.nextTag, h.stamp, h.gen]

theorem Unread.takeRaise (s : State) (z : Fin 4) (r : Raise) :
    (f s).takeRaise z r = (f (s.takeRaise z r).1, (s.takeRaise z r).2) := by
  unfold State.takeRaise
  simp only [h.zones, h.updZone, h.appendEntry, h.newEntry, h.newOverflow]
  cases s.zones[z].entries.find? fun e => e.isOf r.source with
  | some e => rfl
  | none =>
    by_cases room : s.zones[z].sourceEntries.length < Config.maxSourceEntries
    · simp only [if_pos room]
    · simp only [if_neg room]
      cases s.zones[z].entries.find? fun e => e.kind == .overflow <;> rfl

theorem Unread.raiseIn (s : State) (z : Fin 4) (r : Raise) (d : Bool) : (f s).raiseIn z r d = f (s.raiseIn z r d) := by
  unfold State.raiseIn
  simp only [h.takeRaise, h.zones, h.record, h.addEvent, h.changeZone, h.removeEntry]
  split <;> rfl

/-- A raise and a replacement of records it does not read commute. -/
theorem Unread.raise (s : State) (r : Raise) (own : List (Fin 4)) (d : Bool) : (f s).raise r own d = f (s.raise r own d) :=
  foldl_comm_of_forall _ (fun s z => h.raiseIn s z r d) _ _

theorem Unread.clearIn (s : State) (z : Fin 4) (x : Source) : (f s).clearIn z x = f (s.clearIn z x) := by
  unfold State.clearIn
  simp only [h.zones, h.updZone]
  exact foldl_comm_of_forall _ (fun s e => h.removeEntry s z e .auto false) _ _

/-- A clear and a replacement of records it does not read commute. -/
theorem Unread.clear (s : State) (x : Source) : (f s).clear x = f (s.clear x) :=
  foldl_comm_of_forall _ (fun s z => h.clearIn s z x) _ _

end

end Sys2Proof.Machine
end

