-- ==== Sys2Proof/Laws/State.lean ====
section
/-! SUPPORT. One lemma per field per update of `State`, and what changing one record of a table does to it and to the others. -/
namespace Sys2Proof.Machine

/-! ### setStamp -/

@[simp] theorem State.setStamp_stamp (s : State) (x : Word) : (s.setStamp x).stamp = x := rfl
@[simp] theorem State.setStamp_ports (s : State) (x : Word) : (s.setStamp x).ports = s.ports := rfl
@[simp] theorem State.setStamp_gen (s : State) (x : Word) : (s.setStamp x).gen = s.gen := rfl
@[simp] theorem State.setStamp_channels (s : State) (x : Word) : (s.setStamp x).channels = s.channels := rfl
@[simp] theorem State.setStamp_outputs (s : State) (x : Word) : (s.setStamp x).outputs = s.outputs := rfl
@[simp] theorem State.setStamp_supervision (s : State) (x : Word) : (s.setStamp x).supervision = s.supervision := rfl
@[simp] theorem State.setStamp_activeSet (s : State) (x : Word) : (s.setStamp x).activeSet = s.activeSet := rfl
@[simp] theorem State.setStamp_stagedSet (s : State) (x : Word) : (s.setStamp x).stagedSet = s.stagedSet := rfl
@[simp] theorem State.setStamp_commit (s : State) (x : Word) : (s.setStamp x).commit = s.commit := rfl
@[simp] theorem State.setStamp_frames (s : State) (x : Word) : (s.setStamp x).frames = s.frames := rfl
@[simp] theorem State.setStamp_gauges (s : State) (x : Word) : (s.setStamp x).gauges = s.gauges := rfl
@[simp] theorem State.setStamp_links (s : State) (x : Word) : (s.setStamp x).links = s.links := rfl
@[simp] theorem State.setStamp_cracks (s : State) (x : Word) : (s.setStamp x).cracks = s.cracks := rfl
@[simp] theorem State.setStamp_stopLine (s : State) (x : Word) : (s.setStamp x).stopLine = s.stopLine := rfl
@[simp] theorem State.setStamp_zones (s : State) (x : Word) : (s.setStamp x).zones = s.zones := rfl
@[simp] theorem State.setStamp_tagCounter (s : State) (x : Word) : (s.setStamp x).tagCounter = s.tagCounter := rfl
@[simp] theorem State.setStamp_stopHold (s : State) (x : Word) : (s.setStamp x).stopHold = s.stopHold := rfl
@[simp] theorem State.setStamp_queue (s : State) (x : Word) : (s.setStamp x).queue = s.queue := rfl
@[simp] theorem State.setStamp_pending (s : State) (x : Word) : (s.setStamp x).pending = s.pending := rfl

/-! ### setPorts -/

@[simp] theorem State.setPorts_stamp (s : State) (x : Vector Port 6) : (s.setPorts x).stamp = s.stamp := rfl
@[simp] theorem State.setPorts_ports (s : State) (x : Vector Port 6) : (s.setPorts x).ports = x := rfl
@[simp] theorem State.setPorts_gen (s : State) (x : Vector Port 6) : (s.setPorts x).gen = s.gen := rfl
@[simp] theorem State.setPorts_channels (s : State) (x : Vector Port 6) : (s.setPorts x).channels = s.channels := rfl
@[simp] theorem State.setPorts_outputs (s : State) (x : Vector Port 6) : (s.setPorts x).outputs = s.outputs := rfl
@[simp] theorem State.setPorts_supervision (s : State) (x : Vector Port 6) : (s.setPorts x).supervision = s.supervision := rfl
@[simp] theorem State.setPorts_activeSet (s : State) (x : Vector Port 6) : (s.setPorts x).activeSet = s.activeSet := rfl
@[simp] theorem State.setPorts_stagedSet (s : State) (x : Vector Port 6) : (s.setPorts x).stagedSet = s.stagedSet := rfl
@[simp] theorem State.setPorts_commit (s : State) (x : Vector Port 6) : (s.setPorts x).commit = s.commit := rfl
@[simp] theorem State.setPorts_frames (s : State) (x : Vector Port 6) : (s.setPorts x).frames = s.frames := rfl
@[simp] theorem State.setPorts_gauges (s : State) (x : Vector Port 6) : (s.setPorts x).gauges = s.gauges := rfl
@[simp] theorem State.setPorts_links (s : State) (x : Vector Port 6) : (s.setPorts x).links = s.links := rfl
@[simp] theorem State.setPorts_cracks (s : State) (x : Vector Port 6) : (s.setPorts x).cracks = s.cracks := rfl
@[simp] theorem State.setPorts_stopLine (s : State) (x : Vector Port 6) : (s.setPorts x).stopLine = s.stopLine := rfl
@[simp] theorem State.setPorts_zones (s : State) (x : Vector Port 6) : (s.setPorts x).zones = s.zones := rfl
@[simp] theorem State.setPorts_tagCounter (s : State) (x : Vector Port 6) : (s.setPorts x).tagCounter = s.tagCounter := rfl
@[simp] theorem State.setPorts_stopHold (s : State) (x : Vector Port 6) : (s.setPorts x).stopHold = s.stopHold := rfl
@[simp] theorem State.setPorts_queue (s : State) (x : Vector Port 6) : (s.setPorts x).queue = s.queue := rfl
@[simp] theorem State.setPorts_pending (s : State) (x : Vector Port 6) : (s.setPorts x).pending = s.pending := rfl

/-! ### setGen -/

@[simp] theorem State.setGen_stamp (s : State) (x : Generator) : (s.setGen x).stamp = s.stamp := rfl
@[simp] theorem State.setGen_ports (s : State) (x : Generator) : (s.setGen x).ports = s.ports := rfl
@[simp] theorem State.setGen_gen (s : State) (x : Generator) : (s.setGen x).gen = x := rfl
@[simp] theorem State.setGen_channels (s : State) (x : Generator) : (s.setGen x).channels = s.channels := rfl
@[simp] theorem State.setGen_outputs (s : State) (x : Generator) : (s.setGen x).outputs = s.outputs := rfl
@[simp] theorem State.setGen_supervision (s : State) (x : Generator) : (s.setGen x).supervision = s.supervision := rfl
@[simp] theorem State.setGen_activeSet (s : State) (x : Generator) : (s.setGen x).activeSet = s.activeSet := rfl
@[simp] theorem State.setGen_stagedSet (s : State) (x : Generator) : (s.setGen x).stagedSet = s.stagedSet := rfl
@[simp] theorem State.setGen_commit (s : State) (x : Generator) : (s.setGen x).commit = s.commit := rfl
@[simp] theorem State.setGen_frames (s : State) (x : Generator) : (s.setGen x).frames = s.frames := rfl
@[simp] theorem State.setGen_gauges (s : State) (x : Generator) : (s.setGen x).gauges = s.gauges := rfl
@[simp] theorem State.setGen_links (s : State) (x : Generator) : (s.setGen x).links = s.links := rfl
@[simp] theorem State.setGen_cracks (s : State) (x : Generator) : (s.setGen x).cracks = s.cracks := rfl
@[simp] theorem State.setGen_stopLine (s : State) (x : Generator) : (s.setGen x).stopLine = s.stopLine := rfl
@[simp] theorem State.setGen_zones (s : State) (x : Generator) : (s.setGen x).zones = s.zones := rfl
@[simp] theorem State.setGen_tagCounter (s : State) (x : Generator) : (s.setGen x).tagCounter = s.tagCounter := rfl
@[simp] theorem State.setGen_stopHold (s : State) (x : Generator) : (s.setGen x).stopHold = s.stopHold := rfl
@[simp] theorem State.setGen_queue (s : State) (x : Generator) : (s.setGen x).queue = s.queue := rfl
@[simp] theorem State.setGen_pending (s : State) (x : Generator) : (s.setGen x).pending = s.pending := rfl

/-! ### setChannels -/

@[simp] theorem State.setChannels_stamp (s : State) (x : Vector Channel 8) : (s.setChannels x).stamp = s.stamp := rfl
@[simp] theorem State.setChannels_ports (s : State) (x : Vector Channel 8) : (s.setChannels x).ports = s.ports := rfl
@[simp] theorem State.setChannels_gen (s : State) (x : Vector Channel 8) : (s.setChannels x).gen = s.gen := rfl
@[simp] theorem State.setChannels_channels (s : State) (x : Vector Channel 8) : (s.setChannels x).channels = x := rfl
@[simp] theorem State.setChannels_outputs (s : State) (x : Vector Channel 8) : (s.setChannels x).outputs = s.outputs := rfl
@[simp] theorem State.setChannels_supervision (s : State) (x : Vector Channel 8) : (s.setChannels x).supervision = s.supervision := rfl
@[simp] theorem State.setChannels_activeSet (s : State) (x : Vector Channel 8) : (s.setChannels x).activeSet = s.activeSet := rfl
@[simp] theorem State.setChannels_stagedSet (s : State) (x : Vector Channel 8) : (s.setChannels x).stagedSet = s.stagedSet := rfl
@[simp] theorem State.setChannels_commit (s : State) (x : Vector Channel 8) : (s.setChannels x).commit = s.commit := rfl
@[simp] theorem State.setChannels_frames (s : State) (x : Vector Channel 8) : (s.setChannels x).frames = s.frames := rfl
@[simp] theorem State.setChannels_gauges (s : State) (x : Vector Channel 8) : (s.setChannels x).gauges = s.gauges := rfl
@[simp] theorem State.setChannels_links (s : State) (x : Vector Channel 8) : (s.setChannels x).links = s.links := rfl
@[simp] theorem State.setChannels_cracks (s : State) (x : Vector Channel 8) : (s.setChannels x).cracks = s.cracks := rfl
@[simp] theorem State.setChannels_stopLine (s : State) (x : Vector Channel 8) : (s.setChannels x).stopLine = s.stopLine := rfl
@[simp] theorem State.setChannels_zones (s : State) (x : Vector Channel 8) : (s.setChannels x).zones = s.zones := rfl
@[simp] theorem State.setChannels_tagCounter (s : State) (x : Vector Channel 8) : (s.setChannels x).tagCounter = s.tagCounter := rfl
@[simp] theorem State.setChannels_stopHold (s : State) (x : Vector Channel 8) : (s.setChannels x).stopHold = s.stopHold := rfl
@[simp] theorem State.setChannels_queue (s : State) (x : Vector Channel 8) : (s.setChannels x).queue = s.queue := rfl
@[simp] theorem State.setChannels_pending (s : State) (x : Vector Channel 8) : (s.setChannels x).pending = s.pending := rfl

/-! ### setOutputs -/

@[simp] theorem State.setOutputs_stamp (s : State) (x : Vector Output 8) : (s.setOutputs x).stamp = s.stamp := rfl
@[simp] theorem State.setOutputs_ports (s : State) (x : Vector Output 8) : (s.setOutputs x).ports = s.ports := rfl
@[simp] theorem State.setOutputs_gen (s : State) (x : Vector Output 8) : (s.setOutputs x).gen = s.gen := rfl
@[simp] theorem State.setOutputs_channels (s : State) (x : Vector Output 8) : (s.setOutputs x).channels = s.channels := rfl
@[simp] theorem State.setOutputs_outputs (s : State) (x : Vector Output 8) : (s.setOutputs x).outputs = x := rfl
@[simp] theorem State.setOutputs_supervision (s : State) (x : Vector Output 8) : (s.setOutputs x).supervision = s.supervision := rfl
@[simp] theorem State.setOutputs_activeSet (s : State) (x : Vector Output 8) : (s.setOutputs x).activeSet = s.activeSet := rfl
@[simp] theorem State.setOutputs_stagedSet (s : State) (x : Vector Output 8) : (s.setOutputs x).stagedSet = s.stagedSet := rfl
@[simp] theorem State.setOutputs_commit (s : State) (x : Vector Output 8) : (s.setOutputs x).commit = s.commit := rfl
@[simp] theorem State.setOutputs_frames (s : State) (x : Vector Output 8) : (s.setOutputs x).frames = s.frames := rfl
@[simp] theorem State.setOutputs_gauges (s : State) (x : Vector Output 8) : (s.setOutputs x).gauges = s.gauges := rfl
@[simp] theorem State.setOutputs_links (s : State) (x : Vector Output 8) : (s.setOutputs x).links = s.links := rfl
@[simp] theorem State.setOutputs_cracks (s : State) (x : Vector Output 8) : (s.setOutputs x).cracks = s.cracks := rfl
@[simp] theorem State.setOutputs_stopLine (s : State) (x : Vector Output 8) : (s.setOutputs x).stopLine = s.stopLine := rfl
@[simp] theorem State.setOutputs_zones (s : State) (x : Vector Output 8) : (s.setOutputs x).zones = s.zones := rfl
@[simp] theorem State.setOutputs_tagCounter (s : State) (x : Vector Output 8) : (s.setOutputs x).tagCounter = s.tagCounter := rfl
@[simp] theorem State.setOutputs_stopHold (s : State) (x : Vector Output 8) : (s.setOutputs x).stopHold = s.stopHold := rfl
@[simp] theorem State.setOutputs_queue (s : State) (x : Vector Output 8) : (s.setOutputs x).queue = s.queue := rfl
@[simp] theorem State.setOutputs_pending (s : State) (x : Vector Output 8) : (s.setOutputs x).pending = s.pending := rfl

/-! ### setSupervision -/

@[simp] theorem State.setSupervision_stamp (s : State) (x : Vector Supervision 8) : (s.setSupervision x).stamp = s.stamp := rfl
@[simp] theorem State.setSupervision_ports (s : State) (x : Vector Supervision 8) : (s.setSupervision x).ports = s.ports := rfl
@[simp] theorem State.setSupervision_gen (s : State) (x : Vector Supervision 8) : (s.setSupervision x).gen = s.gen := rfl
@[simp] theorem State.setSupervision_channels (s : State) (x : Vector Supervision 8) : (s.setSupervision x).channels = s.channels := rfl
@[simp] theorem State.setSupervision_outputs (s : State) (x : Vector Supervision 8) : (s.setSupervision x).outputs = s.outputs := rfl
@[simp] theorem State.setSupervision_supervision (s : State) (x : Vector Supervision 8) : (s.setSupervision x).supervision = x := rfl
@[simp] theorem State.setSupervision_activeSet (s : State) (x : Vector Supervision 8) : (s.setSupervision x).activeSet = s.activeSet := rfl
@[simp] theorem State.setSupervision_stagedSet (s : State) (x : Vector Supervision 8) : (s.setSupervision x).stagedSet = s.stagedSet := rfl
@[simp] theorem State.setSupervision_commit (s : State) (x : Vector Supervision 8) : (s.setSupervision x).commit = s.commit := rfl
@[simp] theorem State.setSupervision_frames (s : State) (x : Vector Supervision 8) : (s.setSupervision x).frames = s.frames := rfl
@[simp] theorem State.setSupervision_gauges (s : State) (x : Vector Supervision 8) : (s.setSupervision x).gauges = s.gauges := rfl
@[simp] theorem State.setSupervision_links (s : State) (x : Vector Supervision 8) : (s.setSupervision x).links = s.links := rfl
@[simp] theorem State.setSupervision_cracks (s : State) (x : Vector Supervision 8) : (s.setSupervision x).cracks = s.cracks := rfl
@[simp] theorem State.setSupervision_stopLine (s : State) (x : Vector Supervision 8) : (s.setSupervision x).stopLine = s.stopLine := rfl
@[simp] theorem State.setSupervision_zones (s : State) (x : Vector Supervision 8) : (s.setSupervision x).zones = s.zones := rfl
@[simp] theorem State.setSupervision_tagCounter (s : State) (x : Vector Supervision 8) : (s.setSupervision x).tagCounter = s.tagCounter := rfl
@[simp] theorem State.setSupervision_stopHold (s : State) (x : Vector Supervision 8) : (s.setSupervision x).stopHold = s.stopHold := rfl
@[simp] theorem State.setSupervision_queue (s : State) (x : Vector Supervision 8) : (s.setSupervision x).queue = s.queue := rfl
@[simp] theorem State.setSupervision_pending (s : State) (x : Vector Supervision 8) : (s.setSupervision x).pending = s.pending := rfl

/-! ### setActiveSet -/

@[simp] theorem State.setActiveSet_stamp (s : State) (x : LoadSet) : (s.setActiveSet x).stamp = s.stamp := rfl
@[simp] theorem State.setActiveSet_ports (s : State) (x : LoadSet) : (s.setActiveSet x).ports = s.ports := rfl
@[simp] theorem State.setActiveSet_gen (s : State) (x : LoadSet) : (s.setActiveSet x).gen = s.gen := rfl
@[simp] theorem State.setActiveSet_channels (s : State) (x : LoadSet) : (s.setActiveSet x).channels = s.channels := rfl
@[simp] theorem State.setActiveSet_outputs (s : State) (x : LoadSet) : (s.setActiveSet x).outputs = s.outputs := rfl
@[simp] theorem State.setActiveSet_supervision (s : State) (x : LoadSet) : (s.setActiveSet x).supervision = s.supervision := rfl
@[simp] theorem State.setActiveSet_activeSet (s : State) (x : LoadSet) : (s.setActiveSet x).activeSet = x := rfl
@[simp] theorem State.setActiveSet_stagedSet (s : State) (x : LoadSet) : (s.setActiveSet x).stagedSet = s.stagedSet := rfl
@[simp] theorem State.setActiveSet_commit (s : State) (x : LoadSet) : (s.setActiveSet x).commit = s.commit := rfl
@[simp] theorem State.setActiveSet_frames (s : State) (x : LoadSet) : (s.setActiveSet x).frames = s.frames := rfl
@[simp] theorem State.setActiveSet_gauges (s : State) (x : LoadSet) : (s.setActiveSet x).gauges = s.gauges := rfl
@[simp] theorem State.setActiveSet_links (s : State) (x : LoadSet) : (s.setActiveSet x).links = s.links := rfl
@[simp] theorem State.setActiveSet_cracks (s : State) (x : LoadSet) : (s.setActiveSet x).cracks = s.cracks := rfl
@[simp] theorem State.setActiveSet_stopLine (s : State) (x : LoadSet) : (s.setActiveSet x).stopLine = s.stopLine := rfl
@[simp] theorem State.setActiveSet_zones (s : State) (x : LoadSet) : (s.setActiveSet x).zones = s.zones := rfl
@[simp] theorem State.setActiveSet_tagCounter (s : State) (x : LoadSet) : (s.setActiveSet x).tagCounter = s.tagCounter := rfl
@[simp] theorem State.setActiveSet_stopHold (s : State) (x : LoadSet) : (s.setActiveSet x).stopHold = s.stopHold := rfl
@[simp] theorem State.setActiveSet_queue (s : State) (x : LoadSet) : (s.setActiveSet x).queue = s.queue := rfl
@[simp] theorem State.setActiveSet_pending (s : State) (x : LoadSet) : (s.setActiveSet x).pending = s.pending := rfl

/-! ### setStagedSet -/

@[simp] theorem State.setStagedSet_stamp (s : State) (x : LoadSet) : (s.setStagedSet x).stamp = s.stamp := rfl
@[simp] theorem State.setStagedSet_ports (s : State) (x : LoadSet) : (s.setStagedSet x).ports = s.ports := rfl
@[simp] theorem State.setStagedSet_gen (s : State) (x : LoadSet) : (s.setStagedSet x).gen = s.gen := rfl
@[simp] theorem State.setStagedSet_channels (s : State) (x : LoadSet) : (s.setStagedSet x).channels = s.channels := rfl
@[simp] theorem State.setStagedSet_outputs (s : State) (x : LoadSet) : (s.setStagedSet x).outputs = s.outputs := rfl
@[simp] theorem State.setStagedSet_supervision (s : State) (x : LoadSet) : (s.setStagedSet x).supervision = s.supervision := rfl
@[simp] theorem State.setStagedSet_activeSet (s : State) (x : LoadSet) : (s.setStagedSet x).activeSet = s.activeSet := rfl
@[simp] theorem State.setStagedSet_stagedSet (s : State) (x : LoadSet) : (s.setStagedSet x).stagedSet = x := rfl
@[simp] theorem State.setStagedSet_commit (s : State) (x : LoadSet) : (s.setStagedSet x).commit = s.commit := rfl
@[simp] theorem State.setStagedSet_frames (s : State) (x : LoadSet) : (s.setStagedSet x).frames = s.frames := rfl
@[simp] theorem State.setStagedSet_gauges (s : State) (x : LoadSet) : (s.setStagedSet x).gauges = s.gauges := rfl
@[simp] theorem State.setStagedSet_links (s : State) (x : LoadSet) : (s.setStagedSet x).links = s.links := rfl
@[simp] theorem State.setStagedSet_cracks (s : State) (x : LoadSet) : (s.setStagedSet x).cracks = s.cracks := rfl
@[simp] theorem State.setStagedSet_stopLine (s : State) (x : LoadSet) : (s.setStagedSet x).stopLine = s.stopLine := rfl
@[simp] theorem State.setStagedSet_zones (s : State) (x : LoadSet) : (s.setStagedSet x).zones = s.zones := rfl
@[simp] theorem State.setStagedSet_tagCounter (s : State) (x : LoadSet) : (s.setStagedSet x).tagCounter = s.tagCounter := rfl
@[simp] theorem State.setStagedSet_stopHold (s : State) (x : LoadSet) : (s.setStagedSet x).stopHold = s.stopHold := rfl
@[simp] theorem State.setStagedSet_queue (s : State) (x : LoadSet) : (s.setStagedSet x).queue = s.queue := rfl
@[simp] theorem State.setStagedSet_pending (s : State) (x : LoadSet) : (s.setStagedSet x).pending = s.pending := rfl

/-! ### setCommit -/

@[simp] theorem State.setCommit_stamp (s : State) (x : CommitState) : (s.setCommit x).stamp = s.stamp := rfl
@[simp] theorem State.setCommit_ports (s : State) (x : CommitState) : (s.setCommit x).ports = s.ports := rfl
@[simp] theorem State.setCommit_gen (s : State) (x : CommitState) : (s.setCommit x).gen = s.gen := rfl
@[simp] theorem State.setCommit_channels (s : State) (x : CommitState) : (s.setCommit x).channels = s.channels := rfl
@[simp] theorem State.setCommit_outputs (s : State) (x : CommitState) : (s.setCommit x).outputs = s.outputs := rfl
@[simp] theorem State.setCommit_supervision (s : State) (x : CommitState) : (s.setCommit x).supervision = s.supervision := rfl
@[simp] theorem State.setCommit_activeSet (s : State) (x : CommitState) : (s.setCommit x).activeSet = s.activeSet := rfl
@[simp] theorem State.setCommit_stagedSet (s : State) (x : CommitState) : (s.setCommit x).stagedSet = s.stagedSet := rfl
@[simp] theorem State.setCommit_commit (s : State) (x : CommitState) : (s.setCommit x).commit = x := rfl
@[simp] theorem State.setCommit_frames (s : State) (x : CommitState) : (s.setCommit x).frames = s.frames := rfl
@[simp] theorem State.setCommit_gauges (s : State) (x : CommitState) : (s.setCommit x).gauges = s.gauges := rfl
@[simp] theorem State.setCommit_links (s : State) (x : CommitState) : (s.setCommit x).links = s.links := rfl
@[simp] theorem State.setCommit_cracks (s : State) (x : CommitState) : (s.setCommit x).cracks = s.cracks := rfl
@[simp] theorem State.setCommit_stopLine (s : State) (x : CommitState) : (s.setCommit x).stopLine = s.stopLine := rfl
@[simp] theorem State.setCommit_zones (s : State) (x : CommitState) : (s.setCommit x).zones = s.zones := rfl
@[simp] theorem State.setCommit_tagCounter (s : State) (x : CommitState) : (s.setCommit x).tagCounter = s.tagCounter := rfl
@[simp] theorem State.setCommit_stopHold (s : State) (x : CommitState) : (s.setCommit x).stopHold = s.stopHold := rfl
@[simp] theorem State.setCommit_queue (s : State) (x : CommitState) : (s.setCommit x).queue = s.queue := rfl
@[simp] theorem State.setCommit_pending (s : State) (x : CommitState) : (s.setCommit x).pending = s.pending := rfl

/-! ### setFrames -/

@[simp] theorem State.setFrames_stamp (s : State) (x : Vector FrameRec 4) : (s.setFrames x).stamp = s.stamp := rfl
@[simp] theorem State.setFrames_ports (s : State) (x : Vector FrameRec 4) : (s.setFrames x).ports = s.ports := rfl
@[simp] theorem State.setFrames_gen (s : State) (x : Vector FrameRec 4) : (s.setFrames x).gen = s.gen := rfl
@[simp] theorem State.setFrames_channels (s : State) (x : Vector FrameRec 4) : (s.setFrames x).channels = s.channels := rfl
@[simp] theorem State.setFrames_outputs (s : State) (x : Vector FrameRec 4) : (s.setFrames x).outputs = s.outputs := rfl
@[simp] theorem State.setFrames_supervision (s : State) (x : Vector FrameRec 4) : (s.setFrames x).supervision = s.supervision := rfl
@[simp] theorem State.setFrames_activeSet (s : State) (x : Vector FrameRec 4) : (s.setFrames x).activeSet = s.activeSet := rfl
@[simp] theorem State.setFrames_stagedSet (s : State) (x : Vector FrameRec 4) : (s.setFrames x).stagedSet = s.stagedSet := rfl
@[simp] theorem State.setFrames_commit (s : State) (x : Vector FrameRec 4) : (s.setFrames x).commit = s.commit := rfl
@[simp] theorem State.setFrames_frames (s : State) (x : Vector FrameRec 4) : (s.setFrames x).frames = x := rfl
@[simp] theorem State.setFrames_gauges (s : State) (x : Vector FrameRec 4) : (s.setFrames x).gauges = s.gauges := rfl
@[simp] theorem State.setFrames_links (s : State) (x : Vector FrameRec 4) : (s.setFrames x).links = s.links := rfl
@[simp] theorem State.setFrames_cracks (s : State) (x : Vector FrameRec 4) : (s.setFrames x).cracks = s.cracks := rfl
@[simp] theorem State.setFrames_stopLine (s : State) (x : Vector FrameRec 4) : (s.setFrames x).stopLine = s.stopLine := rfl
@[simp] theorem State.setFrames_zones (s : State) (x : Vector FrameRec 4) : (s.setFrames x).zones = s.zones := rfl
@[simp] theorem State.setFrames_tagCounter (s : State) (x : Vector FrameRec 4) : (s.setFrames x).tagCounter = s.tagCounter := rfl
@[simp] theorem State.setFrames_stopHold (s : State) (x : Vector FrameRec 4) : (s.setFrames x).stopHold = s.stopHold := rfl
@[simp] theorem State.setFrames_queue (s : State) (x : Vector FrameRec 4) : (s.setFrames x).queue = s.queue := rfl
@[simp] theorem State.setFrames_pending (s : State) (x : Vector FrameRec 4) : (s.setFrames x).pending = s.pending := rfl

/-! ### setGauges -/

@[simp] theorem State.setGauges_stamp (s : State) (x : Vector Gauge 64) : (s.setGauges x).stamp = s.stamp := rfl
@[simp] theorem State.setGauges_ports (s : State) (x : Vector Gauge 64) : (s.setGauges x).ports = s.ports := rfl
@[simp] theorem State.setGauges_gen (s : State) (x : Vector Gauge 64) : (s.setGauges x).gen = s.gen := rfl
@[simp] theorem State.setGauges_channels (s : State) (x : Vector Gauge 64) : (s.setGauges x).channels = s.channels := rfl
@[simp] theorem State.setGauges_outputs (s : State) (x : Vector Gauge 64) : (s.setGauges x).outputs = s.outputs := rfl
@[simp] theorem State.setGauges_supervision (s : State) (x : Vector Gauge 64) : (s.setGauges x).supervision = s.supervision := rfl
@[simp] theorem State.setGauges_activeSet (s : State) (x : Vector Gauge 64) : (s.setGauges x).activeSet = s.activeSet := rfl
@[simp] theorem State.setGauges_stagedSet (s : State) (x : Vector Gauge 64) : (s.setGauges x).stagedSet = s.stagedSet := rfl
@[simp] theorem State.setGauges_commit (s : State) (x : Vector Gauge 64) : (s.setGauges x).commit = s.commit := rfl
@[simp] theorem State.setGauges_frames (s : State) (x : Vector Gauge 64) : (s.setGauges x).frames = s.frames := rfl
@[simp] theorem State.setGauges_gauges (s : State) (x : Vector Gauge 64) : (s.setGauges x).gauges = x := rfl
@[simp] theorem State.setGauges_links (s : State) (x : Vector Gauge 64) : (s.setGauges x).links = s.links := rfl
@[simp] theorem State.setGauges_cracks (s : State) (x : Vector Gauge 64) : (s.setGauges x).cracks = s.cracks := rfl
@[simp] theorem State.setGauges_stopLine (s : State) (x : Vector Gauge 64) : (s.setGauges x).stopLine = s.stopLine := rfl
@[simp] theorem State.setGauges_zones (s : State) (x : Vector Gauge 64) : (s.setGauges x).zones = s.zones := rfl
@[simp] theorem State.setGauges_tagCounter (s : State) (x : Vector Gauge 64) : (s.setGauges x).tagCounter = s.tagCounter := rfl
@[simp] theorem State.setGauges_stopHold (s : State) (x : Vector Gauge 64) : (s.setGauges x).stopHold = s.stopHold := rfl
@[simp] theorem State.setGauges_queue (s : State) (x : Vector Gauge 64) : (s.setGauges x).queue = s.queue := rfl
@[simp] theorem State.setGauges_pending (s : State) (x : Vector Gauge 64) : (s.setGauges x).pending = s.pending := rfl

/-! ### setLinks -/

@[simp] theorem State.setLinks_stamp (s : State) (x : Vector Link 2) : (s.setLinks x).stamp = s.stamp := rfl
@[simp] theorem State.setLinks_ports (s : State) (x : Vector Link 2) : (s.setLinks x).ports = s.ports := rfl
@[simp] theorem State.setLinks_gen (s : State) (x : Vector Link 2) : (s.setLinks x).gen = s.gen := rfl
@[simp] theorem State.setLinks_channels (s : State) (x : Vector Link 2) : (s.setLinks x).channels = s.channels := rfl
@[simp] theorem State.setLinks_outputs (s : State) (x : Vector Link 2) : (s.setLinks x).outputs = s.outputs := rfl
@[simp] theorem State.setLinks_supervision (s : State) (x : Vector Link 2) : (s.setLinks x).supervision = s.supervision := rfl
@[simp] theorem State.setLinks_activeSet (s : State) (x : Vector Link 2) : (s.setLinks x).activeSet = s.activeSet := rfl
@[simp] theorem State.setLinks_stagedSet (s : State) (x : Vector Link 2) : (s.setLinks x).stagedSet = s.stagedSet := rfl
@[simp] theorem State.setLinks_commit (s : State) (x : Vector Link 2) : (s.setLinks x).commit = s.commit := rfl
@[simp] theorem State.setLinks_frames (s : State) (x : Vector Link 2) : (s.setLinks x).frames = s.frames := rfl
@[simp] theorem State.setLinks_gauges (s : State) (x : Vector Link 2) : (s.setLinks x).gauges = s.gauges := rfl
@[simp] theorem State.setLinks_links (s : State) (x : Vector Link 2) : (s.setLinks x).links = x := rfl
@[simp] theorem State.setLinks_cracks (s : State) (x : Vector Link 2) : (s.setLinks x).cracks = s.cracks := rfl
@[simp] theorem State.setLinks_stopLine (s : State) (x : Vector Link 2) : (s.setLinks x).stopLine = s.stopLine := rfl
@[simp] theorem State.setLinks_zones (s : State) (x : Vector Link 2) : (s.setLinks x).zones = s.zones := rfl
@[simp] theorem State.setLinks_tagCounter (s : State) (x : Vector Link 2) : (s.setLinks x).tagCounter = s.tagCounter := rfl
@[simp] theorem State.setLinks_stopHold (s : State) (x : Vector Link 2) : (s.setLinks x).stopHold = s.stopHold := rfl
@[simp] theorem State.setLinks_queue (s : State) (x : Vector Link 2) : (s.setLinks x).queue = s.queue := rfl
@[simp] theorem State.setLinks_pending (s : State) (x : Vector Link 2) : (s.setLinks x).pending = s.pending := rfl

/-! ### setCracks -/

@[simp] theorem State.setCracks_stamp (s : State) (x : Vector Crack 16) : (s.setCracks x).stamp = s.stamp := rfl
@[simp] theorem State.setCracks_ports (s : State) (x : Vector Crack 16) : (s.setCracks x).ports = s.ports := rfl
@[simp] theorem State.setCracks_gen (s : State) (x : Vector Crack 16) : (s.setCracks x).gen = s.gen := rfl
@[simp] theorem State.setCracks_channels (s : State) (x : Vector Crack 16) : (s.setCracks x).channels = s.channels := rfl
@[simp] theorem State.setCracks_outputs (s : State) (x : Vector Crack 16) : (s.setCracks x).outputs = s.outputs := rfl
@[simp] theorem State.setCracks_supervision (s : State) (x : Vector Crack 16) : (s.setCracks x).supervision = s.supervision := rfl
@[simp] theorem State.setCracks_activeSet (s : State) (x : Vector Crack 16) : (s.setCracks x).activeSet = s.activeSet := rfl
@[simp] theorem State.setCracks_stagedSet (s : State) (x : Vector Crack 16) : (s.setCracks x).stagedSet = s.stagedSet := rfl
@[simp] theorem State.setCracks_commit (s : State) (x : Vector Crack 16) : (s.setCracks x).commit = s.commit := rfl
@[simp] theorem State.setCracks_frames (s : State) (x : Vector Crack 16) : (s.setCracks x).frames = s.frames := rfl
@[simp] theorem State.setCracks_gauges (s : State) (x : Vector Crack 16) : (s.setCracks x).gauges = s.gauges := rfl
@[simp] theorem State.setCracks_links (s : State) (x : Vector Crack 16) : (s.setCracks x).links = s.links := rfl
@[simp] theorem State.setCracks_cracks (s : State) (x : Vector Crack 16) : (s.setCracks x).cracks = x := rfl
@[simp] theorem State.setCracks_stopLine (s : State) (x : Vector Crack 16) : (s.setCracks x).stopLine = s.stopLine := rfl
@[simp] theorem State.setCracks_zones (s : State) (x : Vector Crack 16) : (s.setCracks x).zones = s.zones := rfl
@[simp] theorem State.setCracks_tagCounter (s : State) (x : Vector Crack 16) : (s.setCracks x).tagCounter = s.tagCounter := rfl
@[simp] theorem State.setCracks_stopHold (s : State) (x : Vector Crack 16) : (s.setCracks x).stopHold = s.stopHold := rfl
@[simp] theorem State.setCracks_queue (s : State) (x : Vector Crack 16) : (s.setCracks x).queue = s.queue := rfl
@[simp] theorem State.setCracks_pending (s : State) (x : Vector Crack 16) : (s.setCracks x).pending = s.pending := rfl

/-! ### setStopLine -/

@[simp] theorem State.setStopLine_stamp (s : State) (x : StopLine) : (s.setStopLine x).stamp = s.stamp := rfl
@[simp] theorem State.setStopLine_ports (s : State) (x : StopLine) : (s.setStopLine x).ports = s.ports := rfl
@[simp] theorem State.setStopLine_gen (s : State) (x : StopLine) : (s.setStopLine x).gen = s.gen := rfl
@[simp] theorem State.setStopLine_channels (s : State) (x : StopLine) : (s.setStopLine x).channels = s.channels := rfl
@[simp] theorem State.setStopLine_outputs (s : State) (x : StopLine) : (s.setStopLine x).outputs = s.outputs := rfl
@[simp] theorem State.setStopLine_supervision (s : State) (x : StopLine) : (s.setStopLine x).supervision = s.supervision := rfl
@[simp] theorem State.setStopLine_activeSet (s : State) (x : StopLine) : (s.setStopLine x).activeSet = s.activeSet := rfl
@[simp] theorem State.setStopLine_stagedSet (s : State) (x : StopLine) : (s.setStopLine x).stagedSet = s.stagedSet := rfl
@[simp] theorem State.setStopLine_commit (s : State) (x : StopLine) : (s.setStopLine x).commit = s.commit := rfl
@[simp] theorem State.setStopLine_frames (s : State) (x : StopLine) : (s.setStopLine x).frames = s.frames := rfl
@[simp] theorem State.setStopLine_gauges (s : State) (x : StopLine) : (s.setStopLine x).gauges = s.gauges := rfl
@[simp] theorem State.setStopLine_links (s : State) (x : StopLine) : (s.setStopLine x).links = s.links := rfl
@[simp] theorem State.setStopLine_cracks (s : State) (x : StopLine) : (s.setStopLine x).cracks = s.cracks := rfl
@[simp] theorem State.setStopLine_stopLine (s : State) (x : StopLine) : (s.setStopLine x).stopLine = x := rfl
@[simp] theorem State.setStopLine_zones (s : State) (x : StopLine) : (s.setStopLine x).zones = s.zones := rfl
@[simp] theorem State.setStopLine_tagCounter (s : State) (x : StopLine) : (s.setStopLine x).tagCounter = s.tagCounter := rfl
@[simp] theorem State.setStopLine_stopHold (s : State) (x : StopLine) : (s.setStopLine x).stopHold = s.stopHold := rfl
@[simp] theorem State.setStopLine_queue (s : State) (x : StopLine) : (s.setStopLine x).queue = s.queue := rfl
@[simp] theorem State.setStopLine_pending (s : State) (x : StopLine) : (s.setStopLine x).pending = s.pending := rfl

/-! ### setZones -/

@[simp] theorem State.setZones_stamp (s : State) (x : Vector Zone 4) : (s.setZones x).stamp = s.stamp := rfl
@[simp] theorem State.setZones_ports (s : State) (x : Vector Zone 4) : (s.setZones x).ports = s.ports := rfl
@[simp] theorem State.setZones_gen (s : State) (x : Vector Zone 4) : (s.setZones x).gen = s.gen := rfl
@[simp] theorem State.setZones_channels (s : State) (x : Vector Zone 4) : (s.setZones x).channels = s.channels := rfl
@[simp] theorem State.setZones_outputs (s : State) (x : Vector Zone 4) : (s.setZones x).outputs = s.outputs := rfl
@[simp] theorem State.setZones_supervision (s : State) (x : Vector Zone 4) : (s.setZones x).supervision = s.supervision := rfl
@[simp] theorem State.setZones_activeSet (s : State) (x : Vector Zone 4) : (s.setZones x).activeSet = s.activeSet := rfl
@[simp] theorem State.setZones_stagedSet (s : State) (x : Vector Zone 4) : (s.setZones x).stagedSet = s.stagedSet := rfl
@[simp] theorem State.setZones_commit (s : State) (x : Vector Zone 4) : (s.setZones x).commit = s.commit := rfl
@[simp] theorem State.setZones_frames (s : State) (x : Vector Zone 4) : (s.setZones x).frames = s.frames := rfl
@[simp] theorem State.setZones_gauges (s : State) (x : Vector Zone 4) : (s.setZones x).gauges = s.gauges := rfl
@[simp] theorem State.setZones_links (s : State) (x : Vector Zone 4) : (s.setZones x).links = s.links := rfl
@[simp] theorem State.setZones_cracks (s : State) (x : Vector Zone 4) : (s.setZones x).cracks = s.cracks := rfl
@[simp] theorem State.setZones_stopLine (s : State) (x : Vector Zone 4) : (s.setZones x).stopLine = s.stopLine := rfl
@[simp] theorem State.setZones_zones (s : State) (x : Vector Zone 4) : (s.setZones x).zones = x := rfl
@[simp] theorem State.setZones_tagCounter (s : State) (x : Vector Zone 4) : (s.setZones x).tagCounter = s.tagCounter := rfl
@[simp] theorem State.setZones_stopHold (s : State) (x : Vector Zone 4) : (s.setZones x).stopHold = s.stopHold := rfl
@[simp] theorem State.setZones_queue (s : State) (x : Vector Zone 4) : (s.setZones x).queue = s.queue := rfl
@[simp] theorem State.setZones_pending (s : State) (x : Vector Zone 4) : (s.setZones x).pending = s.pending := rfl

/-! ### setTagCounter -/

@[simp] theorem State.setTagCounter_stamp (s : State) (x : Half) : (s.setTagCounter x).stamp = s.stamp := rfl
@[simp] theorem State.setTagCounter_ports (s : State) (x : Half) : (s.setTagCounter x).ports = s.ports := rfl
@[simp] theorem State.setTagCounter_gen (s : State) (x : Half) : (s.setTagCounter x).gen = s.gen := rfl
@[simp] theorem State.setTagCounter_channels (s : State) (x : Half) : (s.setTagCounter x).channels = s.channels := rfl
@[simp] theorem State.setTagCounter_outputs (s : State) (x : Half) : (s.setTagCounter x).outputs = s.outputs := rfl
@[simp] theorem State.setTagCounter_supervision (s : State) (x : Half) : (s.setTagCounter x).supervision = s.supervision := rfl
@[simp] theorem State.setTagCounter_activeSet (s : State) (x : Half) : (s.setTagCounter x).activeSet = s.activeSet := rfl
@[simp] theorem State.setTagCounter_stagedSet (s : State) (x : Half) : (s.setTagCounter x).stagedSet = s.stagedSet := rfl
@[simp] theorem State.setTagCounter_commit (s : State) (x : Half) : (s.setTagCounter x).commit = s.commit := rfl
@[simp] theorem State.setTagCounter_frames (s : State) (x : Half) : (s.setTagCounter x).frames = s.frames := rfl
@[simp] theorem State.setTagCounter_gauges (s : State) (x : Half) : (s.setTagCounter x).gauges = s.gauges := rfl
@[simp] theorem State.setTagCounter_links (s : State) (x : Half) : (s.setTagCounter x).links = s.links := rfl
@[simp] theorem State.setTagCounter_cracks (s : State) (x : Half) : (s.setTagCounter x).cracks = s.cracks := rfl
@[simp] theorem State.setTagCounter_stopLine (s : State) (x : Half) : (s.setTagCounter x).stopLine = s.stopLine := rfl
@[simp] theorem State.setTagCounter_zones (s : State) (x : Half) : (s.setTagCounter x).zones = s.zones := rfl
@[simp] theorem State.setTagCounter_tagCounter (s : State) (x : Half) : (s.setTagCounter x).tagCounter = x := rfl
@[simp] theorem State.setTagCounter_stopHold (s : State) (x : Half) : (s.setTagCounter x).stopHold = s.stopHold := rfl
@[simp] theorem State.setTagCounter_queue (s : State) (x : Half) : (s.setTagCounter x).queue = s.queue := rfl
@[simp] theorem State.setTagCounter_pending (s : State) (x : Half) : (s.setTagCounter x).pending = s.pending := rfl

/-! ### setStopHold -/

@[simp] theorem State.setStopHold_stamp (s : State) (x : Bool) : (s.setStopHold x).stamp = s.stamp := rfl
@[simp] theorem State.setStopHold_ports (s : State) (x : Bool) : (s.setStopHold x).ports = s.ports := rfl
@[simp] theorem State.setStopHold_gen (s : State) (x : Bool) : (s.setStopHold x).gen = s.gen := rfl
@[simp] theorem State.setStopHold_channels (s : State) (x : Bool) : (s.setStopHold x).channels = s.channels := rfl
@[simp] theorem State.setStopHold_outputs (s : State) (x : Bool) : (s.setStopHold x).outputs = s.outputs := rfl
@[simp] theorem State.setStopHold_supervision (s : State) (x : Bool) : (s.setStopHold x).supervision = s.supervision := rfl
@[simp] theorem State.setStopHold_activeSet (s : State) (x : Bool) : (s.setStopHold x).activeSet = s.activeSet := rfl
@[simp] theorem State.setStopHold_stagedSet (s : State) (x : Bool) : (s.setStopHold x).stagedSet = s.stagedSet := rfl
@[simp] theorem State.setStopHold_commit (s : State) (x : Bool) : (s.setStopHold x).commit = s.commit := rfl
@[simp] theorem State.setStopHold_frames (s : State) (x : Bool) : (s.setStopHold x).frames = s.frames := rfl
@[simp] theorem State.setStopHold_gauges (s : State) (x : Bool) : (s.setStopHold x).gauges = s.gauges := rfl
@[simp] theorem State.setStopHold_links (s : State) (x : Bool) : (s.setStopHold x).links = s.links := rfl
@[simp] theorem State.setStopHold_cracks (s : State) (x : Bool) : (s.setStopHold x).cracks = s.cracks := rfl
@[simp] theorem State.setStopHold_stopLine (s : State) (x : Bool) : (s.setStopHold x).stopLine = s.stopLine := rfl
@[simp] theorem State.setStopHold_zones (s : State) (x : Bool) : (s.setStopHold x).zones = s.zones := rfl
@[simp] theorem State.setStopHold_tagCounter (s : State) (x : Bool) : (s.setStopHold x).tagCounter = s.tagCounter := rfl
@[simp] theorem State.setStopHold_stopHold (s : State) (x : Bool) : (s.setStopHold x).stopHold = x := rfl
@[simp] theorem State.setStopHold_queue (s : State) (x : Bool) : (s.setStopHold x).queue = s.queue := rfl
@[simp] theorem State.setStopHold_pending (s : State) (x : Bool) : (s.setStopHold x).pending = s.pending := rfl

/-! ### setQueue -/

@[simp] theorem State.setQueue_stamp (s : State) (x : Queue) : (s.setQueue x).stamp = s.stamp := rfl
@[simp] theorem State.setQueue_ports (s : State) (x : Queue) : (s.setQueue x).ports = s.ports := rfl
@[simp] theorem State.setQueue_gen (s : State) (x : Queue) : (s.setQueue x).gen = s.gen := rfl
@[simp] theorem State.setQueue_channels (s : State) (x : Queue) : (s.setQueue x).channels = s.channels := rfl
@[simp] theorem State.setQueue_outputs (s : State) (x : Queue) : (s.setQueue x).outputs = s.outputs := rfl
@[simp] theorem State.setQueue_supervision (s : State) (x : Queue) : (s.setQueue x).supervision = s.supervision := rfl
@[simp] theorem State.setQueue_activeSet (s : State) (x : Queue) : (s.setQueue x).activeSet = s.activeSet := rfl
@[simp] theorem State.setQueue_stagedSet (s : State) (x : Queue) : (s.setQueue x).stagedSet = s.stagedSet := rfl
@[simp] theorem State.setQueue_commit (s : State) (x : Queue) : (s.setQueue x).commit = s.commit := rfl
@[simp] theorem State.setQueue_frames (s : State) (x : Queue) : (s.setQueue x).frames = s.frames := rfl
@[simp] theorem State.setQueue_gauges (s : State) (x : Queue) : (s.setQueue x).gauges = s.gauges := rfl
@[simp] theorem State.setQueue_links (s : State) (x : Queue) : (s.setQueue x).links = s.links := rfl
@[simp] theorem State.setQueue_cracks (s : State) (x : Queue) : (s.setQueue x).cracks = s.cracks := rfl
@[simp] theorem State.setQueue_stopLine (s : State) (x : Queue) : (s.setQueue x).stopLine = s.stopLine := rfl
@[simp] theorem State.setQueue_zones (s : State) (x : Queue) : (s.setQueue x).zones = s.zones := rfl
@[simp] theorem State.setQueue_tagCounter (s : State) (x : Queue) : (s.setQueue x).tagCounter = s.tagCounter := rfl
@[simp] theorem State.setQueue_stopHold (s : State) (x : Queue) : (s.setQueue x).stopHold = s.stopHold := rfl
@[simp] theorem State.setQueue_queue (s : State) (x : Queue) : (s.setQueue x).queue = x := rfl
@[simp] theorem State.setQueue_pending (s : State) (x : Queue) : (s.setQueue x).pending = s.pending := rfl

/-! ### setPending -/

@[simp] theorem State.setPending_stamp (s : State) (x : List Instr) : (s.setPending x).stamp = s.stamp := rfl
@[simp] theorem State.setPending_ports (s : State) (x : List Instr) : (s.setPending x).ports = s.ports := rfl
@[simp] theorem State.setPending_gen (s : State) (x : List Instr) : (s.setPending x).gen = s.gen := rfl
@[simp] theorem State.setPending_channels (s : State) (x : List Instr) : (s.setPending x).channels = s.channels := rfl
@[simp] theorem State.setPending_outputs (s : State) (x : List Instr) : (s.setPending x).outputs = s.outputs := rfl
@[simp] theorem State.setPending_supervision (s : State) (x : List Instr) : (s.setPending x).supervision = s.supervision := rfl
@[simp] theorem State.setPending_activeSet (s : State) (x : List Instr) : (s.setPending x).activeSet = s.activeSet := rfl
@[simp] theorem State.setPending_stagedSet (s : State) (x : List Instr) : (s.setPending x).stagedSet = s.stagedSet := rfl
@[simp] theorem State.setPending_commit (s : State) (x : List Instr) : (s.setPending x).commit = s.commit := rfl
@[simp] theorem State.setPending_frames (s : State) (x : List Instr) : (s.setPending x).frames = s.frames := rfl
@[simp] theorem State.setPending_gauges (s : State) (x : List Instr) : (s.setPending x).gauges = s.gauges := rfl
@[simp] theorem State.setPending_links (s : State) (x : List Instr) : (s.setPending x).links = s.links := rfl
@[simp] theorem State.setPending_cracks (s : State) (x : List Instr) : (s.setPending x).cracks = s.cracks := rfl
@[simp] theorem State.setPending_stopLine (s : State) (x : List Instr) : (s.setPending x).stopLine = s.stopLine := rfl
@[simp] theorem State.setPending_zones (s : State) (x : List Instr) : (s.setPending x).zones = s.zones := rfl
@[simp] theorem State.setPending_tagCounter (s : State) (x : List Instr) : (s.setPending x).tagCounter = s.tagCounter := rfl
@[simp] theorem State.setPending_stopHold (s : State) (x : List Instr) : (s.setPending x).stopHold = s.stopHold := rfl
@[simp] theorem State.setPending_queue (s : State) (x : List Instr) : (s.setPending x).queue = s.queue := rfl
@[simp] theorem State.setPending_pending (s : State) (x : List Instr) : (s.setPending x).pending = x := rfl

/-! ### Changing one record of a table -/

theorem portIndex_inj (p q : PortId) : portIndex p = portIndex q ↔ p = q := by
  cases p <;> cases q <;> simp [portIndex, Fin.ext_iff] <;> omega

@[simp] theorem State.updPort_stamp (s : State) (p : PortId) (f : Port → Port) : (s.updPort p f).stamp = s.stamp := rfl
@[simp] theorem State.updPort_gen (s : State) (p : PortId) (f : Port → Port) : (s.updPort p f).gen = s.gen := rfl
@[simp] theorem State.updPort_channels (s : State) (p : PortId) (f : Port → Port) : (s.updPort p f).channels = s.channels := rfl
@[simp] theorem State.updPort_outputs (s : State) (p : PortId) (f : Port → Port) : (s.updPort p f).outputs = s.outputs := rfl
@[simp] theorem State.updPort_supervision (s : State) (p : PortId) (f : Port → Port) : (s.updPort p f).supervision = s.supervision := rfl
@[simp] theorem State.updPort_activeSet (s : State) (p : PortId) (f : Port → Port) : (s.updPort p f).activeSet = s.activeSet := rfl
@[simp] theorem State.updPort_stagedSet (s : State) (p : PortId) (f : Port → Port) : (s.updPort p f).stagedSet = s.stagedSet := rfl
@[simp] theorem State.updPort_commit (s : State) (p : PortId) (f : Port → Port) : (s.updPort p f).commit = s.commit := rfl
@[simp] theorem State.updPort_frames (s : State) (p : PortId) (f : Port → Port) : (s.updPort p f).frames = s.frames := rfl
@[simp] theorem State.updPort_gauges (s : State) (p : PortId) (f : Port → Port) : (s.updPort p f).gauges = s.gauges := rfl
@[simp] theorem State.updPort_links (s : State) (p : PortId) (f : Port → Port) : (s.updPort p f).links = s.links := rfl
@[simp] theorem State.updPort_cracks (s : State) (p : PortId) (f : Port → Port) : (s.updPort p f).cracks = s.cracks := rfl
@[simp] theorem State.updPort_stopLine (s : State) (p : PortId) (f : Port → Port) : (s.updPort p f).stopLine = s.stopLine := rfl
@[simp] theorem State.updPort_zones (s : State) (p : PortId) (f : Port → Port) : (s.updPort p f).zones = s.zones := rfl
@[simp] theorem State.updPort_tagCounter (s : State) (p : PortId) (f : Port → Port) : (s.updPort p f).tagCounter = s.tagCounter := rfl
@[simp] theorem State.updPort_stopHold (s : State) (p : PortId) (f : Port → Port) : (s.updPort p f).stopHold = s.stopHold := rfl
@[simp] theorem State.updPort_queue (s : State) (p : PortId) (f : Port → Port) : (s.updPort p f).queue = s.queue := rfl
@[simp] theorem State.updPort_pending (s : State) (p : PortId) (f : Port → Port) : (s.updPort p f).pending = s.pending := rfl

theorem State.updPort_get (s : State) (p q : PortId) (f : Port → Port) :
    (s.updPort p f).ports[portIndex q] = if p = q then f s.ports[portIndex p] else s.ports[portIndex q] := by
  by_cases h : p = q
  · subst h
    simp [State.updPort]
  · have h' : (portIndex p : Fin _).val ≠ (portIndex q : Fin _).val := fun e => h ((portIndex_inj _ _).mp (Fin.ext e))
    simp [State.updPort, h, Vector.getElem_set_ne _ _ h']

theorem State.updPort_getElem (s : State) (p q : PortId) (f : Port → Port) :
    (s.updPort p f).ports[(portIndex q).val] = if p = q then f s.ports[portIndex p] else s.ports[portIndex q] :=
  State.updPort_get s p q f

@[simp] theorem State.updPort_same (s : State) (p : PortId) (f : Port → Port) :
    (s.updPort p f).ports[(portIndex p).val] = f s.ports[portIndex p] := by
  rw [State.updPort_getElem, if_pos rfl]

theorem State.updPort_other (s : State) (p q : PortId) (f : Port → Port) (h : p ≠ q) :
    (s.updPort p f).ports[(portIndex q).val] = s.ports[portIndex q] := by
  rw [State.updPort_getElem, if_neg h]

@[simp] theorem State.updSupervision_stamp (s : State) (c : Fin 8) (f : Supervision → Supervision) : (s.updSupervision c f).stamp = s.stamp := rfl
@[simp] theorem State.updSupervision_ports (s : State) (c : Fin 8) (f : Supervision → Supervision) : (s.updSupervision c f).ports = s.ports := rfl
@[simp] theorem State.updSupervision_gen (s : State) (c : Fin 8) (f : Supervision → Supervision) : (s.updSupervision c f).gen = s.gen := rfl
@[simp] theorem State.updSupervision_channels (s : State) (c : Fin 8) (f : Supervision → Supervision) : (s.updSupervision c f).channels = s.channels := rfl
@[simp] theorem State.updSupervision_outputs (s : State) (c : Fin 8) (f : Supervision → Supervision) : (s.updSupervision c f).outputs = s.outputs := rfl
@[simp] theorem State.updSupervision_activeSet (s : State) (c : Fin 8) (f : Supervision → Supervision) : (s.updSupervision c f).activeSet = s.activeSet := rfl
@[simp] theorem State.updSupervision_stagedSet (s : State) (c : Fin 8) (f : Supervision → Supervision) : (s.updSupervision c f).stagedSet = s.stagedSet := rfl
@[simp] theorem State.updSupervision_commit (s : State) (c : Fin 8) (f : Supervision → Supervision) : (s.updSupervision c f).commit = s.commit := rfl
@[simp] theorem State.updSupervision_frames (s : State) (c : Fin 8) (f : Supervision → Supervision) : (s.updSupervision c f).frames = s.frames := rfl
@[simp] theorem State.updSupervision_gauges (s : State) (c : Fin 8) (f : Supervision → Supervision) : (s.updSupervision c f).gauges = s.gauges := rfl
@[simp] theorem State.updSupervision_links (s : State) (c : Fin 8) (f : Supervision → Supervision) : (s.updSupervision c f).links = s.links := rfl
@[simp] theorem State.updSupervision_cracks (s : State) (c : Fin 8) (f : Supervision → Supervision) : (s.updSupervision c f).cracks = s.cracks := rfl
@[simp] theorem State.updSupervision_stopLine (s : State) (c : Fin 8) (f : Supervision → Supervision) : (s.updSupervision c f).stopLine = s.stopLine := rfl
@[simp] theorem State.updSupervision_zones (s : State) (c : Fin 8) (f : Supervision → Supervision) : (s.updSupervision c f).zones = s.zones := rfl
@[simp] theorem State.updSupervision_tagCounter (s : State) (c : Fin 8) (f : Supervision → Supervision) : (s.updSupervision c f).tagCounter = s.tagCounter := rfl
@[simp] theorem State.updSupervision_stopHold (s : State) (c : Fin 8) (f : Supervision → Supervision) : (s.updSupervision c f).stopHold = s.stopHold := rfl
@[simp] theorem State.updSupervision_queue (s : State) (c : Fin 8) (f : Supervision → Supervision) : (s.updSupervision c f).queue = s.queue := rfl
@[simp] theorem State.updSupervision_pending (s : State) (c : Fin 8) (f : Supervision → Supervision) : (s.updSupervision c f).pending = s.pending := rfl

theorem State.updSupervision_get (s : State) (c d : Fin 8) (f : Supervision → Supervision) :
    (s.updSupervision c f).supervision[d] = if c = d then f s.supervision[c] else s.supervision[d] := by
  by_cases h : c = d
  · subst h
    simp [State.updSupervision]
  · have h' : (c : Fin _).val ≠ (d : Fin _).val := fun e => h (Fin.ext e)
    simp [State.updSupervision, h, Vector.getElem_set_ne _ _ h']

theorem State.updSupervision_getElem (s : State) (c d : Fin 8) (f : Supervision → Supervision) :
    (s.updSupervision c f).supervision[(d).val] = if c = d then f s.supervision[c] else s.supervision[d] :=
  State.updSupervision_get s c d f

@[simp] theorem State.updSupervision_same (s : State) (c : Fin 8) (f : Supervision → Supervision) :
    (s.updSupervision c f).supervision[(c).val] = f s.supervision[c] := by
  rw [State.updSupervision_getElem, if_pos rfl]

theorem State.updSupervision_other (s : State) (c d : Fin 8) (f : Supervision → Supervision) (h : c ≠ d) :
    (s.updSupervision c f).supervision[(d).val] = s.supervision[d] := by
  rw [State.updSupervision_getElem, if_neg h]

@[simp] theorem State.updFrame_stamp (s : State) (i : Fin 4) (f : FrameRec → FrameRec) : (s.updFrame i f).stamp = s.stamp := rfl
@[simp] theorem State.updFrame_ports (s : State) (i : Fin 4) (f : FrameRec → FrameRec) : (s.updFrame i f).ports = s.ports := rfl
@[simp] theorem State.updFrame_gen (s : State) (i : Fin 4) (f : FrameRec → FrameRec) : (s.updFrame i f).gen = s.gen := rfl
@[simp] theorem State.updFrame_channels (s : State) (i : Fin 4) (f : FrameRec → FrameRec) : (s.updFrame i f).channels = s.channels := rfl
@[simp] theorem State.updFrame_outputs (s : State) (i : Fin 4) (f : FrameRec → FrameRec) : (s.updFrame i f).outputs = s.outputs := rfl
@[simp] theorem State.updFrame_supervision (s : State) (i : Fin 4) (f : FrameRec → FrameRec) : (s.updFrame i f).supervision = s.supervision := rfl
@[simp] theorem State.updFrame_activeSet (s : State) (i : Fin 4) (f : FrameRec → FrameRec) : (s.updFrame i f).activeSet = s.activeSet := rfl
@[simp] theorem State.updFrame_stagedSet (s : State) (i : Fin 4) (f : FrameRec → FrameRec) : (s.updFrame i f).stagedSet = s.stagedSet := rfl
@[simp] theorem State.updFrame_commit (s : State) (i : Fin 4) (f : FrameRec → FrameRec) : (s.updFrame i f).commit = s.commit := rfl
@[simp] theorem State.updFrame_gauges (s : State) (i : Fin 4) (f : FrameRec → FrameRec) : (s.updFrame i f).gauges = s.gauges := rfl
@[simp] theorem State.updFrame_links (s : State) (i : Fin 4) (f : FrameRec → FrameRec) : (s.updFrame i f).links = s.links := rfl
@[simp] theorem State.updFrame_cracks (s : State) (i : Fin 4) (f : FrameRec → FrameRec) : (s.updFrame i f).cracks = s.cracks := rfl
@[simp] theorem State.updFrame_stopLine (s : State) (i : Fin 4) (f : FrameRec → FrameRec) : (s.updFrame i f).stopLine = s.stopLine := rfl
@[simp] theorem State.updFrame_zones (s : State) (i : Fin 4) (f : FrameRec → FrameRec) : (s.updFrame i f).zones = s.zones := rfl
@[simp] theorem State.updFrame_tagCounter (s : State) (i : Fin 4) (f : FrameRec → FrameRec) : (s.updFrame i f).tagCounter = s.tagCounter := rfl
@[simp] theorem State.updFrame_stopHold (s : State) (i : Fin 4) (f : FrameRec → FrameRec) : (s.updFrame i f).stopHold = s.stopHold := rfl
@[simp] theorem State.updFrame_queue (s : State) (i : Fin 4) (f : FrameRec → FrameRec) : (s.updFrame i f).queue = s.queue := rfl
@[simp] theorem State.updFrame_pending (s : State) (i : Fin 4) (f : FrameRec → FrameRec) : (s.updFrame i f).pending = s.pending := rfl

theorem State.updFrame_get (s : State) (i j : Fin 4) (f : FrameRec → FrameRec) :
    (s.updFrame i f).frames[j] = if i = j then f s.frames[i] else s.frames[j] := by
  by_cases h : i = j
  · subst h
    simp [State.updFrame]
  · have h' : (i : Fin _).val ≠ (j : Fin _).val := fun e => h (Fin.ext e)
    simp [State.updFrame, h, Vector.getElem_set_ne _ _ h']

theorem State.updFrame_getElem (s : State) (i j : Fin 4) (f : FrameRec → FrameRec) :
    (s.updFrame i f).frames[(j).val] = if i = j then f s.frames[i] else s.frames[j] :=
  State.updFrame_get s i j f

@[simp] theorem State.updFrame_same (s : State) (i : Fin 4) (f : FrameRec → FrameRec) :
    (s.updFrame i f).frames[(i).val] = f s.frames[i] := by
  rw [State.updFrame_getElem, if_pos rfl]

theorem State.updFrame_other (s : State) (i j : Fin 4) (f : FrameRec → FrameRec) (h : i ≠ j) :
    (s.updFrame i f).frames[(j).val] = s.frames[j] := by
  rw [State.updFrame_getElem, if_neg h]

@[simp] theorem State.updCrack_stamp (s : State) (i : Fin 16) (f : Crack → Crack) : (s.updCrack i f).stamp = s.stamp := rfl
@[simp] theorem State.updCrack_ports (s : State) (i : Fin 16) (f : Crack → Crack) : (s.updCrack i f).ports = s.ports := rfl
@[simp] theorem State.updCrack_gen (s : State) (i : Fin 16) (f : Crack → Crack) : (s.updCrack i f).gen = s.gen := rfl
@[simp] theorem State.updCrack_channels (s : State) (i : Fin 16) (f : Crack → Crack) : (s.updCrack i f).channels = s.channels := rfl
@[simp] theorem State.updCrack_outputs (s : State) (i : Fin 16) (f : Crack → Crack) : (s.updCrack i f).outputs = s.outputs := rfl
@[simp] theorem State.updCrack_supervision (s : State) (i : Fin 16) (f : Crack → Crack) : (s.updCrack i f).supervision = s.supervision := rfl
@[simp] theorem State.updCrack_activeSet (s : State) (i : Fin 16) (f : Crack → Crack) : (s.updCrack i f).activeSet = s.activeSet := rfl
@[simp] theorem State.updCrack_stagedSet (s : State) (i : Fin 16) (f : Crack → Crack) : (s.updCrack i f).stagedSet = s.stagedSet := rfl
@[simp] theorem State.updCrack_commit (s : State) (i : Fin 16) (f : Crack → Crack) : (s.updCrack i f).commit = s.commit := rfl
@[simp] theorem State.updCrack_frames (s : State) (i : Fin 16) (f : Crack → Crack) : (s.updCrack i f).frames = s.frames := rfl
@[simp] theorem State.updCrack_gauges (s : State) (i : Fin 16) (f : Crack → Crack) : (s.updCrack i f).gauges = s.gauges := rfl
@[simp] theorem State.updCrack_links (s : State) (i : Fin 16) (f : Crack → Crack) : (s.updCrack i f).links = s.links := rfl
@[simp] theorem State.updCrack_stopLine (s : State) (i : Fin 16) (f : Crack → Crack) : (s.updCrack i f).stopLine = s.stopLine := rfl
@[simp] theorem State.updCrack_zones (s : State) (i : Fin 16) (f : Crack → Crack) : (s.updCrack i f).zones = s.zones := rfl
@[simp] theorem State.updCrack_tagCounter (s : State) (i : Fin 16) (f : Crack → Crack) : (s.updCrack i f).tagCounter = s.tagCounter := rfl
@[simp] theorem State.updCrack_stopHold (s : State) (i : Fin 16) (f : Crack → Crack) : (s.updCrack i f).stopHold = s.stopHold := rfl
@[simp] theorem State.updCrack_queue (s : State) (i : Fin 16) (f : Crack → Crack) : (s.updCrack i f).queue = s.queue := rfl
@[simp] theorem State.updCrack_pending (s : State) (i : Fin 16) (f : Crack → Crack) : (s.updCrack i f).pending = s.pending := rfl

theorem State.updCrack_get (s : State) (i j : Fin 16) (f : Crack → Crack) :
    (s.updCrack i f).cracks[j] = if i = j then f s.cracks[i] else s.cracks[j] := by
  by_cases h : i = j
  · subst h
    simp [State.updCrack]
  · have h' : (i : Fin _).val ≠ (j : Fin _).val := fun e => h (Fin.ext e)
    simp [State.updCrack, h, Vector.getElem_set_ne _ _ h']

theorem State.updCrack_getElem (s : State) (i j : Fin 16) (f : Crack → Crack) :
    (s.updCrack i f).cracks[(j).val] = if i = j then f s.cracks[i] else s.cracks[j] :=
  State.updCrack_get s i j f

@[simp] theorem State.updCrack_same (s : State) (i : Fin 16) (f : Crack → Crack) :
    (s.updCrack i f).cracks[(i).val] = f s.cracks[i] := by
  rw [State.updCrack_getElem, if_pos rfl]

theorem State.updCrack_other (s : State) (i j : Fin 16) (f : Crack → Crack) (h : i ≠ j) :
    (s.updCrack i f).cracks[(j).val] = s.cracks[j] := by
  rw [State.updCrack_getElem, if_neg h]

@[simp] theorem State.updZone_stamp (s : State) (z : Fin 4) (f : Zone → Zone) : (s.updZone z f).stamp = s.stamp := rfl
@[simp] theorem State.updZone_ports (s : State) (z : Fin 4) (f : Zone → Zone) : (s.updZone z f).ports = s.ports := rfl
@[simp] theorem State.updZone_gen (s : State) (z : Fin 4) (f : Zone → Zone) : (s.updZone z f).gen = s.gen := rfl
@[simp] theorem State.updZone_channels (s : State) (z : Fin 4) (f : Zone → Zone) : (s.updZone z f).channels = s.channels := rfl
@[simp] theorem State.updZone_outputs (s : State) (z : Fin 4) (f : Zone → Zone) : (s.updZone z f).outputs = s.outputs := rfl
@[simp] theorem State.updZone_supervision (s : State) (z : Fin 4) (f : Zone → Zone) : (s.updZone z f).supervision = s.supervision := rfl
@[simp] theorem State.updZone_activeSet (s : State) (z : Fin 4) (f : Zone → Zone) : (s.updZone z f).activeSet = s.activeSet := rfl
@[simp] theorem State.updZone_stagedSet (s : State) (z : Fin 4) (f : Zone → Zone) : (s.updZone z f).stagedSet = s.stagedSet := rfl
@[simp] theorem State.updZone_commit (s : State) (z : Fin 4) (f : Zone → Zone) : (s.updZone z f).commit = s.commit := rfl
@[simp] theorem State.updZone_frames (s : State) (z : Fin 4) (f : Zone → Zone) : (s.updZone z f).frames = s.frames := rfl
@[simp] theorem State.updZone_gauges (s : State) (z : Fin 4) (f : Zone → Zone) : (s.updZone z f).gauges = s.gauges := rfl
@[simp] theorem State.updZone_links (s : State) (z : Fin 4) (f : Zone → Zone) : (s.updZone z f).links = s.links := rfl
@[simp] theorem State.updZone_cracks (s : State) (z : Fin 4) (f : Zone → Zone) : (s.updZone z f).cracks = s.cracks := rfl
@[simp] theorem State.updZone_stopLine (s : State) (z : Fin 4) (f : Zone → Zone) : (s.updZone z f).stopLine = s.stopLine := rfl
@[simp] theorem State.updZone_tagCounter (s : State) (z : Fin 4) (f : Zone → Zone) : (s.updZone z f).tagCounter = s.tagCounter := rfl
@[simp] theorem State.updZone_stopHold (s : State) (z : Fin 4) (f : Zone → Zone) : (s.updZone z f).stopHold = s.stopHold := rfl
@[simp] theorem State.updZone_queue (s : State) (z : Fin 4) (f : Zone → Zone) : (s.updZone z f).queue = s.queue := rfl
@[simp] theorem State.updZone_pending (s : State) (z : Fin 4) (f : Zone → Zone) : (s.updZone z f).pending = s.pending := rfl

theorem State.updZone_get (s : State) (z y : Fin 4) (f : Zone → Zone) :
    (s.updZone z f).zones[y] = if z = y then f s.zones[z] else s.zones[y] := by
  by_cases h : z = y
  · subst h
    simp [State.updZone]
  · have h' : (z : Fin _).val ≠ (y : Fin _).val := fun e => h (Fin.ext e)
    simp [State.updZone, h, Vector.getElem_set_ne _ _ h']

theorem State.updZone_getElem (s : State) (z y : Fin 4) (f : Zone → Zone) :
    (s.updZone z f).zones[(y).val] = if z = y then f s.zones[z] else s.zones[y] :=
  State.updZone_get s z y f

@[simp] theorem State.updZone_same (s : State) (z : Fin 4) (f : Zone → Zone) :
    (s.updZone z f).zones[(z).val] = f s.zones[z] := by
  rw [State.updZone_getElem, if_pos rfl]

theorem State.updZone_other (s : State) (z y : Fin 4) (f : Zone → Zone) (h : z ≠ y) :
    (s.updZone z f).zones[(y).val] = s.zones[y] := by
  rw [State.updZone_getElem, if_neg h]

@[simp] theorem State.updLink_stamp (s : State) (l : Fin 2) (f : Link → Link) : (s.updLink l f).stamp = s.stamp := rfl
@[simp] theorem State.updLink_ports (s : State) (l : Fin 2) (f : Link → Link) : (s.updLink l f).ports = s.ports := rfl
@[simp] theorem State.updLink_gen (s : State) (l : Fin 2) (f : Link → Link) : (s.updLink l f).gen = s.gen := rfl
@[simp] theorem State.updLink_channels (s : State) (l : Fin 2) (f : Link → Link) : (s.updLink l f).channels = s.channels := rfl
@[simp] theorem State.updLink_outputs (s : State) (l : Fin 2) (f : Link → Link) : (s.updLink l f).outputs = s.outputs := rfl
@[simp] theorem State.updLink_supervision (s : State) (l : Fin 2) (f : Link → Link) : (s.updLink l f).supervision = s.supervision := rfl
@[simp] theorem State.updLink_activeSet (s : State) (l : Fin 2) (f : Link → Link) : (s.updLink l f).activeSet = s.activeSet := rfl
@[simp] theorem State.updLink_stagedSet (s : State) (l : Fin 2) (f : Link → Link) : (s.updLink l f).stagedSet = s.stagedSet := rfl
@[simp] theorem State.updLink_commit (s : State) (l : Fin 2) (f : Link → Link) : (s.updLink l f).commit = s.commit := rfl
@[simp] theorem State.updLink_frames (s : State) (l : Fin 2) (f : Link → Link) : (s.updLink l f).frames = s.frames := rfl
@[simp] theorem State.updLink_gauges (s : State) (l : Fin 2) (f : Link → Link) : (s.updLink l f).gauges = s.gauges := rfl
@[simp] theorem State.updLink_cracks (s : State) (l : Fin 2) (f : Link → Link) : (s.updLink l f).cracks = s.cracks := rfl
@[simp] theorem State.updLink_stopLine (s : State) (l : Fin 2) (f : Link → Link) : (s.updLink l f).stopLine = s.stopLine := rfl
@[simp] theorem State.updLink_zones (s : State) (l : Fin 2) (f : Link → Link) : (s.updLink l f).zones = s.zones := rfl
@[simp] theorem State.updLink_tagCounter (s : State) (l : Fin 2) (f : Link → Link) : (s.updLink l f).tagCounter = s.tagCounter := rfl
@[simp] theorem State.updLink_stopHold (s : State) (l : Fin 2) (f : Link → Link) : (s.updLink l f).stopHold = s.stopHold := rfl
@[simp] theorem State.updLink_queue (s : State) (l : Fin 2) (f : Link → Link) : (s.updLink l f).queue = s.queue := rfl
@[simp] theorem State.updLink_pending (s : State) (l : Fin 2) (f : Link → Link) : (s.updLink l f).pending = s.pending := rfl

theorem State.updLink_get (s : State) (l m : Fin 2) (f : Link → Link) :
    (s.updLink l f).links[m] = if l = m then f s.links[l] else s.links[m] := by
  by_cases h : l = m
  · subst h
    simp [State.updLink]
  · have h' : (l : Fin _).val ≠ (m : Fin _).val := fun e => h (Fin.ext e)
    simp [State.updLink, h, Vector.getElem_set_ne _ _ h']

theorem State.updLink_getElem (s : State) (l m : Fin 2) (f : Link → Link) :
    (s.updLink l f).links[(m).val] = if l = m then f s.links[l] else s.links[m] :=
  State.updLink_get s l m f

@[simp] theorem State.updLink_same (s : State) (l : Fin 2) (f : Link → Link) :
    (s.updLink l f).links[(l).val] = f s.links[l] := by
  rw [State.updLink_getElem, if_pos rfl]

theorem State.updLink_other (s : State) (l m : Fin 2) (f : Link → Link) (h : l ≠ m) :
    (s.updLink l f).links[(m).val] = s.links[m] := by
  rw [State.updLink_getElem, if_neg h]

@[simp] theorem State.updGauge_stamp (s : State) (g : Fin 64) (f : GaugeRun → GaugeRun) : (s.updGauge g f).stamp = s.stamp := rfl
@[simp] theorem State.updGauge_ports (s : State) (g : Fin 64) (f : GaugeRun → GaugeRun) : (s.updGauge g f).ports = s.ports := rfl
@[simp] theorem State.updGauge_gen (s : State) (g : Fin 64) (f : GaugeRun → GaugeRun) : (s.updGauge g f).gen = s.gen := rfl
@[simp] theorem State.updGauge_channels (s : State) (g : Fin 64) (f : GaugeRun → GaugeRun) : (s.updGauge g f).channels = s.channels := rfl
@[simp] theorem State.updGauge_outputs (s : State) (g : Fin 64) (f : GaugeRun → GaugeRun) : (s.updGauge g f).outputs = s.outputs := rfl
@[simp] theorem State.updGauge_supervision (s : State) (g : Fin 64) (f : GaugeRun → GaugeRun) : (s.updGauge g f).supervision = s.supervision := rfl
@[simp] theorem State.updGauge_activeSet (s : State) (g : Fin 64) (f : GaugeRun → GaugeRun) : (s.updGauge g f).activeSet = s.activeSet := rfl
@[simp] theorem State.updGauge_stagedSet (s : State) (g : Fin 64) (f : GaugeRun → GaugeRun) : (s.updGauge g f).stagedSet = s.stagedSet := rfl
@[simp] theorem State.updGauge_commit (s : State) (g : Fin 64) (f : GaugeRun → GaugeRun) : (s.updGauge g f).commit = s.commit := rfl
@[simp] theorem State.updGauge_frames (s : State) (g : Fin 64) (f : GaugeRun → GaugeRun) : (s.updGauge g f).frames = s.frames := rfl
@[simp] theorem State.updGauge_links (s : State) (g : Fin 64) (f : GaugeRun → GaugeRun) : (s.updGauge g f).links = s.links := rfl
@[simp] theorem State.updGauge_cracks (s : State) (g : Fin 64) (f : GaugeRun → GaugeRun) : (s.updGauge g f).cracks = s.cracks := rfl
@[simp] theorem State.updGauge_stopLine (s : State) (g : Fin 64) (f : GaugeRun → GaugeRun) : (s.updGauge g f).stopLine = s.stopLine := rfl
@[simp] theorem State.updGauge_zones (s : State) (g : Fin 64) (f : GaugeRun → GaugeRun) : (s.updGauge g f).zones = s.zones := rfl
@[simp] theorem State.updGauge_tagCounter (s : State) (g : Fin 64) (f : GaugeRun → GaugeRun) : (s.updGauge g f).tagCounter = s.tagCounter := rfl
@[simp] theorem State.updGauge_stopHold (s : State) (g : Fin 64) (f : GaugeRun → GaugeRun) : (s.updGauge g f).stopHold = s.stopHold := rfl
@[simp] theorem State.updGauge_queue (s : State) (g : Fin 64) (f : GaugeRun → GaugeRun) : (s.updGauge g f).queue = s.queue := rfl
@[simp] theorem State.updGauge_pending (s : State) (g : Fin 64) (f : GaugeRun → GaugeRun) : (s.updGauge g f).pending = s.pending := rfl

theorem State.updGauge_get (s : State) (g h : Fin 64) (f : GaugeRun → GaugeRun) :
    (s.updGauge g f).gauges[h] = if g = h then { s.gauges[g] with run := f s.gauges[g].run } else s.gauges[h] := by
  by_cases e : g = h
  · subst e
    simp [State.updGauge]
  · have e' : (g : Fin _).val ≠ (h : Fin _).val := fun x => e (Fin.ext x)
    simp [State.updGauge, e, Vector.getElem_set_ne _ _ e']

theorem State.updGauge_getElem (s : State) (g h : Fin 64) (f : GaugeRun → GaugeRun) :
    (s.updGauge g f).gauges[h.val] = if g = h then { s.gauges[g] with run := f s.gauges[g].run } else s.gauges[h] :=
  State.updGauge_get s g h f

@[simp] theorem State.updGauge_run (s : State) (g : Fin 64) (f : GaugeRun → GaugeRun) :
    (s.updGauge g f).gauges[g.val].run = f s.gauges[g].run := by
  rw [State.updGauge_getElem, if_pos rfl]

@[simp] theorem State.updGauge_config (s : State) (g h : Fin 64) (f : GaugeRun → GaugeRun) :
    (s.updGauge g f).gauges[h.val].config = s.gauges[h].config := by
  rw [State.updGauge_getElem]
  split
  · next e => rw [e]
  · rfl

theorem State.updGauge_other (s : State) (g h : Fin 64) (f : GaugeRun → GaugeRun) (e : g ≠ h) :
    (s.updGauge g f).gauges[h.val] = s.gauges[h] := by
  rw [State.updGauge_getElem, if_neg e]

end Sys2Proof.Machine
end

