-- ==== Sys2Proof/Laws/Ops.lean ====
section
/-! SUPPORT. What each shared operation can do, said once: the fields it leaves alone, one lemma each, and `Keeps`, what every
operation of zone protection leaves alone. -/
namespace Sys2Proof.Machine

/-! ### record -/

@[simp] theorem State.record_stamp (s : State) (b : Body) : (s.record b).stamp = s.stamp := rfl
@[simp] theorem State.record_ports (s : State) (b : Body) : (s.record b).ports = s.ports := rfl
@[simp] theorem State.record_gen (s : State) (b : Body) : (s.record b).gen = s.gen := rfl
@[simp] theorem State.record_channels (s : State) (b : Body) : (s.record b).channels = s.channels := rfl
@[simp] theorem State.record_outputs (s : State) (b : Body) : (s.record b).outputs = s.outputs := rfl
@[simp] theorem State.record_supervision (s : State) (b : Body) : (s.record b).supervision = s.supervision := rfl
@[simp] theorem State.record_activeSet (s : State) (b : Body) : (s.record b).activeSet = s.activeSet := rfl
@[simp] theorem State.record_stagedSet (s : State) (b : Body) : (s.record b).stagedSet = s.stagedSet := rfl
@[simp] theorem State.record_commit (s : State) (b : Body) : (s.record b).commit = s.commit := rfl
@[simp] theorem State.record_frames (s : State) (b : Body) : (s.record b).frames = s.frames := rfl
@[simp] theorem State.record_gauges (s : State) (b : Body) : (s.record b).gauges = s.gauges := rfl
@[simp] theorem State.record_links (s : State) (b : Body) : (s.record b).links = s.links := rfl
@[simp] theorem State.record_cracks (s : State) (b : Body) : (s.record b).cracks = s.cracks := rfl
@[simp] theorem State.record_stopLine (s : State) (b : Body) : (s.record b).stopLine = s.stopLine := rfl
@[simp] theorem State.record_zones (s : State) (b : Body) : (s.record b).zones = s.zones := rfl
@[simp] theorem State.record_tagCounter (s : State) (b : Body) : (s.record b).tagCounter = s.tagCounter := rfl
@[simp] theorem State.record_stopHold (s : State) (b : Body) : (s.record b).stopHold = s.stopHold := rfl
@[simp] theorem State.record_pending (s : State) (b : Body) : (s.record b).pending = s.pending := rfl

/-! ### addEvent -/

@[simp] theorem State.addEvent_stamp (s : State) (e : Event) : (s.addEvent e).stamp = s.stamp := rfl
@[simp] theorem State.addEvent_gen (s : State) (e : Event) : (s.addEvent e).gen = s.gen := rfl
@[simp] theorem State.addEvent_channels (s : State) (e : Event) : (s.addEvent e).channels = s.channels := rfl
@[simp] theorem State.addEvent_outputs (s : State) (e : Event) : (s.addEvent e).outputs = s.outputs := rfl
@[simp] theorem State.addEvent_supervision (s : State) (e : Event) : (s.addEvent e).supervision = s.supervision := rfl
@[simp] theorem State.addEvent_activeSet (s : State) (e : Event) : (s.addEvent e).activeSet = s.activeSet := rfl
@[simp] theorem State.addEvent_stagedSet (s : State) (e : Event) : (s.addEvent e).stagedSet = s.stagedSet := rfl
@[simp] theorem State.addEvent_commit (s : State) (e : Event) : (s.addEvent e).commit = s.commit := rfl
@[simp] theorem State.addEvent_frames (s : State) (e : Event) : (s.addEvent e).frames = s.frames := rfl
@[simp] theorem State.addEvent_gauges (s : State) (e : Event) : (s.addEvent e).gauges = s.gauges := rfl
@[simp] theorem State.addEvent_links (s : State) (e : Event) : (s.addEvent e).links = s.links := rfl
@[simp] theorem State.addEvent_cracks (s : State) (e : Event) : (s.addEvent e).cracks = s.cracks := rfl
@[simp] theorem State.addEvent_stopLine (s : State) (e : Event) : (s.addEvent e).stopLine = s.stopLine := rfl
@[simp] theorem State.addEvent_zones (s : State) (e : Event) : (s.addEvent e).zones = s.zones := rfl
@[simp] theorem State.addEvent_tagCounter (s : State) (e : Event) : (s.addEvent e).tagCounter = s.tagCounter := rfl
@[simp] theorem State.addEvent_stopHold (s : State) (e : Event) : (s.addEvent e).stopHold = s.stopHold := rfl
@[simp] theorem State.addEvent_queue (s : State) (e : Event) : (s.addEvent e).queue = s.queue := rfl
@[simp] theorem State.addEvent_pending (s : State) (e : Event) : (s.addEvent e).pending = s.pending := rfl

/-! ### addEventAt -/

@[simp] theorem State.addEventAt_stamp (s : State) (p : PortId) (e : Event) : (s.addEventAt p e).stamp = s.stamp := rfl
@[simp] theorem State.addEventAt_gen (s : State) (p : PortId) (e : Event) : (s.addEventAt p e).gen = s.gen := rfl
@[simp] theorem State.addEventAt_channels (s : State) (p : PortId) (e : Event) : (s.addEventAt p e).channels = s.channels := rfl
@[simp] theorem State.addEventAt_outputs (s : State) (p : PortId) (e : Event) : (s.addEventAt p e).outputs = s.outputs := rfl
@[simp] theorem State.addEventAt_supervision (s : State) (p : PortId) (e : Event) : (s.addEventAt p e).supervision = s.supervision := rfl
@[simp] theorem State.addEventAt_activeSet (s : State) (p : PortId) (e : Event) : (s.addEventAt p e).activeSet = s.activeSet := rfl
@[simp] theorem State.addEventAt_stagedSet (s : State) (p : PortId) (e : Event) : (s.addEventAt p e).stagedSet = s.stagedSet := rfl
@[simp] theorem State.addEventAt_commit (s : State) (p : PortId) (e : Event) : (s.addEventAt p e).commit = s.commit := rfl
@[simp] theorem State.addEventAt_frames (s : State) (p : PortId) (e : Event) : (s.addEventAt p e).frames = s.frames := rfl
@[simp] theorem State.addEventAt_gauges (s : State) (p : PortId) (e : Event) : (s.addEventAt p e).gauges = s.gauges := rfl
@[simp] theorem State.addEventAt_links (s : State) (p : PortId) (e : Event) : (s.addEventAt p e).links = s.links := rfl
@[simp] theorem State.addEventAt_cracks (s : State) (p : PortId) (e : Event) : (s.addEventAt p e).cracks = s.cracks := rfl
@[simp] theorem State.addEventAt_stopLine (s : State) (p : PortId) (e : Event) : (s.addEventAt p e).stopLine = s.stopLine := rfl
@[simp] theorem State.addEventAt_zones (s : State) (p : PortId) (e : Event) : (s.addEventAt p e).zones = s.zones := rfl
@[simp] theorem State.addEventAt_tagCounter (s : State) (p : PortId) (e : Event) : (s.addEventAt p e).tagCounter = s.tagCounter := rfl
@[simp] theorem State.addEventAt_stopHold (s : State) (p : PortId) (e : Event) : (s.addEventAt p e).stopHold = s.stopHold := rfl
@[simp] theorem State.addEventAt_queue (s : State) (p : PortId) (e : Event) : (s.addEventAt p e).queue = s.queue := rfl
@[simp] theorem State.addEventAt_pending (s : State) (p : PortId) (e : Event) : (s.addEventAt p e).pending = s.pending := rfl

/-! ### programRecord -/

@[simp] theorem State.programRecord_stamp (s : State) (i : Fin 64) (r : Reason) : (s.programRecord i r).stamp = s.stamp := rfl
@[simp] theorem State.programRecord_channels (s : State) (i : Fin 64) (r : Reason) : (s.programRecord i r).channels = s.channels := rfl
@[simp] theorem State.programRecord_outputs (s : State) (i : Fin 64) (r : Reason) : (s.programRecord i r).outputs = s.outputs := rfl
@[simp] theorem State.programRecord_supervision (s : State) (i : Fin 64) (r : Reason) : (s.programRecord i r).supervision = s.supervision := rfl
@[simp] theorem State.programRecord_activeSet (s : State) (i : Fin 64) (r : Reason) : (s.programRecord i r).activeSet = s.activeSet := rfl
@[simp] theorem State.programRecord_stagedSet (s : State) (i : Fin 64) (r : Reason) : (s.programRecord i r).stagedSet = s.stagedSet := rfl
@[simp] theorem State.programRecord_commit (s : State) (i : Fin 64) (r : Reason) : (s.programRecord i r).commit = s.commit := rfl
@[simp] theorem State.programRecord_frames (s : State) (i : Fin 64) (r : Reason) : (s.programRecord i r).frames = s.frames := rfl
@[simp] theorem State.programRecord_gauges (s : State) (i : Fin 64) (r : Reason) : (s.programRecord i r).gauges = s.gauges := rfl
@[simp] theorem State.programRecord_links (s : State) (i : Fin 64) (r : Reason) : (s.programRecord i r).links = s.links := rfl
@[simp] theorem State.programRecord_cracks (s : State) (i : Fin 64) (r : Reason) : (s.programRecord i r).cracks = s.cracks := rfl
@[simp] theorem State.programRecord_stopLine (s : State) (i : Fin 64) (r : Reason) : (s.programRecord i r).stopLine = s.stopLine := rfl
@[simp] theorem State.programRecord_zones (s : State) (i : Fin 64) (r : Reason) : (s.programRecord i r).zones = s.zones := rfl
@[simp] theorem State.programRecord_tagCounter (s : State) (i : Fin 64) (r : Reason) : (s.programRecord i r).tagCounter = s.tagCounter := rfl
@[simp] theorem State.programRecord_stopHold (s : State) (i : Fin 64) (r : Reason) : (s.programRecord i r).stopHold = s.stopHold := rfl
@[simp] theorem State.programRecord_pending (s : State) (i : Fin 64) (r : Reason) : (s.programRecord i r).pending = s.pending := rfl

/-! ### moveGenerator -/

@[simp] theorem State.moveGenerator_stamp (s : State) (x : GenState) (r : Reason) : (s.moveGenerator x r).stamp = s.stamp := rfl
@[simp] theorem State.moveGenerator_channels (s : State) (x : GenState) (r : Reason) : (s.moveGenerator x r).channels = s.channels := rfl
@[simp] theorem State.moveGenerator_outputs (s : State) (x : GenState) (r : Reason) : (s.moveGenerator x r).outputs = s.outputs := rfl
@[simp] theorem State.moveGenerator_supervision (s : State) (x : GenState) (r : Reason) : (s.moveGenerator x r).supervision = s.supervision := rfl
@[simp] theorem State.moveGenerator_activeSet (s : State) (x : GenState) (r : Reason) : (s.moveGenerator x r).activeSet = s.activeSet := rfl
@[simp] theorem State.moveGenerator_stagedSet (s : State) (x : GenState) (r : Reason) : (s.moveGenerator x r).stagedSet = s.stagedSet := rfl
@[simp] theorem State.moveGenerator_commit (s : State) (x : GenState) (r : Reason) : (s.moveGenerator x r).commit = s.commit := rfl
@[simp] theorem State.moveGenerator_frames (s : State) (x : GenState) (r : Reason) : (s.moveGenerator x r).frames = s.frames := rfl
@[simp] theorem State.moveGenerator_gauges (s : State) (x : GenState) (r : Reason) : (s.moveGenerator x r).gauges = s.gauges := rfl
@[simp] theorem State.moveGenerator_links (s : State) (x : GenState) (r : Reason) : (s.moveGenerator x r).links = s.links := rfl
@[simp] theorem State.moveGenerator_cracks (s : State) (x : GenState) (r : Reason) : (s.moveGenerator x r).cracks = s.cracks := rfl
@[simp] theorem State.moveGenerator_stopLine (s : State) (x : GenState) (r : Reason) : (s.moveGenerator x r).stopLine = s.stopLine := rfl
@[simp] theorem State.moveGenerator_zones (s : State) (x : GenState) (r : Reason) : (s.moveGenerator x r).zones = s.zones := rfl
@[simp] theorem State.moveGenerator_tagCounter (s : State) (x : GenState) (r : Reason) : (s.moveGenerator x r).tagCounter = s.tagCounter := rfl
@[simp] theorem State.moveGenerator_stopHold (s : State) (x : GenState) (r : Reason) : (s.moveGenerator x r).stopHold = s.stopHold := rfl
@[simp] theorem State.moveGenerator_pending (s : State) (x : GenState) (r : Reason) : (s.moveGenerator x r).pending = s.pending := rfl

/-! ### applyCommit -/

@[simp] theorem State.applyCommit_stamp (s : State) (x : CommitOutcome) : (s.applyCommit x).stamp = s.stamp := rfl
@[simp] theorem State.applyCommit_gen (s : State) (x : CommitOutcome) : (s.applyCommit x).gen = s.gen := rfl
@[simp] theorem State.applyCommit_channels (s : State) (x : CommitOutcome) : (s.applyCommit x).channels = s.channels := rfl
@[simp] theorem State.applyCommit_outputs (s : State) (x : CommitOutcome) : (s.applyCommit x).outputs = s.outputs := rfl
@[simp] theorem State.applyCommit_supervision (s : State) (x : CommitOutcome) : (s.applyCommit x).supervision = s.supervision := rfl
@[simp] theorem State.applyCommit_stagedSet (s : State) (x : CommitOutcome) : (s.applyCommit x).stagedSet = s.stagedSet := rfl
@[simp] theorem State.applyCommit_frames (s : State) (x : CommitOutcome) : (s.applyCommit x).frames = s.frames := rfl
@[simp] theorem State.applyCommit_gauges (s : State) (x : CommitOutcome) : (s.applyCommit x).gauges = s.gauges := rfl
@[simp] theorem State.applyCommit_links (s : State) (x : CommitOutcome) : (s.applyCommit x).links = s.links := rfl
@[simp] theorem State.applyCommit_cracks (s : State) (x : CommitOutcome) : (s.applyCommit x).cracks = s.cracks := rfl
@[simp] theorem State.applyCommit_stopLine (s : State) (x : CommitOutcome) : (s.applyCommit x).stopLine = s.stopLine := rfl
@[simp] theorem State.applyCommit_zones (s : State) (x : CommitOutcome) : (s.applyCommit x).zones = s.zones := rfl
@[simp] theorem State.applyCommit_tagCounter (s : State) (x : CommitOutcome) : (s.applyCommit x).tagCounter = s.tagCounter := rfl
@[simp] theorem State.applyCommit_stopHold (s : State) (x : CommitOutcome) : (s.applyCommit x).stopHold = s.stopHold := rfl
@[simp] theorem State.applyCommit_pending (s : State) (x : CommitOutcome) : (s.applyCommit x).pending = s.pending := rfl

/-! ### captureHeld -/

@[simp] theorem State.captureHeld_stamp (s : State) (z : Fin 4) : (s.captureHeld z).stamp = s.stamp := rfl
@[simp] theorem State.captureHeld_ports (s : State) (z : Fin 4) : (s.captureHeld z).ports = s.ports := rfl
@[simp] theorem State.captureHeld_gen (s : State) (z : Fin 4) : (s.captureHeld z).gen = s.gen := rfl
@[simp] theorem State.captureHeld_channels (s : State) (z : Fin 4) : (s.captureHeld z).channels = s.channels := rfl
@[simp] theorem State.captureHeld_supervision (s : State) (z : Fin 4) : (s.captureHeld z).supervision = s.supervision := rfl
@[simp] theorem State.captureHeld_activeSet (s : State) (z : Fin 4) : (s.captureHeld z).activeSet = s.activeSet := rfl
@[simp] theorem State.captureHeld_stagedSet (s : State) (z : Fin 4) : (s.captureHeld z).stagedSet = s.stagedSet := rfl
@[simp] theorem State.captureHeld_commit (s : State) (z : Fin 4) : (s.captureHeld z).commit = s.commit := rfl
@[simp] theorem State.captureHeld_frames (s : State) (z : Fin 4) : (s.captureHeld z).frames = s.frames := rfl
@[simp] theorem State.captureHeld_gauges (s : State) (z : Fin 4) : (s.captureHeld z).gauges = s.gauges := rfl
@[simp] theorem State.captureHeld_links (s : State) (z : Fin 4) : (s.captureHeld z).links = s.links := rfl
@[simp] theorem State.captureHeld_cracks (s : State) (z : Fin 4) : (s.captureHeld z).cracks = s.cracks := rfl
@[simp] theorem State.captureHeld_stopLine (s : State) (z : Fin 4) : (s.captureHeld z).stopLine = s.stopLine := rfl
@[simp] theorem State.captureHeld_zones (s : State) (z : Fin 4) : (s.captureHeld z).zones = s.zones := rfl
@[simp] theorem State.captureHeld_tagCounter (s : State) (z : Fin 4) : (s.captureHeld z).tagCounter = s.tagCounter := rfl
@[simp] theorem State.captureHeld_stopHold (s : State) (z : Fin 4) : (s.captureHeld z).stopHold = s.stopHold := rfl
@[simp] theorem State.captureHeld_queue (s : State) (z : Fin 4) : (s.captureHeld z).queue = s.queue := rfl
@[simp] theorem State.captureHeld_pending (s : State) (z : Fin 4) : (s.captureHeld z).pending = s.pending := rfl

/-! ### dumpMembers -/

@[simp] theorem State.dumpMembers_stamp (s : State) (z : Fin 4) : (s.dumpMembers z).stamp = s.stamp := rfl
@[simp] theorem State.dumpMembers_ports (s : State) (z : Fin 4) : (s.dumpMembers z).ports = s.ports := rfl
@[simp] theorem State.dumpMembers_gen (s : State) (z : Fin 4) : (s.dumpMembers z).gen = s.gen := rfl
@[simp] theorem State.dumpMembers_channels (s : State) (z : Fin 4) : (s.dumpMembers z).channels = s.channels := rfl
@[simp] theorem State.dumpMembers_supervision (s : State) (z : Fin 4) : (s.dumpMembers z).supervision = s.supervision := rfl
@[simp] theorem State.dumpMembers_activeSet (s : State) (z : Fin 4) : (s.dumpMembers z).activeSet = s.activeSet := rfl
@[simp] theorem State.dumpMembers_stagedSet (s : State) (z : Fin 4) : (s.dumpMembers z).stagedSet = s.stagedSet := rfl
@[simp] theorem State.dumpMembers_commit (s : State) (z : Fin 4) : (s.dumpMembers z).commit = s.commit := rfl
@[simp] theorem State.dumpMembers_frames (s : State) (z : Fin 4) : (s.dumpMembers z).frames = s.frames := rfl
@[simp] theorem State.dumpMembers_gauges (s : State) (z : Fin 4) : (s.dumpMembers z).gauges = s.gauges := rfl
@[simp] theorem State.dumpMembers_links (s : State) (z : Fin 4) : (s.dumpMembers z).links = s.links := rfl
@[simp] theorem State.dumpMembers_cracks (s : State) (z : Fin 4) : (s.dumpMembers z).cracks = s.cracks := rfl
@[simp] theorem State.dumpMembers_stopLine (s : State) (z : Fin 4) : (s.dumpMembers z).stopLine = s.stopLine := rfl
@[simp] theorem State.dumpMembers_zones (s : State) (z : Fin 4) : (s.dumpMembers z).zones = s.zones := rfl
@[simp] theorem State.dumpMembers_tagCounter (s : State) (z : Fin 4) : (s.dumpMembers z).tagCounter = s.tagCounter := rfl
@[simp] theorem State.dumpMembers_stopHold (s : State) (z : Fin 4) : (s.dumpMembers z).stopHold = s.stopHold := rfl
@[simp] theorem State.dumpMembers_queue (s : State) (z : Fin 4) : (s.dumpMembers z).queue = s.queue := rfl
@[simp] theorem State.dumpMembers_pending (s : State) (z : Fin 4) : (s.dumpMembers z).pending = s.pending := rfl

/-! ### appendEntry -/

@[simp] theorem State.appendEntry_stamp (s : State) (z : Fin 4) (e : Entry) : (s.appendEntry z e).stamp = s.stamp := rfl
@[simp] theorem State.appendEntry_ports (s : State) (z : Fin 4) (e : Entry) : (s.appendEntry z e).ports = s.ports := rfl
@[simp] theorem State.appendEntry_gen (s : State) (z : Fin 4) (e : Entry) : (s.appendEntry z e).gen = s.gen := rfl
@[simp] theorem State.appendEntry_channels (s : State) (z : Fin 4) (e : Entry) : (s.appendEntry z e).channels = s.channels := rfl
@[simp] theorem State.appendEntry_outputs (s : State) (z : Fin 4) (e : Entry) : (s.appendEntry z e).outputs = s.outputs := rfl
@[simp] theorem State.appendEntry_supervision (s : State) (z : Fin 4) (e : Entry) : (s.appendEntry z e).supervision = s.supervision := rfl
@[simp] theorem State.appendEntry_activeSet (s : State) (z : Fin 4) (e : Entry) : (s.appendEntry z e).activeSet = s.activeSet := rfl
@[simp] theorem State.appendEntry_stagedSet (s : State) (z : Fin 4) (e : Entry) : (s.appendEntry z e).stagedSet = s.stagedSet := rfl
@[simp] theorem State.appendEntry_commit (s : State) (z : Fin 4) (e : Entry) : (s.appendEntry z e).commit = s.commit := rfl
@[simp] theorem State.appendEntry_frames (s : State) (z : Fin 4) (e : Entry) : (s.appendEntry z e).frames = s.frames := rfl
@[simp] theorem State.appendEntry_gauges (s : State) (z : Fin 4) (e : Entry) : (s.appendEntry z e).gauges = s.gauges := rfl
@[simp] theorem State.appendEntry_links (s : State) (z : Fin 4) (e : Entry) : (s.appendEntry z e).links = s.links := rfl
@[simp] theorem State.appendEntry_cracks (s : State) (z : Fin 4) (e : Entry) : (s.appendEntry z e).cracks = s.cracks := rfl
@[simp] theorem State.appendEntry_stopLine (s : State) (z : Fin 4) (e : Entry) : (s.appendEntry z e).stopLine = s.stopLine := rfl
@[simp] theorem State.appendEntry_stopHold (s : State) (z : Fin 4) (e : Entry) : (s.appendEntry z e).stopHold = s.stopHold := rfl
@[simp] theorem State.appendEntry_queue (s : State) (z : Fin 4) (e : Entry) : (s.appendEntry z e).queue = s.queue := rfl
@[simp] theorem State.appendEntry_pending (s : State) (z : Fin 4) (e : Entry) : (s.appendEntry z e).pending = s.pending := rfl

/-! ### answer -/

@[simp] theorem State.answer_stamp (s : State) (p : PortId) (k : Byte) (n : Half) (x : Result) (b : List Byte) : (s.answer p k n x b).stamp = s.stamp := rfl
@[simp] theorem State.answer_gen (s : State) (p : PortId) (k : Byte) (n : Half) (x : Result) (b : List Byte) : (s.answer p k n x b).gen = s.gen := rfl
@[simp] theorem State.answer_channels (s : State) (p : PortId) (k : Byte) (n : Half) (x : Result) (b : List Byte) : (s.answer p k n x b).channels = s.channels := rfl
@[simp] theorem State.answer_outputs (s : State) (p : PortId) (k : Byte) (n : Half) (x : Result) (b : List Byte) : (s.answer p k n x b).outputs = s.outputs := rfl
@[simp] theorem State.answer_supervision (s : State) (p : PortId) (k : Byte) (n : Half) (x : Result) (b : List Byte) : (s.answer p k n x b).supervision = s.supervision := rfl
@[simp] theorem State.answer_activeSet (s : State) (p : PortId) (k : Byte) (n : Half) (x : Result) (b : List Byte) : (s.answer p k n x b).activeSet = s.activeSet := rfl
@[simp] theorem State.answer_stagedSet (s : State) (p : PortId) (k : Byte) (n : Half) (x : Result) (b : List Byte) : (s.answer p k n x b).stagedSet = s.stagedSet := rfl
@[simp] theorem State.answer_commit (s : State) (p : PortId) (k : Byte) (n : Half) (x : Result) (b : List Byte) : (s.answer p k n x b).commit = s.commit := rfl
@[simp] theorem State.answer_frames (s : State) (p : PortId) (k : Byte) (n : Half) (x : Result) (b : List Byte) : (s.answer p k n x b).frames = s.frames := rfl
@[simp] theorem State.answer_gauges (s : State) (p : PortId) (k : Byte) (n : Half) (x : Result) (b : List Byte) : (s.answer p k n x b).gauges = s.gauges := rfl
@[simp] theorem State.answer_links (s : State) (p : PortId) (k : Byte) (n : Half) (x : Result) (b : List Byte) : (s.answer p k n x b).links = s.links := rfl
@[simp] theorem State.answer_cracks (s : State) (p : PortId) (k : Byte) (n : Half) (x : Result) (b : List Byte) : (s.answer p k n x b).cracks = s.cracks := rfl
@[simp] theorem State.answer_stopLine (s : State) (p : PortId) (k : Byte) (n : Half) (x : Result) (b : List Byte) : (s.answer p k n x b).stopLine = s.stopLine := rfl
@[simp] theorem State.answer_zones (s : State) (p : PortId) (k : Byte) (n : Half) (x : Result) (b : List Byte) : (s.answer p k n x b).zones = s.zones := rfl
@[simp] theorem State.answer_tagCounter (s : State) (p : PortId) (k : Byte) (n : Half) (x : Result) (b : List Byte) : (s.answer p k n x b).tagCounter = s.tagCounter := rfl
@[simp] theorem State.answer_stopHold (s : State) (p : PortId) (k : Byte) (n : Half) (x : Result) (b : List Byte) : (s.answer p k n x b).stopHold = s.stopHold := rfl
@[simp] theorem State.answer_queue (s : State) (p : PortId) (k : Byte) (n : Half) (x : Result) (b : List Byte) : (s.answer p k n x b).queue = s.queue := rfl
@[simp] theorem State.answer_pending (s : State) (p : PortId) (k : Byte) (n : Half) (x : Result) (b : List Byte) : (s.answer p k n x b).pending = s.pending := rfl

/-! ### setWindow -/

@[simp] theorem State.setWindow_stamp (s : State) (p : PortId) (w : Window) : (s.setWindow p w).stamp = s.stamp := rfl
@[simp] theorem State.setWindow_gen (s : State) (p : PortId) (w : Window) : (s.setWindow p w).gen = s.gen := rfl
@[simp] theorem State.setWindow_channels (s : State) (p : PortId) (w : Window) : (s.setWindow p w).channels = s.channels := rfl
@[simp] theorem State.setWindow_outputs (s : State) (p : PortId) (w : Window) : (s.setWindow p w).outputs = s.outputs := rfl
@[simp] theorem State.setWindow_supervision (s : State) (p : PortId) (w : Window) : (s.setWindow p w).supervision = s.supervision := rfl
@[simp] theorem State.setWindow_activeSet (s : State) (p : PortId) (w : Window) : (s.setWindow p w).activeSet = s.activeSet := rfl
@[simp] theorem State.setWindow_stagedSet (s : State) (p : PortId) (w : Window) : (s.setWindow p w).stagedSet = s.stagedSet := rfl
@[simp] theorem State.setWindow_commit (s : State) (p : PortId) (w : Window) : (s.setWindow p w).commit = s.commit := rfl
@[simp] theorem State.setWindow_frames (s : State) (p : PortId) (w : Window) : (s.setWindow p w).frames = s.frames := rfl
@[simp] theorem State.setWindow_gauges (s : State) (p : PortId) (w : Window) : (s.setWindow p w).gauges = s.gauges := rfl
@[simp] theorem State.setWindow_links (s : State) (p : PortId) (w : Window) : (s.setWindow p w).links = s.links := rfl
@[simp] theorem State.setWindow_cracks (s : State) (p : PortId) (w : Window) : (s.setWindow p w).cracks = s.cracks := rfl
@[simp] theorem State.setWindow_stopLine (s : State) (p : PortId) (w : Window) : (s.setWindow p w).stopLine = s.stopLine := rfl
@[simp] theorem State.setWindow_zones (s : State) (p : PortId) (w : Window) : (s.setWindow p w).zones = s.zones := rfl
@[simp] theorem State.setWindow_tagCounter (s : State) (p : PortId) (w : Window) : (s.setWindow p w).tagCounter = s.tagCounter := rfl
@[simp] theorem State.setWindow_stopHold (s : State) (p : PortId) (w : Window) : (s.setWindow p w).stopHold = s.stopHold := rfl
@[simp] theorem State.setWindow_queue (s : State) (p : PortId) (w : Window) : (s.setWindow p w).queue = s.queue := rfl
@[simp] theorem State.setWindow_pending (s : State) (p : PortId) (w : Window) : (s.setWindow p w).pending = s.pending := rfl

/-! ### computeSetpoints -/

@[simp] theorem State.computeSetpoints_stamp (s : State) (d : Int) : (s.computeSetpoints d).stamp = s.stamp := rfl
@[simp] theorem State.computeSetpoints_ports (s : State) (d : Int) : (s.computeSetpoints d).ports = s.ports := rfl
@[simp] theorem State.computeSetpoints_gen (s : State) (d : Int) : (s.computeSetpoints d).gen = s.gen := rfl
@[simp] theorem State.computeSetpoints_channels (s : State) (d : Int) : (s.computeSetpoints d).channels = s.channels := rfl
@[simp] theorem State.computeSetpoints_supervision (s : State) (d : Int) : (s.computeSetpoints d).supervision = s.supervision := rfl
@[simp] theorem State.computeSetpoints_activeSet (s : State) (d : Int) : (s.computeSetpoints d).activeSet = s.activeSet := rfl
@[simp] theorem State.computeSetpoints_stagedSet (s : State) (d : Int) : (s.computeSetpoints d).stagedSet = s.stagedSet := rfl
@[simp] theorem State.computeSetpoints_commit (s : State) (d : Int) : (s.computeSetpoints d).commit = s.commit := rfl
@[simp] theorem State.computeSetpoints_frames (s : State) (d : Int) : (s.computeSetpoints d).frames = s.frames := rfl
@[simp] theorem State.computeSetpoints_gauges (s : State) (d : Int) : (s.computeSetpoints d).gauges = s.gauges := rfl
@[simp] theorem State.computeSetpoints_links (s : State) (d : Int) : (s.computeSetpoints d).links = s.links := rfl
@[simp] theorem State.computeSetpoints_cracks (s : State) (d : Int) : (s.computeSetpoints d).cracks = s.cracks := rfl
@[simp] theorem State.computeSetpoints_stopLine (s : State) (d : Int) : (s.computeSetpoints d).stopLine = s.stopLine := rfl
@[simp] theorem State.computeSetpoints_zones (s : State) (d : Int) : (s.computeSetpoints d).zones = s.zones := rfl
@[simp] theorem State.computeSetpoints_tagCounter (s : State) (d : Int) : (s.computeSetpoints d).tagCounter = s.tagCounter := rfl
@[simp] theorem State.computeSetpoints_stopHold (s : State) (d : Int) : (s.computeSetpoints d).stopHold = s.stopHold := rfl
@[simp] theorem State.computeSetpoints_queue (s : State) (d : Int) : (s.computeSetpoints d).queue = s.queue := rfl
@[simp] theorem State.computeSetpoints_pending (s : State) (d : Int) : (s.computeSetpoints d).pending = s.pending := rfl

/-! ### What zone protection leaves alone -/

/-- What no raise, clear, removal or change of a zone's state touches: the time stamp, the channels, the supervision records, the
load sets and their commit, the frames, the gauges and their links, the crack watch, the stop line, the waiting commands, the
windows and masks of the ports, and of the generator all but its state and the reason of its last record. Latched events only
grow. -/
structure Keeps (s t : State) : Prop where
  stamp : t.stamp = s.stamp
  channels : t.channels = s.channels
  supervision : t.supervision = s.supervision
  activeSet : t.activeSet = s.activeSet
  stagedSet : t.stagedSet = s.stagedSet
  commit : t.commit = s.commit
  frames : t.frames = s.frames
  gauges : t.gauges = s.gauges
  links : t.links = s.links
  cracks : t.cracks = s.cracks
  stopLine : t.stopLine = s.stopLine
  stopHold : t.stopHold = s.stopHold
  pending : t.pending = s.pending
  gen : t.gen = { s.gen with state := t.gen.state, lastReason := t.gen.lastReason }
  window : ∀ q : Fin 6, t.ports[q].window = s.ports[q].window
  mask : ∀ q : Fin 6, t.ports[q].mask = s.ports[q].mask
  latched : ∀ q : Fin 6, s.ports[q].latched &&& t.ports[q].latched = s.ports[q].latched

theorem Keeps.refl (s : State) : Keeps s s := by
  constructor <;> simp

theorem Keeps.trans {s t u : State} (h : Keeps s t) (k : Keeps t u) : Keeps s u where
  stamp := k.stamp.trans h.stamp
  channels := k.channels.trans h.channels
  supervision := k.supervision.trans h.supervision
  activeSet := k.activeSet.trans h.activeSet
  stagedSet := k.stagedSet.trans h.stagedSet
  commit := k.commit.trans h.commit
  frames := k.frames.trans h.frames
  gauges := k.gauges.trans h.gauges
  links := k.links.trans h.links
  cracks := k.cracks.trans h.cracks
  stopLine := k.stopLine.trans h.stopLine
  stopHold := k.stopHold.trans h.stopHold
  pending := k.pending.trans h.pending
  gen := by rw [k.gen, h.gen]
  window q := (k.window q).trans (h.window q)
  mask q := (k.mask q).trans (h.mask q)
  latched q := by rw [← h.latched q, BitVec.and_assoc, k.latched q]

theorem addEvent_latched (s : State) (e : Event) (q : Fin 6) :
    s.ports[q].latched &&& (s.addEvent e).ports[q].latched = s.ports[q].latched := by
  ext i hi
  simp only [State.addEvent, State.setPorts_ports, Fin.getElem_fin, Vector.getElem_map, BitVec.getElem_and, BitVec.getElem_or]
  cases s.ports[q].latched[i] <;> rfl

theorem Keeps.of_record (s : State) (b : Body) : Keeps s (s.record b) := by
  constructor <;> simp

theorem Keeps.of_addEvent (s : State) (e : Event) : Keeps s (s.addEvent e) where
  stamp := rfl
  channels := rfl
  supervision := rfl
  activeSet := rfl
  stagedSet := rfl
  commit := rfl
  frames := rfl
  gauges := rfl
  links := rfl
  cracks := rfl
  stopLine := rfl
  stopHold := rfl
  pending := rfl
  gen := rfl
  window q := by simp [State.addEvent]
  mask q := by simp [State.addEvent]
  latched q := addEvent_latched s e q

theorem Keeps.of_setGen (s : State) (st : GenState) (r : Reason) :
    Keeps s (s.setGen { s.gen with state := st, lastReason := r }) := by
  constructor <;> simp

theorem Keeps.of_moveGenerator (s : State) (st : GenState) (r : Reason) : Keeps s (s.moveGenerator st r) :=
  ((Keeps.of_setGen s st r).trans (Keeps.of_record _ _)).trans (Keeps.of_addEvent _ _)

theorem Keeps.of_syncPause (s : State) : Keeps s s.syncPause := by
  unfold State.syncPause
  split
  · split
    · exact .of_moveGenerator _ _ _
    · exact .refl _
  · split
    · exact .refl _
    · exact .of_moveGenerator _ _ _
  · exact .refl _
  · exact .refl _

theorem Keeps.of_updZone (s : State) (z : Fin 4) (f : Zone → Zone) : Keeps s (s.updZone z f) := by
  constructor <;> simp

theorem Keeps.of_setOutputs (s : State) (x : Vector Output 8) : Keeps s (s.setOutputs x) := by
  constructor <;> simp

theorem Keeps.of_setTagCounter (s : State) (x : Half) : Keeps s (s.setTagCounter x) := by
  constructor <;> simp

theorem Keeps.of_enterZone (s : State) (z : Fin 4) (st : ZoneState) : Keeps s (s.enterZone z st) := by
  have h := Keeps.of_updZone s z fun x => { x with state := st }
  cases st
  · exact h
  · exact h.trans (.of_setOutputs _ _)
  · exact h
  · exact h
  · exact h
  · exact h.trans (.of_setOutputs _ _)

theorem Keeps.of_changeZone (s : State) (z : Fin 4) (st : ZoneState) (d : Bool) : Keeps s (s.changeZone z st d) := by
  unfold State.changeZone
  split
  · exact .refl _
  · have h := ((Keeps.of_enterZone s z st).trans (.of_record _ (.zoneChange z s.zones[z].state st))).trans
      (.of_addEvent _ .zoneChange)
    dsimp only
    split
    · exact h
    · exact h.trans (.of_syncPause _)

theorem Keeps.of_removeEntry (s : State) (z : Fin 4) (e : Entry) (m : Method) (d : Bool) :
    Keeps s (s.removeEntry z e m d) :=
  ((Keeps.of_updZone _ _ _).trans (.of_record _ _)).trans (.of_changeZone _ _ _ _)

theorem Keeps.of_takeRaise (s : State) (z : Fin 4) (r : Raise) : Keeps s (s.takeRaise z r).1 := by
  unfold State.takeRaise
  split
  · dsimp only
    exact Keeps.of_updZone s z _
  · split
    · exact (Keeps.of_updZone _ _ _).trans (.of_setTagCounter _ _)
    · split
      · dsimp only
        exact Keeps.of_updZone s z _
      · exact (Keeps.of_updZone _ _ _).trans (.of_setTagCounter _ _)

theorem Keeps.of_raiseIn (s : State) (z : Fin 4) (r : Raise) (d : Bool) : Keeps s (s.raiseIn z r d) := by
  unfold State.raiseIn
  dsimp only
  have h := (((Keeps.of_takeRaise s z r).trans (.of_record _ (.alarmRaised z (s.takeRaise z r).2.1.tag r.source
    (s.takeRaise z r).2.1.action (s.takeRaise z r).2.1.repeats
    ((s.takeRaise z r).1.zones[z].state.escalate (s.takeRaise z r).2.1.action.severity)))).trans (.of_addEvent _ .alarm)).trans
    (.of_changeZone _ z ((s.takeRaise z r).1.zones[z].state.escalate (s.takeRaise z r).2.1.action.severity) d)
  split
  · exact h.trans (.of_removeEntry _ _ _ _ _)
  · exact h

/-- A fold of steps that each keep, keeps. -/
theorem Keeps.of_foldl {α : Type} (f : State → α → State) (h : ∀ s a, Keeps s (f s a)) (l : List α) (s : State) :
    Keeps s (l.foldl f s) := by
  induction l generalizing s with
  | nil => exact .refl s
  | cons a l ih => exact (h s a).trans (ih (f s a))

theorem Keeps.of_raise (s : State) (r : Raise) (own : List (Fin 4)) (d : Bool) : Keeps s (s.raise r own d) :=
  .of_foldl _ (fun _ _ => .of_raiseIn _ _ _ _) _ _

theorem Keeps.of_clearIn (s : State) (z : Fin 4) (x : Source) : Keeps s (s.clearIn z x) :=
  (Keeps.of_updZone _ _ _).trans (.of_foldl _ (fun _ _ => .of_removeEntry _ _ _ _ _) _ _)

theorem Keeps.of_clear (s : State) (x : Source) : Keeps s (s.clear x) :=
  .of_foldl _ (fun _ _ => .of_clearIn _ _ _) _ _

theorem Keeps.of_boundaryRemovals (s : State) : Keeps s s.boundaryRemovals :=
  .of_foldl _ (fun _ _ => .of_foldl _ (fun _ _ => .of_removeEntry _ _ _ _ _) _ _) _ _

theorem Keeps.of_arriveIn (s : State) (d : Int) (z : Fin 4) : Keeps s (s.arriveIn d z) := by
  unfold State.arriveIn
  split
  · exact .of_changeZone _ _ _ _
  · split
    · exact .of_changeZone _ _ _ _
    · exact .refl _

theorem Keeps.of_arrive (s : State) (d : Int) : Keeps s (s.arrive d) :=
  .of_foldl _ (fun _ _ => .of_arriveIn _ _ _) _ _

/-! ### The same, as rewrites -/

@[simp] theorem State.syncPause_stamp (s : State) : (s.syncPause).stamp = s.stamp := (Keeps.of_syncPause s).stamp
@[simp] theorem State.syncPause_channels (s : State) : (s.syncPause).channels = s.channels := (Keeps.of_syncPause s).channels
@[simp] theorem State.syncPause_supervision (s : State) : (s.syncPause).supervision = s.supervision := (Keeps.of_syncPause s).supervision
@[simp] theorem State.syncPause_activeSet (s : State) : (s.syncPause).activeSet = s.activeSet := (Keeps.of_syncPause s).activeSet
@[simp] theorem State.syncPause_stagedSet (s : State) : (s.syncPause).stagedSet = s.stagedSet := (Keeps.of_syncPause s).stagedSet
@[simp] theorem State.syncPause_commit (s : State) : (s.syncPause).commit = s.commit := (Keeps.of_syncPause s).commit
@[simp] theorem State.syncPause_frames (s : State) : (s.syncPause).frames = s.frames := (Keeps.of_syncPause s).frames
@[simp] theorem State.syncPause_gauges (s : State) : (s.syncPause).gauges = s.gauges := (Keeps.of_syncPause s).gauges
@[simp] theorem State.syncPause_links (s : State) : (s.syncPause).links = s.links := (Keeps.of_syncPause s).links
@[simp] theorem State.syncPause_cracks (s : State) : (s.syncPause).cracks = s.cracks := (Keeps.of_syncPause s).cracks
@[simp] theorem State.syncPause_stopLine (s : State) : (s.syncPause).stopLine = s.stopLine := (Keeps.of_syncPause s).stopLine
@[simp] theorem State.syncPause_stopHold (s : State) : (s.syncPause).stopHold = s.stopHold := (Keeps.of_syncPause s).stopHold
@[simp] theorem State.syncPause_pending (s : State) : (s.syncPause).pending = s.pending := (Keeps.of_syncPause s).pending

@[simp] theorem State.changeZone_stamp (s : State) (z : Fin 4) (st : ZoneState) (d : Bool) : (s.changeZone z st d).stamp = s.stamp := (Keeps.of_changeZone s z st d).stamp
@[simp] theorem State.changeZone_channels (s : State) (z : Fin 4) (st : ZoneState) (d : Bool) : (s.changeZone z st d).channels = s.channels := (Keeps.of_changeZone s z st d).channels
@[simp] theorem State.changeZone_supervision (s : State) (z : Fin 4) (st : ZoneState) (d : Bool) : (s.changeZone z st d).supervision = s.supervision := (Keeps.of_changeZone s z st d).supervision
@[simp] theorem State.changeZone_activeSet (s : State) (z : Fin 4) (st : ZoneState) (d : Bool) : (s.changeZone z st d).activeSet = s.activeSet := (Keeps.of_changeZone s z st d).activeSet
@[simp] theorem State.changeZone_stagedSet (s : State) (z : Fin 4) (st : ZoneState) (d : Bool) : (s.changeZone z st d).stagedSet = s.stagedSet := (Keeps.of_changeZone s z st d).stagedSet
@[simp] theorem State.changeZone_commit (s : State) (z : Fin 4) (st : ZoneState) (d : Bool) : (s.changeZone z st d).commit = s.commit := (Keeps.of_changeZone s z st d).commit
@[simp] theorem State.changeZone_frames (s : State) (z : Fin 4) (st : ZoneState) (d : Bool) : (s.changeZone z st d).frames = s.frames := (Keeps.of_changeZone s z st d).frames
@[simp] theorem State.changeZone_gauges (s : State) (z : Fin 4) (st : ZoneState) (d : Bool) : (s.changeZone z st d).gauges = s.gauges := (Keeps.of_changeZone s z st d).gauges
@[simp] theorem State.changeZone_links (s : State) (z : Fin 4) (st : ZoneState) (d : Bool) : (s.changeZone z st d).links = s.links := (Keeps.of_changeZone s z st d).links
@[simp] theorem State.changeZone_cracks (s : State) (z : Fin 4) (st : ZoneState) (d : Bool) : (s.changeZone z st d).cracks = s.cracks := (Keeps.of_changeZone s z st d).cracks
@[simp] theorem State.changeZone_stopLine (s : State) (z : Fin 4) (st : ZoneState) (d : Bool) : (s.changeZone z st d).stopLine = s.stopLine := (Keeps.of_changeZone s z st d).stopLine
@[simp] theorem State.changeZone_stopHold (s : State) (z : Fin 4) (st : ZoneState) (d : Bool) : (s.changeZone z st d).stopHold = s.stopHold := (Keeps.of_changeZone s z st d).stopHold
@[simp] theorem State.changeZone_pending (s : State) (z : Fin 4) (st : ZoneState) (d : Bool) : (s.changeZone z st d).pending = s.pending := (Keeps.of_changeZone s z st d).pending

@[simp] theorem State.removeEntry_stamp (s : State) (z : Fin 4) (e : Entry) (m : Method) (d : Bool) : (s.removeEntry z e m d).stamp = s.stamp := (Keeps.of_removeEntry s z e m d).stamp
@[simp] theorem State.removeEntry_channels (s : State) (z : Fin 4) (e : Entry) (m : Method) (d : Bool) : (s.removeEntry z e m d).channels = s.channels := (Keeps.of_removeEntry s z e m d).channels
@[simp] theorem State.removeEntry_supervision (s : State) (z : Fin 4) (e : Entry) (m : Method) (d : Bool) : (s.removeEntry z e m d).supervision = s.supervision := (Keeps.of_removeEntry s z e m d).supervision
@[simp] theorem State.removeEntry_activeSet (s : State) (z : Fin 4) (e : Entry) (m : Method) (d : Bool) : (s.removeEntry z e m d).activeSet = s.activeSet := (Keeps.of_removeEntry s z e m d).activeSet
@[simp] theorem State.removeEntry_stagedSet (s : State) (z : Fin 4) (e : Entry) (m : Method) (d : Bool) : (s.removeEntry z e m d).stagedSet = s.stagedSet := (Keeps.of_removeEntry s z e m d).stagedSet
@[simp] theorem State.removeEntry_commit (s : State) (z : Fin 4) (e : Entry) (m : Method) (d : Bool) : (s.removeEntry z e m d).commit = s.commit := (Keeps.of_removeEntry s z e m d).commit
@[simp] theorem State.removeEntry_frames (s : State) (z : Fin 4) (e : Entry) (m : Method) (d : Bool) : (s.removeEntry z e m d).frames = s.frames := (Keeps.of_removeEntry s z e m d).frames
@[simp] theorem State.removeEntry_gauges (s : State) (z : Fin 4) (e : Entry) (m : Method) (d : Bool) : (s.removeEntry z e m d).gauges = s.gauges := (Keeps.of_removeEntry s z e m d).gauges
@[simp] theorem State.removeEntry_links (s : State) (z : Fin 4) (e : Entry) (m : Method) (d : Bool) : (s.removeEntry z e m d).links = s.links := (Keeps.of_removeEntry s z e m d).links
@[simp] theorem State.removeEntry_cracks (s : State) (z : Fin 4) (e : Entry) (m : Method) (d : Bool) : (s.removeEntry z e m d).cracks = s.cracks := (Keeps.of_removeEntry s z e m d).cracks
@[simp] theorem State.removeEntry_stopLine (s : State) (z : Fin 4) (e : Entry) (m : Method) (d : Bool) : (s.removeEntry z e m d).stopLine = s.stopLine := (Keeps.of_removeEntry s z e m d).stopLine
@[simp] theorem State.removeEntry_stopHold (s : State) (z : Fin 4) (e : Entry) (m : Method) (d : Bool) : (s.removeEntry z e m d).stopHold = s.stopHold := (Keeps.of_removeEntry s z e m d).stopHold
@[simp] theorem State.removeEntry_pending (s : State) (z : Fin 4) (e : Entry) (m : Method) (d : Bool) : (s.removeEntry z e m d).pending = s.pending := (Keeps.of_removeEntry s z e m d).pending

@[simp] theorem State.raise_stamp (s : State) (r : Raise) (own : List (Fin 4)) (d : Bool) : (s.raise r own d).stamp = s.stamp := (Keeps.of_raise s r own d).stamp
@[simp] theorem State.raise_channels (s : State) (r : Raise) (own : List (Fin 4)) (d : Bool) : (s.raise r own d).channels = s.channels := (Keeps.of_raise s r own d).channels
@[simp] theorem State.raise_supervision (s : State) (r : Raise) (own : List (Fin 4)) (d : Bool) : (s.raise r own d).supervision = s.supervision := (Keeps.of_raise s r own d).supervision
@[simp] theorem State.raise_activeSet (s : State) (r : Raise) (own : List (Fin 4)) (d : Bool) : (s.raise r own d).activeSet = s.activeSet := (Keeps.of_raise s r own d).activeSet
@[simp] theorem State.raise_stagedSet (s : State) (r : Raise) (own : List (Fin 4)) (d : Bool) : (s.raise r own d).stagedSet = s.stagedSet := (Keeps.of_raise s r own d).stagedSet
@[simp] theorem State.raise_commit (s : State) (r : Raise) (own : List (Fin 4)) (d : Bool) : (s.raise r own d).commit = s.commit := (Keeps.of_raise s r own d).commit
@[simp] theorem State.raise_frames (s : State) (r : Raise) (own : List (Fin 4)) (d : Bool) : (s.raise r own d).frames = s.frames := (Keeps.of_raise s r own d).frames
@[simp] theorem State.raise_gauges (s : State) (r : Raise) (own : List (Fin 4)) (d : Bool) : (s.raise r own d).gauges = s.gauges := (Keeps.of_raise s r own d).gauges
@[simp] theorem State.raise_links (s : State) (r : Raise) (own : List (Fin 4)) (d : Bool) : (s.raise r own d).links = s.links := (Keeps.of_raise s r own d).links
@[simp] theorem State.raise_cracks (s : State) (r : Raise) (own : List (Fin 4)) (d : Bool) : (s.raise r own d).cracks = s.cracks := (Keeps.of_raise s r own d).cracks
@[simp] theorem State.raise_stopLine (s : State) (r : Raise) (own : List (Fin 4)) (d : Bool) : (s.raise r own d).stopLine = s.stopLine := (Keeps.of_raise s r own d).stopLine
@[simp] theorem State.raise_stopHold (s : State) (r : Raise) (own : List (Fin 4)) (d : Bool) : (s.raise r own d).stopHold = s.stopHold := (Keeps.of_raise s r own d).stopHold
@[simp] theorem State.raise_pending (s : State) (r : Raise) (own : List (Fin 4)) (d : Bool) : (s.raise r own d).pending = s.pending := (Keeps.of_raise s r own d).pending

@[simp] theorem State.clear_stamp (s : State) (x : Source) : (s.clear x).stamp = s.stamp := (Keeps.of_clear s x).stamp
@[simp] theorem State.clear_channels (s : State) (x : Source) : (s.clear x).channels = s.channels := (Keeps.of_clear s x).channels
@[simp] theorem State.clear_supervision (s : State) (x : Source) : (s.clear x).supervision = s.supervision := (Keeps.of_clear s x).supervision
@[simp] theorem State.clear_activeSet (s : State) (x : Source) : (s.clear x).activeSet = s.activeSet := (Keeps.of_clear s x).activeSet
@[simp] theorem State.clear_stagedSet (s : State) (x : Source) : (s.clear x).stagedSet = s.stagedSet := (Keeps.of_clear s x).stagedSet
@[simp] theorem State.clear_commit (s : State) (x : Source) : (s.clear x).commit = s.commit := (Keeps.of_clear s x).commit
@[simp] theorem State.clear_frames (s : State) (x : Source) : (s.clear x).frames = s.frames := (Keeps.of_clear s x).frames
@[simp] theorem State.clear_gauges (s : State) (x : Source) : (s.clear x).gauges = s.gauges := (Keeps.of_clear s x).gauges
@[simp] theorem State.clear_links (s : State) (x : Source) : (s.clear x).links = s.links := (Keeps.of_clear s x).links
@[simp] theorem State.clear_cracks (s : State) (x : Source) : (s.clear x).cracks = s.cracks := (Keeps.of_clear s x).cracks
@[simp] theorem State.clear_stopLine (s : State) (x : Source) : (s.clear x).stopLine = s.stopLine := (Keeps.of_clear s x).stopLine
@[simp] theorem State.clear_stopHold (s : State) (x : Source) : (s.clear x).stopHold = s.stopHold := (Keeps.of_clear s x).stopHold
@[simp] theorem State.clear_pending (s : State) (x : Source) : (s.clear x).pending = s.pending := (Keeps.of_clear s x).pending

@[simp] theorem State.boundaryRemovals_stamp (s : State) : (s.boundaryRemovals).stamp = s.stamp := (Keeps.of_boundaryRemovals s).stamp
@[simp] theorem State.boundaryRemovals_channels (s : State) : (s.boundaryRemovals).channels = s.channels := (Keeps.of_boundaryRemovals s).channels
@[simp] theorem State.boundaryRemovals_supervision (s : State) : (s.boundaryRemovals).supervision = s.supervision := (Keeps.of_boundaryRemovals s).supervision
@[simp] theorem State.boundaryRemovals_activeSet (s : State) : (s.boundaryRemovals).activeSet = s.activeSet := (Keeps.of_boundaryRemovals s).activeSet
@[simp] theorem State.boundaryRemovals_stagedSet (s : State) : (s.boundaryRemovals).stagedSet = s.stagedSet := (Keeps.of_boundaryRemovals s).stagedSet
@[simp] theorem State.boundaryRemovals_commit (s : State) : (s.boundaryRemovals).commit = s.commit := (Keeps.of_boundaryRemovals s).commit
@[simp] theorem State.boundaryRemovals_frames (s : State) : (s.boundaryRemovals).frames = s.frames := (Keeps.of_boundaryRemovals s).frames
@[simp] theorem State.boundaryRemovals_gauges (s : State) : (s.boundaryRemovals).gauges = s.gauges := (Keeps.of_boundaryRemovals s).gauges
@[simp] theorem State.boundaryRemovals_links (s : State) : (s.boundaryRemovals).links = s.links := (Keeps.of_boundaryRemovals s).links
@[simp] theorem State.boundaryRemovals_cracks (s : State) : (s.boundaryRemovals).cracks = s.cracks := (Keeps.of_boundaryRemovals s).cracks
@[simp] theorem State.boundaryRemovals_stopLine (s : State) : (s.boundaryRemovals).stopLine = s.stopLine := (Keeps.of_boundaryRemovals s).stopLine
@[simp] theorem State.boundaryRemovals_stopHold (s : State) : (s.boundaryRemovals).stopHold = s.stopHold := (Keeps.of_boundaryRemovals s).stopHold
@[simp] theorem State.boundaryRemovals_pending (s : State) : (s.boundaryRemovals).pending = s.pending := (Keeps.of_boundaryRemovals s).pending

@[simp] theorem State.arrive_stamp (s : State) (d : Int) : (s.arrive d).stamp = s.stamp := (Keeps.of_arrive s d).stamp
@[simp] theorem State.arrive_channels (s : State) (d : Int) : (s.arrive d).channels = s.channels := (Keeps.of_arrive s d).channels
@[simp] theorem State.arrive_supervision (s : State) (d : Int) : (s.arrive d).supervision = s.supervision := (Keeps.of_arrive s d).supervision
@[simp] theorem State.arrive_activeSet (s : State) (d : Int) : (s.arrive d).activeSet = s.activeSet := (Keeps.of_arrive s d).activeSet
@[simp] theorem State.arrive_stagedSet (s : State) (d : Int) : (s.arrive d).stagedSet = s.stagedSet := (Keeps.of_arrive s d).stagedSet
@[simp] theorem State.arrive_commit (s : State) (d : Int) : (s.arrive d).commit = s.commit := (Keeps.of_arrive s d).commit
@[simp] theorem State.arrive_frames (s : State) (d : Int) : (s.arrive d).frames = s.frames := (Keeps.of_arrive s d).frames
@[simp] theorem State.arrive_gauges (s : State) (d : Int) : (s.arrive d).gauges = s.gauges := (Keeps.of_arrive s d).gauges
@[simp] theorem State.arrive_links (s : State) (d : Int) : (s.arrive d).links = s.links := (Keeps.of_arrive s d).links
@[simp] theorem State.arrive_cracks (s : State) (d : Int) : (s.arrive d).cracks = s.cracks := (Keeps.of_arrive s d).cracks
@[simp] theorem State.arrive_stopLine (s : State) (d : Int) : (s.arrive d).stopLine = s.stopLine := (Keeps.of_arrive s d).stopLine
@[simp] theorem State.arrive_stopHold (s : State) (d : Int) : (s.arrive d).stopHold = s.stopHold := (Keeps.of_arrive s d).stopHold
@[simp] theorem State.arrive_pending (s : State) (d : Int) : (s.arrive d).pending = s.pending := (Keeps.of_arrive s d).pending

end Sys2Proof.Machine
end

