-- ==== Sys2Proof/Laws/PerInstr.lean ====
section
/-! SUPPORT. Statements made per command. `ArgumentLength`: the argument bytes of a request row are as many as the request code
table accepts for it (R165); an event row has none. -/
namespace Sys2Proof.Laws.ArgumentLength
open Sys2Proof

/-- The argument bytes of a request are of a length its row of section 10.3 accepts; an event row is no request. -/
def Statement (i : Instr) : Prop :=
  match requestName? i with
  | some (_, r) => (encodeArgs i).length ∈ Machine.reqLengths r
  | none => encodeArgs i = []

theorem malformedRequest (p : PortId) (code : Byte) (length : Half) : Statement (.malformedRequest p code length) := rfl

theorem windowAbandoned (p : PortId) : Statement (.windowAbandoned p) := rfl

theorem hardwareReset (selects : BitVec 6) : Statement (.hardwareReset selects) := rfl

theorem readIdent (p : PortId) : Statement (.readIdent p) := .head _

theorem readEvents (p : PortId) : Statement (.readEvents p) := .head _

theorem clearEvents (p : PortId) (events : Byte) : Statement (.clearEvents p events) := .head _

theorem setEventMask (p : PortId) (mask : Byte) : Statement (.setEventMask p mask) := .head _

theorem reinit (p : PortId) : Statement (.reinit p) := .head _

theorem writeBlock (p : PortId) (a : BlockArgs) : Statement (.writeBlock p a) := .head _

theorem readBlock (p : PortId) (index : Byte) : Statement (.readBlock p index) := .head _

theorem setStartBlock (p : PortId) (index : Byte) : Statement (.setStartBlock p index) := .head _

theorem start (p : PortId) : Statement (.start p) := .head _

theorem pause (p : PortId) : Statement (.pause p) := .head _

theorem resume (p : PortId) : Statement (.resume p) := .head _

theorem stop (p : PortId) (mode : Byte) : Statement (.stop p mode) := .head _

theorem advance (p : PortId) : Statement (.advance p) := .head _

theorem readGenerator (p : PortId) : Statement (.readGenerator p) := .head _

theorem setChannel (p : PortId) (a : ChannelArgs) : Statement (.setChannel p a) := .head _

theorem readChannel (p : PortId) (channel : Byte) : Statement (.readChannel p channel) := .head _

theorem stageChannel (p : PortId) (channel : Byte) (share offset : Half) : Statement (.stageChannel p channel share offset) := .head _

theorem stageScale (p : PortId) (ascale : Half) : Statement (.stageScale p ascale) := .head _

theorem armCommit (p : PortId) (mode : Byte) : Statement (.armCommit p mode) := .head _

theorem disarm (p : PortId) : Statement (.disarm p) := .head _

theorem servoExchange (p : PortId) (forceA forceB strokeA strokeB : Half) : Statement (.servoExchange p forceA forceB strokeA strokeB) := .head _

theorem trip (p : PortId) (reason : Byte) : Statement (.trip p reason) := .head _

theorem setFrame (p : PortId) (a : FrameArgs) : Statement (.setFrame p a) := .head _

theorem readFrame (p : PortId) (frame : Option Byte) : Statement (.readFrame p frame) := by
  cases frame with
  | none => exact .head _
  | some _ => exact .tail _ (.head _)

theorem setGauge (p : PortId) (a : GaugeArgs) : Statement (.setGauge p a) := .head _

theorem captureBaseline (p : PortId) : Statement (.captureBaseline p) := .head _

theorem readGauges (p : PortId) (first count : Byte) : Statement (.readGauges p first count) := .head _

theorem setCrack (p : PortId) (a : CrackArgs) : Statement (.setCrack p a) := .head _

theorem clearCrackLatch (p : PortId) (inputs : Half) : Statement (.clearCrackLatch p inputs) := .head _

theorem readCrack (p : PortId) : Statement (.readCrack p) := .head _

theorem setZone (p : PortId) (zone isolate : Byte) (unloadRate reloadRate : Half) : Statement (.setZone p zone isolate unloadRate reloadRate) := .head _

theorem release (p : PortId) (zone : Byte) (tag : Half) : Statement (.release p zone tag) := .head _

theorem reloadZone (p : PortId) (zone : Byte) : Statement (.reloadZone p zone) := .head _

theorem readZone (p : PortId) (zone : Byte) : Statement (.readZone p zone) := .head _

theorem takeRecord (p : PortId) : Statement (.takeRecord p) := .head _

theorem snapshot (p : PortId) : Statement (.snapshot p) := .head _

theorem resumeAutoSnapshot (p : PortId) : Statement (.resumeAutoSnapshot p) := .head _

theorem setQueue (p : PortId) (on off : Byte) (n : Half) : Statement (.setQueue p on off n) := .head _

theorem readQueue (p : PortId) : Statement (.readQueue p) := .head _

theorem update : Statement (.update) := rfl

theorem commitApplyNow : Statement (.commitApplyNow) := rfl

theorem boundary : Statement (.boundary) := rfl

theorem commitApplyBoundary : Statement (.commitApplyBoundary) := rfl

theorem pendingStopActs : Statement (.pendingStopActs) := rfl

theorem pendingAdvanceActs : Statement (.pendingAdvanceActs) := rfl

theorem dwellEnd : Statement (.dwellEnd) := rfl

theorem rampEnd : Statement (.rampEnd) := rfl

theorem boundaryRemoval : Statement (.boundaryRemoval) := rfl

theorem baselineCapture (g : Fin 64) : Statement (.baselineCapture g) := rfl

theorem zoneRampComplete (z : Fin 4) : Statement (.zoneRampComplete z) := rfl

theorem referenceCount (t : CountArgs) : Statement (.referenceCount t) := rfl

theorem watchdogExpiry (f : Fin 4) (t : CountArgs) : Statement (.watchdogExpiry f t) := rfl

theorem staleExpiry (g : Fin 64) (t : CountArgs) : Statement (.staleExpiry g t) := rfl

theorem clearTimerExpiry (z : Fin 4) (tag : Half) (t : CountArgs) : Statement (.clearTimerExpiry z tag t) := rfl

theorem gaugeFrame (link : Fin 2) (bits : BitVec 40) : Statement (.gaugeFrame link bits) := rfl

theorem selectAsserted (p : PortId) : Statement (.selectAsserted p) := rfl

theorem portByteClocked (p : PortId) (byte : Byte) : Statement (.portByteClocked p byte) := rfl

theorem selectDeassertedAfterAnswer (p : PortId) : Statement (.selectDeassertedAfterAnswer p) := rfl

theorem gaugeLinkStartCondition (link : Fin 2) : Statement (.gaugeLinkStartCondition link) := rfl

theorem gaugeLinkClockEdge (link : Fin 2) (bit : Bool) : Statement (.gaugeLinkClockEdge link bit) := rfl

end Sys2Proof.Laws.ArgumentLength
end

