-- ==== Sys2Proof/Tests/Slice0.lean ====
section
/-! SUPPORT. Tests of the model. The first part holds the smoke test of `Instr.wellFormed` and the worked examples of the
reference, one step each, whose expected values are the reference's; the second part holds, for every statement of
Certificates/Slice0/Obligations.lean that has hypotheses, a state and operands that meet them. -/

namespace Sys2Proof.Tests
open Sys2Proof Sys2Proof.Machine

-- The tests are elaborated one after another: each waits for the kernel, and many at once would each hold a thread.
set_option Elab.async false

/-! ### Small states -/

/-- The command leaves a next state of which `f` holds. -/
def leaves (c : Instr) (s : State) (f : State → Bool) : Bool :=
  match exec c s with
  | .next t => f t
  | _ => false

/-- A NORMAL zone with an empty list, unload rate 20 and reload rate 10 (section 3.11). -/
def normalZone : Zone :=
  { state := .normal, isolate := false, unloadRate := 20#16, reloadRate := 10#16, entries := [] }

/-- The part with every zone NORMAL and every list empty. -/
def quiet : State :=
  { State.reset with zones := Vector.replicate 4 normalZone }

/-- A block at index 0 is current in a generator state. -/
def withBlock (st : GenState) (b : Block) : State :=
  { quiet with gen := { quiet.gen with program := quiet.gen.program.set 0 b, state := st, current := some 0 } }

/-- The CYCLE block of section 2.7: amplitude 3000, 2 Hz, n cycles. -/
def cycleBlock (n : Word) : Block :=
  .cycle 3000#16 4194304#32 n

/-- Section 2.7's program, about a mean of 5000, in its CYCLE block at index 2. -/
def cycling (st : GenState) (phase n remaining : Word) : State :=
  { quiet with
    gen := { quiet.gen with
      program := ((((quiet.gen.program.set 0 (.ramp 5000#16 10#16)).set 1 (.dwell 2048#32)).set 2 (cycleBlock n)).set 3
        (.jump 1 2#16)).set 4 (.ramp 0#16 20#16)
      state := st, current := some 2, remaining := remaining, endless := n == 0#32, phase := phase, mean := 5000#16 } }

/-- Zone 1 of a state replaced. -/
def withZone1 (s : State) (z : Zone) : State :=
  { s with zones := s.zones.set 1 z }

/-- An entry with a tag, a source and an action, its condition active or clear. -/
def entry (tag : Half) (source : Source) (action : Action) (method : Method) (condition : Bool) : Entry :=
  { tag := tag, kind := .source, source := source, action := action, method := method, seconds := 60#16, timer := 0#32
    condition := condition, repeats := 1#8, stamp := 0#32, cycle := 0#40 }

/-- A count in which CK0 to CK15 read as the bits of `ck` and STOPn reads high. -/
def count (ck : BitVec 16) : CountArgs :=
  { ck := ck, stopn := .high }

/-- A record of a sequence number; its body does not matter. -/
def plainRecord (seq : Half) : Record :=
  { seq := seq, stamp := 0#32, cycle := 0#40, body := .commit .appliedNow }

/-- An AUTO snapshot of a sequence number. -/
def snapshotRecord (seq : Half) : Record :=
  { plainRecord seq with
    body := .snapshot .auto .stopped none [] (Vector.replicate 8 { setpoint := none, force := none, zone := .normal }) }

/-! ### Well-formed commands -/

theorem test_malformed_with_an_accepted_length_is_ill_formed :
    (Instr.malformedRequest .logger 0x01#8 0#16).wellFormed = false := by decide +kernel

theorem test_malformed_with_a_wrong_length_is_well_formed :
    (Instr.malformedRequest .logger 0x01#8 1#16).wellFormed = true := by decide +kernel

theorem test_tag_zero_is_ill_formed : (Instr.clearTimerExpiry 0 0#16 (count 0#16)).wellFormed = false := by decide +kernel

theorem test_clear_timer_order_twice_is_ill_formed :
    (Instr.clearTimerExpiry 0 1#16 { count 0#16 with order := [.sample, .sample] }).wellFormed = false := by decide +kernel

theorem test_reference_count_order_twice_is_ill_formed :
    (Instr.referenceCount { count 0#16 with order := [.stale 3, .stale 3] }).wellFormed = false := by decide +kernel

theorem test_watchdog_order_twice_is_ill_formed :
    (Instr.watchdogExpiry 1 { count 0#16 with order := [.watchdog 1, .sample, .watchdog 1] }).wellFormed = false := by
  decide +kernel

theorem test_stale_order_twice_is_ill_formed :
    (Instr.staleExpiry 5 { count 0#16 with order := [.stale 5, .stale 5] }).wellFormed = false := by decide +kernel

theorem test_order_once_is_well_formed :
    (Instr.referenceCount { count 0#16 with order := [.stale 3, .sample] }).wellFormed = true := by decide +kernel

/-- No row of the table has bits, so no word spells a command. -/
theorem test_no_word_spells_a_command : decodeTableWord 8 0x01 = none := by decide +kernel

/-! ### Chapter 1 -/

/-- R14. -/
theorem test_read_ident :
    leaves (.readIdent (.frame 3)) State.reset
      (fun t => t.answerOf (.frame 3) == some [0x00#8, 0#8, 3#8, 0x4C#8, 0x08#8, 1#8]) = true := by decide +kernel

/-- FRAME2 of section 1.3: ALARM, ZONE_CHANGE and GEN_CHANGE in its status, ALARM, ZONE_CHANGE and OWN_LATE in its mask. -/
def attentive : State :=
  { quiet with
    ports := quiet.ports.set 2 { (quiet.ports[2]) with latched := 0b0001110#7, mask := 0b1000110#7 } }

/-- Section 1.3: CLEAR_EVENTS of the two masked events leaves GEN_CHANGE, and ATTN2 goes high. -/
theorem test_clear_events_raises_attn :
    attentive.attnLow (.frame 2) = true
      ∧ leaves (.clearEvents (.frame 2) 0b00000110#8) attentive
        (fun t => t.eventStatus (.frame 2) == 0b0001000#7 && !t.attnLow (.frame 2)) = true := by decide +kernel

/-- R13: OWN_LATE belongs to the frame ports. -/
theorem test_own_late_mask_conflicts_at_director :
    leaves (.setEventMask .director 0b01000000#8) quiet
      (fun t => t.answerOf .director == some [0x06#8, 0#8, 0#8]) = true := by decide +kernel

/-- R7: a frame port has no right to START. -/
theorem test_start_is_denied_at_a_frame :
    leaves (.start (.frame 0)) quiet (fun t => t.answerOf (.frame 0) == some [0x01#8, 0#8, 0#8]) = true := by decide +kernel

/-- R2: with no answer to send, the line carries FFh; the second length byte of READ_IDENT takes it. -/
theorem test_second_length_byte_takes :
    leaves (.portByteClocked .logger 0#8)
        { quiet with
          ports := quiet.ports.set 5 { (quiet.ports[5]) with window :=
            { Window.idle true with phase := .length, code := 0x01#8, lengthHigh := some 0#8 } } }
      (fun t => t.answerOf .logger == some [0x00#8, 0#8, 3#8, 0x4C#8, 0x08#8, 1#8]
        && t.ports[5].window.sdo == some 0xFF#8) = true := by decide +kernel

/-! ### Chapters 2 and 3 -/

/-- R18: a frequency word above 2^24 is clamped to it. -/
theorem test_write_block_clamps_the_frequency :
    leaves (.writeBlock .director { index := 5#8, kind := 3#8, head := 3000#16, body := 20000000#32, tail := 7#32 }) quiet
      (fun t => t.gen.program[5] == Block.cycle 3000#16 16777216#32 7#32) = true := by decide +kernel

/-- Section 2.7: START names block 0, a RAMP, RUNNING, reason START. -/
theorem test_start_makes_its_record :
    leaves (.start .director) { cycling .stopped 0#32 1000#32 0#32 with
        gen := { (cycling .stopped 0#32 1000#32 0#32).gen with current := none } }
      (fun t => t.queue.records.map Record.body == [.program 0 .ramp .running .start]) = true := by decide +kernel

/-- Section 2.7, update 500: the mean comes to 5000, and block 1 starts with reason NEXT. -/
theorem test_ramp_ends_at_its_target :
    leaves .rampEnd { cycling .running 0#32 1000#32 0#32 with
        gen := { (cycling .running 0#32 1000#32 0#32).gen with current := some 0, mean := 4990#16 } }
      (fun t => t.gen.mean == 5000#16 && t.gen.countdown == 2048#32
        && t.queue.records.map Record.body == [.program 1 .dwell .running .next]) = true := by decide +kernel

/-- Section 2.7, update 3572: the first boundary carries with remainder 0 and leaves 999 of 1000. -/
theorem test_first_boundary :
    leaves .boundary (cycling .running 4290772992#32 1000#32 1000#32)
      (fun t => t.gen.cycles == 1#40 && t.gen.remaining == 999#32 && t.gen.phase == 0#32 && t.gen.current == some 2) = true := by
  decide +kernel

/-- Section 2.7: the third time the JUMP's counter equals 2; it becomes 0 and the chain goes on at block 4. -/
theorem test_jump_falls_through :
    leaves .boundary { cycling .running 4290772992#32 1000#32 1#32 with
        gen := { (cycling .running 4290772992#32 1000#32 1#32).gen with loops := (Vector.replicate 64 0#16).set 3 2#16 } }
      (fun t => t.gen.current == some 4 && t.gen.loops[3] == 0#16
        && t.queue.records.map Record.body == [.program 4 .ramp .running .next]) = true := by decide +kernel

/-- Section 2.7: a pending ADVANCE ends the endless CYCLE at its boundary, with reason ADVANCE whatever the JUMP did. -/
theorem test_advance_ends_an_endless_cycle :
    leaves .pendingAdvanceActs { cycling .running 4290772992#32 0#32 0#32 with
        gen := { (cycling .running 4290772992#32 0#32 0#32).gen with pendingAdvance := true } }
      (fun t => t.gen.current == some 1
        && t.queue.records.map Record.body == [.program 1 .dwell .running .advance]) = true := by decide +kernel

/-- Section 2.7: STOP AT_BOUNDARY leaves the mean at 5000 and makes a STOP record naming block 2. -/
theorem test_pending_stop_keeps_the_mean :
    leaves .pendingStopActs { cycling .running 4290772992#32 0#32 0#32 with
        gen := { (cycling .running 4290772992#32 0#32 0#32).gen with pendingStop := true, pendingAdvance := true } }
      (fun t => t.gen.state == .stopped && t.gen.mean == 5000#16
        && t.queue.records.map Record.body == [.program 2 .cycle .stopped .stop]) = true := by decide +kernel

/-- R29: with F = 5,000,000 the first carry, at update 859, leaves 32,704. -/
theorem test_remainder_is_kept :
    leaves .update { cycling .running 4290000000#32 0#32 0#32 with
        gen := { (cycling .running 4290000000#32 0#32 0#32).gen with
          program := Vector.replicate 64 (.cycle 3000#16 5000000#32 0#32) } }
      (fun t => t.gen.phase == 32704#32 && t.gen.cycles == 1#40) = true := by decide +kernel

/-- The table of R39, as dividends over the divisors of the reference's own cases. -/
theorem test_rounding_table :
    roundDiv 69510000 32768 = 2121 ∧ roundDiv 7121 2 = 3561 ∧ roundDiv 3001 2 = 1501 ∧ roundDiv (-98301000) 32768 = -3000
      ∧ roundDiv (-7121) 2 = -3560 ∧ roundDiv (-1) 2 = 0 ∧ roundDiv (-69510000) 32768 = -2121 := by decide +kernel

/-- The table of R40. -/
theorem test_sine_table :
    [0, 1, 4, 256, 512, 1024, 1536, 2048, 2560, 3072].map sineEntry =
      [0, 50, 201, 12539, 23170, 32767, 23170, 0, -23170, -32767] := by decide +kernel

/-- The channels CH2, CH3 and CH5 of section 3.11. -/
def rig (s : State) : State :=
  { s with
    channels := ((s.channels.set 2 { (s.channels[2]) with
        fmax := 3400#16, rmax := 40#16, ul := 200#16, tol := 50#16, k := 3, fabs := 3600#16 }).set
      3 { (s.channels[3]) with fmax := 8000#16, rmax := 100#16, tol := 300#16 }).set 5 { (s.channels[5]) with fmax := 8000#16 }
    activeSet := { ascale := 1024#16
                   share := ((s.activeSet.share.set 2 2048#16).set 3 4096#16).set 5 0xF800#16
                   offset := (s.activeSet.offset.set 2 0xFF6A#16).set 5 4000#16 }
    outputs := (s.outputs.set 2 { (s.outputs[2]) with setpoint := 3380#16 }).set 3 { (s.outputs[3]) with setpoint := 7000#16 } }

/-- CH2 and CH3 standing at given setpoints. -/
def standing (s : State) (a b : Half) : State :=
  { s with outputs := (s.outputs.set 2 { (s.outputs[2]) with setpoint := a }).set 3 { (s.outputs[3]) with setpoint := b } }

/-- R29, section 2.7: updates 2549 and 2550, u = 1 and 2 of a 2 Hz CYCLE, hand on the indices 4 and 8. R44: with a frequency word
below 2^20 the first update hands on the index 0, and the demand is the mean. -/
theorem test_index_at_a_first_update :
    (cycling .running 0#32 0#32 0#32).gen.drive.index = 4
    ∧ (cycling .running 4194304#32 0#32 0#32).gen.drive.index = 8
    ∧ (withBlock .running (.cycle 3000#16 1048575#32 0#32)).gen.drive.index = 0
    ∧ demand { mean := 5000#16, amplitude := 3000#16, index := 0 } 1024#16 = 5000 := by decide +kernel

/-- Section 3.11, three channels at index 512: the update that brings the index from 508 to 512. -/
theorem test_three_channels_at_index_512 :
    leaves .update (rig (cycling .running 532676608#32 0#32 0#32))
      (fun t => t.outputs[2] == { setpoint := 3400#16, held := 0#16, clamped := true, slewing := false }
        && t.outputs[3] == { setpoint := 7100#16, held := 0#16, clamped := false, slewing := true }
        && t.outputs[5].setpoint == 440#16) = true := by decide +kernel

/-- Section 3.11, update 1 of the unload, the generator PAUSED at index 512. -/
theorem test_unloading_moves_at_the_unload_rate :
    leaves .update
        (standing (withZone1 (rig (cycling .paused 536870912#32 0#32 0#32)) { normalZone with state := .unloading }) 3400#16
          7121#16)
      (fun t => t.outputs[2] == { setpoint := 3380#16, held := 0#16, clamped := true, slewing := false }
        && t.outputs[3].setpoint == 7101#16 && t.zones[1].state == .unloading) = true := by decide +kernel

/-- Section 3.11, update 713 of the reload: Z1 enters NORMAL and the generator RUNNING. -/
theorem test_reload_completes :
    leaves (.zoneRampComplete 1)
        (standing (withZone1 (rig (cycling .paused 536870912#32 0#32 0#32)) { normalZone with state := .reloading }) 3400#16
          7120#16)
      (fun t => t.outputs[2].setpoint == 3400#16 && t.outputs[3].setpoint == 7121#16 && t.zones[1].state == .normal
        && t.gen.state == .running) = true := by decide +kernel

/-! ### Chapter 4 -/

/-- Section 4.5, step 6: at the boundary the staged shares come into force, and CH2 and CH3 slew toward them. -/
theorem test_commit_at_a_boundary :
    leaves .commitApplyBoundary
        (let s := standing (rig (cycling .running 4290772992#32 0#32 0#32)) 2341#16 4982#16
         { s with
           commit := .armedBoundary
           stagedSet := { s.activeSet with share := (s.activeSet.share.set 2 2560#16).set 3 3584#16 } })
      (fun t => t.outputs[2] == { setpoint := 2381#16, held := 0#16, clamped := false, slewing := true }
        && t.outputs[3] == { setpoint := 4882#16, held := 0#16, clamped := false, slewing := true }
        && t.activeSet.share[2] == 2560#16 && t.commit == .none
        && t.queue.records.map (fun r => (r.body, r.cycle)) == [(.commit .appliedBoundary, 1#40)]) = true := by decide +kernel

/-- Section 4.5, step 5: staging is refused BUSY while a commit is armed. -/
theorem test_stage_scale_is_busy_while_armed :
    leaves (.stageScale .director 1100#16) { quiet with commit := .armedBoundary }
      (fun t => t.answerOf .director == some [0x04#8, 0#8, 0#8] && t.stagedSet.ascale == 1024#16) = true := by decide +kernel

/-- Section 4.5: DISARM keeps the staged values and makes a CANCELLED record. -/
theorem test_disarm_cancels :
    leaves (.disarm .director) { quiet with commit := .armedBoundary }
      (fun t => t.commit == .none && t.queue.records.map Record.body == [.commit .cancelled]
        && t.holds (.frame 0) .commitDone) = true := by decide +kernel

/-! ### Chapter 5 -/

/-- Section 5.8: FRAME1's two channels under a handed-out value, CH2 with a number of misses. -/
def exchanging (misses : Nat) : State :=
  let s := standing (rig (cycling .running 0#32 0#32 0#32)) 3400#16 7100#16
  { s with
    channels := s.channels.set 2 { (s.channels[2]) with trackingAction := .holdZone, method := .manual }
    supervision := (s.supervision.set 2 { (s.supervision[2]) with handedOut := some 3400#16, misses := misses }).set 3
      { (s.supervision[3]) with handedOut := some 7100#16 } }

/-- Section 5.8, E3: an error of 48 within tol 50 is a hit, and the count falls back to 0. -/
theorem test_a_hit_forgets_the_misses :
    leaves (.servoExchange (.frame 1) 3352#16 7100#16 0#16 0#16) (exchanging 2)
      (fun t => t.supervision[2].misses == 0 && !t.supervision[2].tracking && t.zones[1].state == .normal) = true := by
  decide +kernel

/-- Section 5.8, E6: the third miss in a row raises TRACKING, Z1 is HELD, the generator PAUSED; the answer is HOLD for both. -/
theorem test_third_miss_holds_the_zone :
    leaves (.servoExchange (.frame 1) 3320#16 7100#16 0#16 0#16) (exchanging 2)
      (fun t => t.supervision[2].tracking && t.supervision[2].misses == 0 && t.zones[1].state == .held
        && t.gen.state == .paused && t.outputs[2].held == 3400#16 && t.outputs[3].held == 7100#16
        && (t.answerOf (.frame 1)).map (fun b => (b.drop 3).take 9) ==
            some [1#8, 0x0D#8, 0x48#8, 0#8, 1#8, 0x1B#8, 0xBC#8, 0#8, 0x02#8]) = true := by decide +kernel

/-- Frame 2 of section 5.9 with one count remaining, the generator RUNNING. -/
def stalled (dog : DogState) : State :=
  let s := cycling .running 0#32 0#32 0#32
  { s with
    frames := s.frames.set 2 { (s.frames[2]) with period := 20#16, dog := dog, remaining := 1#16, late := dog == .late } }

/-- Section 5.9, count 1020: LATE with 20 remaining, Z2 HELD, OWN_LATE at FRAME2 alone. -/
theorem test_watchdog_enters_late :
    leaves (.watchdogExpiry 2 (count 0#16)) (stalled .alive)
      (fun t => t.frames[2].dog == .late && t.frames[2].remaining == 20#16 && t.zones[2].state == .held
        && t.gen.state == .paused && t.holds (.frame 2) .ownLate && !t.holds (.frame 1) .ownLate
        && t.holds (.frame 1) .alarm) = true := by decide +kernel

/-- Section 5.9, count 1040: LOST with 0 remaining, Z2 DUMPED, DUMP2n asserted. -/
theorem test_watchdog_enters_lost :
    leaves (.watchdogExpiry 2 (count 0#16)) (stalled .late)
      (fun t => t.frames[2].dog == .lost && t.frames[2].remaining == 0#16 && t.frames[2].late && t.frames[2].lost
        && t.dumpAsserted 2 && !t.dumpAsserted 1) = true := by decide +kernel

/-- R85, R91: TRIP at FRAME2 with a reason unloads its zone, by the default trip action. -/
theorem test_trip_unloads_the_zone :
    leaves (.trip (.frame 2) 7#8) (cycling .running 0#32 0#32 0#32)
      (fun t => t.frames[2].trip && t.frames[2].tripReason == 7#8 && t.zones[2].state == .unloading) = true := by decide +kernel

/-! ### Chapter 6 -/

/-- The table of R102: the strain, and whether it saturates. -/
theorem test_strain_table :
    ([(1204530, 1180000, 1200#16), (1150000, 1180000, 1200#16), (1204530, 1180000, 0xFB50#16), (1, 0, 32767#16), (3, 1, 16384#16)
      , (-1, 1, 16384#16), (3180000, 1180000, 1200#16), (-820000, 1180000, 1200#16)] : List (Int × Int × Half)).map
      (fun x =>
        let cfg := { GaugeConfig.default 17 with zero := BitVec.ofInt 24 x.2.1, scale := x.2.2 }
        ((saturatedStrain cfg (BitVec.ofInt 24 x.1)).toInt, strainSaturates cfg (BitVec.ofInt 24 x.1))) =
      [(449, false), (-549, false), (-449, false), (0, false), (1, false), (0, false), (32767, true), (-32767, true)] := by
  decide +kernel

/-- Gauge G17 as section 6.9 sets it, with given running fields. -/
def gauge17 (run : GaugeRun) : Gauge :=
  { config := { GaugeConfig.default 17 with
      enabled := true, zero := 1180000#24, scale := 1200#16, lo := 0xFE0C#16, hi := 600#16, n := 3, staleTime := 5#16
      driftLimit := 40#16, m := 3, windowAction := .report, faultAction := .report, driftAction := .report, method := .timed
      seconds := 30#16 }
    run := run }

/-- A state with that gauge G17. -/
def gauged (s : State) (run : GaugeRun) : State :=
  { s with gauges := s.gauges.set 17 (gauge17 run) }

/-- The frame of section 10.6: bytes 68, 18, 97, 50 and the check byte 22. -/
def goodFrame : BitVec 40 := 0x4412613216#40

/-- Section 10.6: that frame gives G17 449 µε and restarts its stale timer. -/
theorem test_gauge_frame_is_converted :
    leaves (.gaugeFrame 0 goodFrame) (gauged quiet { GaugeRun.fresh with stale := .expired, fault := some .stale })
      (fun t => t.gauges[17].run.current == some 449#16 && t.gauges[17].run.stale == .running
        && t.gauges[17].run.staleLeft == 5#16 && t.gauges[17].run.fault == none) = true := by decide +kernel

/-- Section 10.6: with the check byte 23 it is discarded. -/
theorem test_wrong_check_byte_is_discarded :
    leaves (.gaugeFrame 0 0x4412613217#40) (gauged quiet GaugeRun.fresh)
      (fun t => t.gauges[17] == gauge17 GaugeRun.fresh) = true := by decide +kernel

/-- Section 6.9, sample 7: the third sample outside (655 µε, raw 1,215,772) makes WINDOW active; REPORT leaves Z1 NORMAL. -/
theorem test_third_outside_sample_raises :
    leaves (.gaugeFrame 0 0x44128D1C00#40) (gauged quiet { GaugeRun.fresh with outCount := 2 })
      (fun t => t.gauges[17].run.current == some 655#16 && t.gauges[17].run.window && t.gauges[17].run.outCount == 0
        && t.zones[1].state == .normal && (t.zones[1].entries.map Entry.source) == [.gaugeWindow 17]) = true := by
  decide +kernel

/-- Section 6.9, count 2005: the expiry finds the FAULT active and keeps its cause. -/
theorem test_stale_expiry_keeps_the_cause :
    leaves (.staleExpiry 17 (count 0#16))
        (gauged quiet { GaugeRun.fresh with stale := .running, staleLeft := 1#16, fault := some .open })
      (fun t => t.gauges[17].run.stale == .expired && t.gauges[17].run.fault == some .open
        && t.zones[1].entries == []) = true := by decide +kernel

/-- Section 6.9, boundary b1: the pending capture takes the range 570. -/
theorem test_baseline_is_captured :
    leaves (.baselineCapture 17)
        (gauged (cycling .running 4290772992#32 0#32 0#32)
          { GaugeRun.fresh with running := some { peak := 452#16, valley := 0xFF8A#16 }, capture := true })
      (fun t => t.gauges[17].run.baseline == some 570#16 && !t.gauges[17].run.capture
        && t.gauges[17].run.driftCount == 0 && t.gauges[17].run.running == none) = true := by decide +kernel

/-- Section 6.9, boundary b9: the third drifted cycle in a row raises GAUGE_DRIFT, its 30 s clear-timer starting at the raise. -/
theorem test_third_drifted_cycle_raises :
    leaves .boundary
        (gauged (cycling .running 4290772992#32 0#32 0#32)
          { GaugeRun.fresh with
            running := some { peak := 500#16, valley := 0xFF65#16 }, baseline := some 570#16, driftCount := 2 })
      (fun t => t.gauges[17].run.driftCount == 0
        && (t.zones[1].entries.map fun e => (e.source, e.timer)) == [(.gaugeDrift 17, 30000#32)]) = true := by decide +kernel

/-! ### Chapter 7 -/

/-- A crack input of section 7.9 after some samples; CK6 with n 4 in Z3, CK9 with n 3 in Z2. -/
def cracked (i : Fin 16) (z : Fin 4) (sense : Sense) (n : Nat) (action : Action) (method : Method) (q : Qualifier) : State :=
  { quiet with
    cracks := quiet.cracks.set i
      { (quiet.cracks[i]) with
        config := { (quiet.cracks[i]).config with
          enable := true, zone := z, sense := sense, n := n, action := action, method := method, seconds := 120#16 }
        qualifier := q } }

/-- Section 7.9, count 5011: the fourth high sample raises CRACK 6 into Z3. -/
theorem test_fourth_high_sample_raises :
    leaves (.referenceCount (count 0x0040#16))
        (cracked 6 3 .levelHigh 4 .unloadZone .manual { level := some .low, last := some .high, run := 3 })
      (fun t => t.cracks[6].condition && t.cracks[6].detected && t.cracks[6].qualifier.level == some .high
        && t.zones[3].state == .unloading) = true := by decide +kernel

/-- Section 7.9: the ladder gauge's first qualification, from UNKNOWN, is no detection. -/
theorem test_first_qualification_is_no_detection :
    leaves (.referenceCount (count 0x0200#16))
        (cracked 9 2 .anyChange 3 .report .timed { level := none, last := some .high, run := 2 })
      (fun t => t.cracks[9].qualifier.level == some .high && !t.cracks[9].detected && t.zones[2].entries == []) = true := by
  decide +kernel

/-- Section 7.9: the rung's cut is a detection; its condition is clear, so its 120 s clear-timer starts at once. -/
theorem test_rung_cut_is_a_detection :
    leaves (.referenceCount (count 0#16))
        (cracked 9 2 .anyChange 3 .report .timed { level := some .high, last := some .low, run := 2 })
      (fun t => t.cracks[9].detected && !t.cracks[9].condition
        && (t.zones[2].entries.map fun e => (e.source, e.condition, e.timer)) == [(.crack 9, false, 120000#32)]) = true := by
  decide +kernel

/-- Section 7.9, count 8002: the second low sample of STOPn dumps every zone. -/
theorem test_stop_line_dumps_every_zone :
    leaves (.referenceCount { ck := 0#16, stopn := .low })
        { quiet with stopLine := { qualifier := { level := some .high, last := some .low, run := 1 }, condition := false } }
      (fun t => t.stopHold && t.stopLine.condition && allZones.all fun z => t.dumpAsserted z) = true := by decide +kernel

/-! ### Chapters 8 and 9 -/

/-- Section 11.1, step 10: RELEASE of tag 1 takes Z0 to UNLOADED and makes two records. -/
theorem test_release_after_reset :
    leaves (.release .director 0#8 1#16) State.reset
      (fun t => t.zones[0].state == .unloaded && t.zones[0].entries == [] && !t.dumpAsserted 0
        && t.queue.records.map Record.body ==
          [.alarmCleared 0 1#16 .source (.restart 0) .manual .unloaded, .zoneChange 0 .dumped .unloaded]) = true := by
  decide +kernel

/-- Section 8.11, step 5: a release while the crack wire is broken is refused STATE. -/
theorem test_release_of_an_active_entry_is_refused :
    leaves (.release .director 1#8 11#16)
        (withZone1 quiet { normalZone with state := .unloading, entries := [entry 11#16 (.crack 5) .unloadZone .manual true] })
      (fun t => t.answerOf .director == some [0x05#8, 0#8, 0#8] && t.zones[1].state == .unloading) = true := by decide +kernel

/-- Section 8.11, step 11: a REPORT entry does not stand in the way of the reload. -/
theorem test_reload_with_a_report_entry :
    leaves (.reloadZone .director 1#8)
        (withZone1 quiet { normalZone with state := .unloaded, entries := [entry 9#16 (.gaugeWindow 17) .report .timed false] })
      (fun t => t.zones[1].state == .reloading && t.queue.records.map Record.body == [.zoneChange 1 .unloaded .reloading]) =
      true := by decide +kernel

/-- Section 8.11, step 13: the 30 s clear-timer of entry 9 runs out. -/
theorem test_clear_timer_removes :
    leaves (.clearTimerExpiry 1 9#16 (count 0#16))
        (withZone1 quiet { normalZone with
          entries := [{ entry 9#16 (.gaugeWindow 17) .report .timed false with timer := 1#32 }] })
      (fun t => t.zones[1].entries == []
        && t.queue.records.map Record.body == [.alarmCleared 1 9#16 .source (.gaugeWindow 17) .timed .normal]) = true := by
  decide +kernel

/-- The twelve REPORT entries of section 8.11, tags 20 to 31. -/
def twelve : List Entry :=
  (List.finRange 12).map fun k =>
    entry (BitVec.ofNat 16 (20 + k.val)) (.gaugeWindow ⟨32 + k.val, by omega⟩) .report .manual true

/-- Section 8.11, a stop while a list is full: tags 32 and 33 in Z0 and Z1, the overflow entry 34 in Z2, tag 35 in Z3. -/
theorem test_stop_into_a_full_list :
    leaves (.referenceCount { ck := 0#16, stopn := .low })
        { quiet with
          stopLine := { qualifier := { level := some .high, last := some .low, run := 1 }, condition := false }
          tagCounter := 32#16, zones := quiet.zones.set 2 { normalZone with entries := twelve } }
      (fun t => t.tagCounter == 36#16 && t.zones[0].entries.map Entry.tag == [32#16]
        && t.zones[1].entries.map Entry.tag == [33#16] && t.zones[3].entries.map Entry.tag == [35#16]
        && (t.zones[2].entries.drop 12).map (fun e => (e.tag, e.kind, e.action, e.condition, e.source)) ==
            [(34#16, .overflow, .dumpAll, false, .stop)]) = true := by decide +kernel

/-- Section 9.6, step 6: the take that leaves one record, which is OFF, clears LOG_READY. -/
theorem test_take_record_clears_log_ready :
    leaves (.takeRecord .logger)
        { quiet with queue :=
          { quiet.queue with on := 4, off := 1, records := [plainRecord 43#16, plainRecord 44#16], logReady := true } }
      (fun t => t.queue.records == [plainRecord 44#16] && !t.queue.logReady && !t.holds .logger .logReady) = true := by
  decide +kernel

/-- Section 9.6, step 2: the second boundary makes the AUTO snapshot and the counter is 0 again. -/
theorem test_second_boundary_makes_a_snapshot :
    leaves .boundary
        { cycling .running 4290772992#32 0#32 0#32 with
          queue := { quiet.queue with on := 4, off := 1, interval := 2#16, autoCount := 1#16, nextSeq := 40#16 } }
      (fun t => t.queue.autoCount == 0#16 && t.queue.records.map (fun r => (r.seq, r.body.kindCode)) == [(40#16, 0x01#8)]) =
      true := by decide +kernel

/-- R155: an OFF at or above ON is clamped to ON − 1. -/
theorem test_set_queue_clamps_off :
    leaves (.setQueue .director 4#8 9#8 2#16) quiet
      (fun t => t.queue.off == 3 && t.answerOf .director == some [0x00#8, 0#8, 5#8, 4#8, 3#8, 0#8, 2#8, 0#8]) = true := by
  decide +kernel

/-- Section 9.6: a full queue meets an alarm; the oldest SNAPSHOT gives its place to a safety record, the PAUSE is dropped. -/
theorem test_full_queue_evicts_a_snapshot :
    let full : State := { quiet with queue :=
      { quiet.queue with records := snapshotRecord 1000#16 :: List.replicate 127 (plainRecord 1001#16), nextSeq := 1128#16 } }
    ((full.record (.zoneChange 0 .normal .held)).queue.records.map Record.seq).head? = some 1001#16
      ∧ (full.record (.zoneChange 0 .normal .held)).queue.records.length = 128
      ∧ (full.record (.program 0 .ramp .paused .pause)).queue.records = full.queue.records
      ∧ (full.record (.program 0 .ramp .paused .pause)).queue.nextSeq = 1129#16 := by decide +kernel

/-- R15: after REINIT every zone is DUMPED behind a RESTART entry with the next tags, and the masks are empty. -/
theorem test_reinit_dumps_and_numbers_on :
    leaves (.reinit .director) { quiet with tagCounter := 12#16, stamp := 77#32 }
      (fun t => t.stamp == 77#32 && t.tagCounter == 16#16 && (allZones.all fun z => t.dumpAsserted z)
        && (t.zones[3].entries.map Entry.tag) == [15#16]) = true := by decide +kernel

/-! ## Witnesses: states and operands that meet the hypotheses of each statement -/

/-! ### Small states for the witnesses -/

/-- The director's window, changed, with every zone NORMAL. -/
def directorWindow (f : Window → Window) : State :=
  { quiet with ports := quiet.ports.set 4 { (quiet.ports[4]) with window := f (Window.idle true) } }

/-- The generator of a state, changed. -/
def genned (s : State) (f : Generator → Generator) : State :=
  { s with gen := f s.gen }

/-- Zone 1 in a state with its list. -/
def zoned (st : ZoneState) (entries : List Entry) : State :=
  withZone1 quiet { normalZone with state := st, entries := entries }

/-- The record queue holding some records. -/
def queued (records : List Record) : State :=
  { quiet with queue := { quiet.queue with records := records } }

/-- A MANUAL entry of a crack input that asks for an unload. -/
def crackEntry (condition : Bool) : Entry :=
  entry 11#16 (.crack 5) .unloadZone .manual condition

/-- A run of one sample of a level, the level known before. -/
def knownLow (run : Nat) (last : Level) : Qualifier :=
  { level := some .low, last := some last, run := run }

/-- Arguments of SET_CHANNEL at the bounds of their ranges, in no conflict. -/
def channelArgs : ChannelArgs :=
  { channel := 7#8, fmin := 0x8000#16, fmax := 32767#16, rmax := 32767#16, ul := 32767#16, tol := 1#16, k := 15#8
    fabs := 32767#16, smin := 5#16, smax := 5#16, trackingAction := 6#8, overforceAction := 6#8, strokeAction := 6#8
    method := 2#8, seconds := 3600#16, zone := 3#8 }

/-- Arguments of SET_GAUGE at the bounds of their ranges, in no conflict. -/
def gaugeArgs : GaugeArgs :=
  { gauge := 63#8, enabled := 1#8, zero := 0x800000#24, scale := 0x8001#16, lo := 0x8001#16, hi := 0x8001#16, n := 15#8
    staleTime := 1000#16, driftLimit := 32767#16, m := 15#8, zone := 3#8, windowAction := 6#8, faultAction := 6#8
    driftAction := 6#8, method := 2#8, seconds := 3600#16 }

/-- Arguments of SET_FRAME at the bounds of their ranges, in no conflict. -/
def frameArgs : FrameArgs :=
  { frame := 3#8, period := 0xFFFF#16, lateAction := 6#8, lostAction := 6#8, tripAction := 6#8, method := 2#8
    seconds := 3600#16 }

/-- Arguments of SET_CRACK at the bounds of their ranges, in no conflict. -/
def crackArgs : CrackArgs :=
  { input := 15#8, enable := 1#8, sense := 4#8, n := 15#8, zone := 3#8, action := 6#8, method := 2#8, seconds := 3600#16 }

/-! ### Chapter 1 -/

theorem witness_refused_request :
    ∃ t, requestName? (.start (.frame 0)) = some (.frame 0, .start) ∧ exec (.start (.frame 0)) quiet = .next t
      ∧ t.answerOf (.frame 0) = some (0x01#8 :: [0#8, 0#8]) ∧ 0x01#8 ≠ 0x00#8 :=
  ⟨quiet.serve (.frame 0) .start 0 _, by decide +kernel, rfl, by decide +kernel, by decide⟩

theorem witness_denied_and_granted :
    (∃ t, requestName? (.start (.frame 0)) = some (.frame 0, .start) ∧ exec (.start (.frame 0)) quiet = .next t
        ∧ (t.answerOf (.frame 0)).bind List.head? = some 0x01#8)
      ∧ ∃ t, requestName? (.readQueue .logger) = some (.logger, .readQueue) ∧ exec (.readQueue .logger) quiet = .next t
        ∧ (t.answerOf .logger).bind List.head? = some 0x00#8 :=
  ⟨⟨quiet.serve (.frame 0) .start 0 _, by decide +kernel, rfl, by decide +kernel⟩,
    ⟨_, by decide +kernel, rfl, by decide +kernel⟩⟩

theorem witness_event_masks :
    (((PortId.director = .director ∨ PortId.director = .logger) ∧ (0x40#8).getLsbD 6 = true)
        ∧ ((PortId.logger = .director ∨ PortId.logger = .logger) ∧ (0xFF#8).getLsbD 6 = true))
      ∧ ((∃ f, PortId.frame 3 = .frame f) ∨ (0x7F#8).getLsbD 6 = false)
      ∧ ((0xBF#8).getLsbD 6 = false) := by
  refine ⟨by decide, Or.inl ⟨3, rfl⟩, by decide⟩

theorem witness_malformed_request :
    ∀ x ∈ [(0xFF, 0), (0x00, 0), (0x33, 2), (0x30, 7), (0x63, 0x0104)],
      ∀ row ∈
        [([0x01, 0x02, 0x0E, 0x13, 0x14, 0x15, 0x17, 0x18, 0x25, 0x41, 0x4A, 0x60, 0x61, 0x62, 0x64], [0]),
         ([0x03, 0x04, 0x11, 0x12, 0x16, 0x21, 0x24, 0x31, 0x52, 0x53], [1]), ([0x23, 0x42, 0x49], [2]), ([0x51], [3]),
         ([0x63], [4]), ([0x22], [5]), ([0x50], [6]), ([0x30], [8]), ([0x32, 0x48], [9]), ([0x10], [12]), ([0x40], [24]),
         ([0x20], [25]), ([0x33], [0, 1])],
        (BitVec.ofNat 8 x.1).toNat ∈ row.1 → (BitVec.ofNat 16 x.2).toNat ∉ row.2 := by decide +kernel

theorem witness_select :
    quiet.ports[portIndex .director].window.selected = false
      ∧ (∀ ph ∈ [Phase.idle, .code, .length, .arguments],
          let w := (directorWindow fun w => { w with phase := ph }).ports[portIndex .director].window
          w.selected = true ∧ w.phase ∈ [Phase.idle, .code, .length, .arguments])
      ∧ ∀ ph ∈ [Phase.answer, .spent],
          let w := (directorWindow fun w => { w with phase := ph }).ports[portIndex .director].window
          w.selected = true ∧ w.phase ∈ [Phase.answer, .spent] := by decide +kernel

/-- A window that moves, and a mask that moves by each of the commands that may: SET_EVENT_MASK and REINIT as rows and as their last
bytes, and HARDWARE_RESET. -/
theorem witness_windows_and_masks_move :
    let masked (f : Window → Window) : State :=
      let s := directorWindow f
      { s with ports := s.ports.map fun q => { q with mask := 3#7 } }
    let moves (c : Instr) (f : Window → Window) (p : PortId) : Bool :=
      leaves c (masked f) fun t => t.ports[portIndex p].mask != 3#7
    leaves (.selectAsserted .logger) quiet (fun t => t.ports[portIndex .logger].window != quiet.ports[portIndex .logger].window)
        = true
      ∧ moves (.setEventMask .director 1#8) id .director = true ∧ moves (.reinit .director) id .logger = true
      ∧ moves (.hardwareReset 0#6) id (.frame 0) = true
      ∧ moves (.portByteClocked .director 1#8)
          (fun w => { w with phase := .arguments, code := 0x04#8, length := 1#16, expected := 1 }) .director = true
      ∧ moves (.portByteClocked .director 0#8) (fun w => { w with phase := .length, code := 0x0E#8, lengthHigh := some 0#8 })
          .logger = true := by decide +kernel

/-- The hypotheses of the seven clauses on one byte: deselected; IDLE and SPENT; CODE; the first length byte; a length accepted
(1 byte, and the longest, 25); a length not accepted; an argument byte with two still expected. -/
theorem witness_bytes_before_taking :
    let at' (f : Window → Window) : Window := (directorWindow f).ports[portIndex .director].window
    quiet.ports[portIndex .director].window.selected = false
      ∧ ((at' fun w => { w with phase := .idle }).selected = true ∧ (at' fun w => { w with phase := .idle }).phase = .idle)
      ∧ ((at' fun w => { w with phase := .spent }).selected = true ∧ (at' fun w => { w with phase := .spent }).phase = .spent)
      ∧ ((at' fun w => { w with phase := .code }).selected = true ∧ (at' fun w => { w with phase := .code }).phase = .code)
      ∧ (let w := at' fun w => { w with phase := .length, code := 0x20#8 }
         w.selected = true ∧ w.phase = .length ∧ w.lengthHigh = none)
      ∧ (∀ x ∈ [(0x16, 1), (0x20, 25)],
          let w := at' fun w => { w with phase := .length, code := BitVec.ofNat 8 x.1, lengthHigh := some 0#8 }
          w.selected = true ∧ w.phase = .length ∧ w.lengthHigh = some 0#8
            ∧ (accepted? w.code ((0#8).toNat * 256 + (BitVec.ofNat 8 x.2).toNat)).isSome = true
            ∧ (0#8).toNat * 256 + (BitVec.ofNat 8 x.2).toNat ≠ 0)
      ∧ (let w := at' fun w => { w with phase := .length, code := 0x20#8, lengthHigh := some 1#8 }
         w.selected = true ∧ w.phase = .length ∧ w.lengthHigh = some 1#8
          ∧ accepted? w.code ((1#8).toNat * 256 + (25#8).toNat) = none)
      ∧ (let w := at' fun w => { w with phase := .arguments, code := 0x20#8, expected := 2 }
         w.selected = true ∧ w.phase = .arguments ∧ 1 < w.expected) := by decide +kernel

theorem witness_request_bytes :
    (requestName? (.stop .director 0#8) = some (.director, .stop)
        ∧ (directorWindow fun w => { w with phase := .code }).ports[portIndex .director].window.selected = true
        ∧ (directorWindow fun w => { w with phase := .code }).ports[portIndex .director].window.phase = .code)
      ∧ requestName? (.setChannel .director channelArgs) = some (.director, .setChannel) := by decide +kernel

theorem witness_answer_bytes :
    let w := (directorWindow fun w => { w with phase := .answer, unsent := [0#8, 0#8, 1#8, 7#8] }).ports[portIndex .director].window
    w.selected = true ∧ w.phase = .answer
      ∧ ∀ bytes ∈ [[0xAA#8], [1#8, 2#8, 3#8, 4#8]], bytes ≠ [] ∧ bytes.length ≤ w.unsent.length := by decide +kernel

theorem witness_answers_stand :
    (requestName? (.readIdent (.frame 3)) = some (.frame 3, .readIdent) ∧ ∃ t, exec (.readIdent (.frame 3)) quiet = .next t)
      ∧ accepted? 0xFF#8 (0#16).toNat = none ∧ ∃ t, exec (.malformedRequest .logger 0xFF#8 0#16) quiet = .next t :=
  ⟨⟨by decide +kernel, _, rfl⟩, by decide +kernel, _, rfl⟩

theorem witness_arguments :
    requestName? (.setGauge .director gaugeArgs) = some (.director, .setGauge)
      ∧ parseRequest .logger .readFrame [] = some (.readFrame .logger none)
      ∧ parseRequest .director .stageScale [0x07#8, 0xFF#8] = some (.stageScale .director 0x07FF#16) := by decide +kernel

theorem witness_reinit :
    (withBlock .running (.dwell 1#32)).gen.state = .running ∧ (withBlock .paused (.dwell 1#32)).gen.state = .paused
      ∧ quiet.gen.state = .stopped ∧ (genned quiet fun g => { g with state := .done }).gen.state = .done
      ∧ (queued (List.replicate 120 (plainRecord 1#16))).gen.state = .stopped
      ∧ (queued (List.replicate 120 (plainRecord 1#16))).queue.records.length ≤ 120 := by decide +kernel

theorem witness_reads :
    (7#8).toNat = (7 : Fin 8).val ∧ (3#8).toNat = (3 : Fin 4).val
      ∧ ((63#8).toNat ≤ 63 ∧ 1 ≤ (1#8).toNat ∧ (63#8).toNat + (1#8).toNat ≤ 64 ∧ 0 < (1#8).toNat
          ∧ (63 : Fin 64).val = (63#8).toNat + 0)
      ∧ ((0#8).toNat ≤ 63 ∧ 1 ≤ (64#8).toNat ∧ (0#8).toNat + (64#8).toNat ≤ 64 ∧ 63 < (64#8).toNat
          ∧ (63 : Fin 64).val = (0#8).toNat + 63) := by decide +kernel

/-- A channel, a frame or zone and a first gauge one past the last, a count of 0, and a range that ends one past gauge 63. -/
theorem witness_reads_ranges :
    8 ≤ (8#8).toNat ∧ 4 ≤ (4#8).toNat
      ∧ ∀ x ∈ [((64 : Nat), (1 : Nat)), (63, 0), (63, 2), (0, 65)],
          63 < (BitVec.ofNat 8 x.1).toNat ∨ BitVec.ofNat 8 x.2 = 0#8
            ∨ 64 < (BitVec.ofNat 8 x.1).toNat + (BitVec.ofNat 8 x.2).toNat := by decide +kernel

/-! ### Chapter 2 -/

theorem witness_write_block :
    (63#8).toNat = (63 : Fin 64).val
      ∧ (((withBlock .running (.dwell 1#32)).gen.state = .running ∨ (withBlock .running (.dwell 1#32)).gen.state = .paused)
          ∧ (withBlock .running (.dwell 1#32)).gen.current = some 0)
      ∧ ¬ ((quiet.gen.state = .running ∨ quiet.gen.state = .paused) ∧ quiet.gen.current = some (63 : Fin 64))
      ∧ ((1#16 ++ 0xABCD#16 : Word) = 0x0001ABCD#32 ∧ 1 ≤ (1#16).toNat ∧ (32767#16).toNat ≤ 32767)
      ∧ (1 ≤ (1#32).toNat ∧ (16777215#32).toNat ≤ 16777215)
      ∧ (0 ≤ (0#16).toInt ∧ 1 ≤ (1#32).toNat)
      ∧ (0#8).toNat = (0 : Fin 64).val ∧ (0x0055#16 = (0#8 : Byte) ++ 0x55#8) ∧ ((1#16 : Half) ++ 0#16 = 0x00010000#32)
      ∧ 1 ≤ (1#16).toNat ∧ (0 : Fin 64) ≠ 63 := by decide +kernel

/-- Fields one past each bound of WRITE_BLOCK's ranges: the index and the kind; a RAMP's rate; a DWELL's duration; a CYCLE's amplitude; a
JUMP's index and its repeat count. -/
theorem witness_write_block_ranges :
    (63 < (64#8).toNat ∧ 4 < (5#8).toNat)
      ∧ (∃ rate unused : Half, 0x0000ABCD#32 = rate ++ unused ∧ (rate = 0#16 ∨ 32767 < rate.toNat))
      ∧ (∃ rate unused : Half, 0x8000ABCD#32 = rate ++ unused ∧ (rate = 0#16 ∨ 32767 < rate.toNat))
      ∧ 16777215 < (0x1000000#32).toNat ∧ (0xFFFF#16).toInt < 0
      ∧ (∃ jb unused : Byte, 0x4055#16 = jb ++ unused ∧ 63 < jb.toNat) ∧ ∃ unused : Half, 0x00001234#32 = 0#16 ++ unused :=
  ⟨by decide, ⟨0#16, 0xABCD#16, by decide, by decide⟩, ⟨0x8000#16, 0xABCD#16, by decide, by decide⟩, by decide, by decide,
    ⟨0x40#8, 0x55#8, by decide, by decide⟩, 0x1234#16, by decide⟩

theorem witness_start_index :
    (63#8).toNat = (63 : Fin 64).val ∧ 64 ≤ (64#8).toNat
      ∧ (let s := genned (withBlock .stopped (.dwell 1#32)) fun g => { g with current := none }
         s.gen.executing = false ∧ s.allNormal = true ∧ s.gen.program[s.gen.startIndex].governs = true) := by decide +kernel

theorem witness_start :
    (withBlock .running (.dwell 1#32)).gen.executing = true
      ∧ (State.reset.zones[(3 : Fin 4)].state ≠ .normal)
      ∧ (∀ b ∈ [Block.ramp 0#16 1#16, .dwell 1#32, .cycle 0#16 1#32 0#32],
          let s := genned (withBlock .done b) fun g => { g with current := none }
          s.gen.executing = false ∧ (∀ z : Fin 4, s.zones[z].state = .normal)
            ∧ s.gen.program[s.gen.startIndex].governs = true)
      ∧ (quiet.gen.executing = false ∧ (∀ z : Fin 4, quiet.zones[z].state = .normal)
          ∧ quiet.gen.program[quiet.gen.startIndex] = .stop ∧ quiet.queue.records.length < 128) := by decide +kernel

/-- Where the chain from an index of a generator's program ends, from its loop counters. -/
def reachedFrom (g : Generator) (i : Nat) : ChainEnd :=
  (chain g.program 8 i g.loops false).2

/-- A program of JUMPs without end from an index on. -/
def endless (i : Fin 64) : Vector Block 64 :=
  (Vector.replicate 64 (.jump i 9#16)).set i (.jump (i + 1) 9#16)

/-- A start index at a JUMP that jumps, at the last block, and at a chain of JUMPs without end; room for one record. -/
theorem witness_start_reaches :
    (let s := genned (cycling .done 0#32 1#32 1#32) fun g => { g with current := none, startIndex := 3 }
     s.gen.executing = false ∧ (∀ z : Fin 4, s.zones[z].state = .normal) ∧ reachedFrom s.gen 3 = .governs 1 true)
      ∧ reachedFrom quiet.gen 63 = .ends 63 .done
      ∧ reachedFrom { quiet.gen with program := endless 7 } 7 = .ends 7 .loopLimit
      ∧ (queued (List.replicate 127 (plainRecord 1#16))).queue.records.length < 128 := by decide +kernel

theorem witness_pause_and_resume :
    ((withBlock .running (.dwell 1#32)).gen.state = .running ∧ (withBlock .running (.dwell 1#32)).gen.current = some 0)
      ∧ (withBlock .paused (.dwell 1#32)).gen.state = .paused
      ∧ (withBlock .paused (.dwell 1#32)).gen.current = some 0 ∧ (withBlock .paused (.dwell 1#32)).pauseDemand = false
      ∧ quiet.gen.state = .stopped ∧ (genned quiet fun g => { g with state := .done }).gen.state = .done
      ∧ quiet.gen.state ≠ .paused ∧ State.reset.pauseDemand = true := by decide +kernel

theorem witness_stop_and_advance :
    2 ≤ (2#8).toNat ∧ (0#8).toNat ≤ 1 ∧ (1#8).toNat ≤ 1
      ∧ (let s := withBlock .running (.dwell 1#32)
         s.gen.executing = true ∧ s.gen.current = some 0 ∧ ∀ a f n, s.gen.program[(0 : Fin 64)] ≠ .cycle a f n)
      ∧ (let s := withBlock .paused (cycleBlock 0#32)
         s.gen.executing = true ∧ s.gen.current = some 0
          ∧ s.gen.program[(0 : Fin 64)] = .cycle 3000#16 4194304#32 0#32)
      ∧ quiet.gen.executing = false := by
  refine ⟨by decide, by decide, by decide, ⟨by decide +kernel, by decide +kernel, ?_⟩, by decide +kernel, by decide +kernel⟩
  intro a f n h
  have e : (withBlock .running (.dwell 1#32)).gen.program[(0 : Fin 64)] = .dwell 1#32 := by decide +kernel
  rw [e] at h
  cases h

/-- A RAMP before, at and past its target; pending and not; a DWELL at 2, at 1 and with ADVANCE pending; blocks 0 and 63. -/
theorem witness_timed_blocks :
    (∀ m ∈ [0, 4990, 5000], ∀ adv ∈ [true, false],
        let s := genned (withBlock .running (.ramp 5000#16 10#16)) fun g =>
          { g with mean := BitVec.ofNat 16 m, pendingAdvance := adv, program := g.program.set 1 (.dwell 9#32) }
        s.gen.state = .running ∧ s.gen.current = some 0 ∧ s.gen.program[(0 : Fin 64)] = .ramp 5000#16 10#16
          ∧ s.gen.pendingAdvance = adv ∧ s.gen.program[(1 : Fin 64)].governs = true)
      ∧ (∀ c ∈ [1, 2],
          let s := genned (withBlock .running (.dwell 9#32)) fun g => { g with countdown := BitVec.ofNat 32 c }
          s.gen.state = .running ∧ s.gen.current = some 0 ∧ s.gen.program[(0 : Fin 64)] = .dwell 9#32
            ∧ s.gen.pendingAdvance = false ∧ (2 ≤ s.gen.countdown.toNat ↔ c = 2)
            ∧ (s.gen.countdown.toNat ≤ 1 ↔ c = 1))
      ∧ (let s := genned quiet fun g =>
          { g with program := g.program.set 63 (.dwell 9#32), state := .running, current := some 63, pendingAdvance := true }
         s.gen.state = .running ∧ s.gen.current = some 63 ∧ s.gen.program[(63 : Fin 64)] = .dwell 9#32
          ∧ s.gen.pendingAdvance = true) := by decide +kernel

/-- A DWELL at block 2 that ends. -/
def dwellAt2 (program : Vector Block 64) : Generator :=
  { quiet.gen with program := program.set 2 (.dwell 9#32), state := .running, current := some 2, countdown := 1#32 }

/-- A DWELL whose successor is a JUMP that jumps, one that falls through, a chain of JUMPs without end, a STOP, and nothing; neither
pause input; room for the record of a commit before its own. -/
theorem witness_timed_blocks_give_way :
    (let g := dwellAt2 quiet.gen.program
     g.state = .running ∧ g.current = some 2 ∧ g.program[(2 : Fin 64)] = .dwell 9#32 ∧ g.countdown.toNat ≤ 1)
      ∧ reachedFrom (dwellAt2 (cycling .running 0#32 1#32 1#32).gen.program) 3 = .governs 1 true
      ∧ reachedFrom { dwellAt2 (cycling .running 0#32 1#32 1#32).gen.program with
          loops := (Vector.replicate 64 0#16).set 3 2#16 } 3 = .governs 4 false
      ∧ reachedFrom (dwellAt2 (endless 3)) 3 = .ends 3 .loopLimit
      ∧ reachedFrom (dwellAt2 quiet.gen.program) 3 = .ends 3 .done ∧ reachedFrom quiet.gen 64 = .ends 63 .done
      ∧ (quiet.pauseDemand = false ∧ quiet.gen.requestedPause = false)
      ∧ (queued (List.replicate 126 (plainRecord 1#16))).queue.records.length ≤ 126 := by decide +kernel

/-- One short of a carry and one that carries with remainder 0; a count with 1, with 2 and without end; the two pendings. -/
theorem witness_cycle :
    (∀ x ∈ [(4290772991, false), (4290772992, true)], ∀ n ∈ [0, 1, 2], ∀ adv ∈ [true, false], ∀ st ∈ [true, false],
        let s := genned (cycling .running (BitVec.ofNat 32 x.1) (BitVec.ofNat 32 n) (BitVec.ofNat 32 n)) fun g =>
          { g with pendingAdvance := adv, pendingStop := st }
        s.gen.state = .running ∧ s.gen.current = some 2 ∧ s.gen.program[(2 : Fin 64)] = .cycle 3000#16 4194304#32 (BitVec.ofNat 32 n)
          ∧ (s.gen.phase.toNat + (4194304#32).toNat < 2 ^ 32 ↔ x.2 = false)
          ∧ (2 ^ 32 ≤ s.gen.phase.toNat + (4194304#32).toNat ↔ x.2 = true)
          ∧ ((s.gen.endless = false ∧ s.gen.remaining.toNat ≤ 1) ↔ n = 1)
          ∧ s.gen.pendingAdvance = adv ∧ s.gen.pendingStop = st)
      ∧ (let s := genned (cycling .running 4290772992#32 1#32 1#32) fun g => { g with program := g.program.set 3 (.dwell 5#32) }
         s.gen.program[(2 : Fin 64)] = .cycle 3000#16 4194304#32 1#32 ∧ s.gen.program[(3 : Fin 64)].governs = true) := by
  decide +kernel

/-- A CYCLE that ends at its boundary with a JUMP behind it, and one with a STOP behind it, every zone NORMAL and no pause requested;
the boundary of the first leaves no pause demand, that of the second, whose G17 drifts for the third time and holds Z1, leaves one. -/
theorem witness_cycle_gives_way :
    let s := cycling .running 4290772992#32 1#32 1#32
    let drifting (s : State) : State :=
      let x := gauge17 { GaugeRun.fresh with running := some { peak := 500#16, valley := 0xFF65#16 }, baseline := some 570#16, driftCount := 2 }
      { s with gauges := s.gauges.set 17 { x with config := { x.config with driftAction := .holdZone } } }
    (chain s.gen.program 8 3 s.gen.loops false).2 = .governs 1 true
      ∧ (chain (s.gen.program.set 3 .stop) 8 3 s.gen.loops false).2 = .ends 3 .done
      ∧ ((∀ z : Fin 4, s.zones[z].state = .normal) ∧ s.gen.requestedPause = false)
      ∧ leaves .boundary s (fun t => !t.pauseDemand) = true
      ∧ leaves .boundary (drifting s) (fun t => t.pauseDemand && t.gen.lastReason == .pause) = true
      ∧ (queued (List.replicate 126 (plainRecord 1#16))).queue.records.length ≤ 126 := by decide +kernel

theorem witness_freeze_and_hand_on :
    (quiet.gen.state ≠ .running ∧ quiet.gen.state ≠ .paused ∧ quiet.gen.state = .stopped)
      ∧ (∀ st ∈ [GenState.running, .paused], ∀ ph ∈ [4290772991, 4290772992],
          let s := cycling st (BitVec.ofNat 32 ph) 0#32 0#32
          s.gen.current = some 2 ∧ s.gen.program[(2 : Fin 64)] = .cycle 3000#16 4194304#32 0#32 ∧ s.gen.state = st
            ∧ s.gen.endless = true ∧ s.gen.pendingAdvance = false ∧ s.gen.pendingStop = false)
      ∧ (∀ m ∈ [4989, 4990, 5011],
          let s := genned (withBlock .running (.ramp 5000#16 10#16)) fun g => { g with mean := BitVec.ofNat 16 m }
          s.gen.current = some 0 ∧ s.gen.program[(0 : Fin 64)] = .ramp 5000#16 10#16 ∧ s.gen.state = .running
            ∧ s.gen.pendingAdvance = false
            ∧ (s.gen.mean.toInt + (10#16).toNat < (5000#16).toInt ↔ m = 4989)
            ∧ (((5000#16).toInt - s.gen.mean.toInt).natAbs ≤ (10#16).toNat ↔ m = 4990)
            ∧ ((5000#16).toInt < s.gen.mean.toInt - (10#16).toNat ↔ m = 5011))
      ∧ (let s := withBlock .running (.dwell 1#32)
         s.gen.current = some 0 ∧ s.gen.program[(0 : Fin 64)] = .dwell 1#32 ∧ s.gen.state = .running) := by decide +kernel

/-- A finite CYCLE with two cycles left at a carry, and a RAMP and a DWELL PAUSED. -/
theorem witness_hand_on_finite_and_paused :
    (let s := cycling .running 4290772992#32 2#32 2#32
     s.gen.state = .running ∧ s.gen.current = some 2 ∧ 2 ^ 32 ≤ s.gen.phase.toNat + (4194304#32).toNat
      ∧ 2 ≤ s.gen.remaining.toNat ∧ s.gen.pendingAdvance = false ∧ s.gen.pendingStop = false)
      ∧ (∀ b ∈ [Block.ramp 5000#16 10#16, .dwell 9#32],
          (withBlock .paused b).gen.state = .paused ∧ (withBlock .paused b).gen.current = some 0
            ∧ (withBlock .paused b).gen.program[(0 : Fin 64)].kind ≠ .cycle) := by decide +kernel

/-- A JUMP that jumps, one that falls through, and the four ways a chain ends. -/
theorem witness_chains :
    let program := (cycling .running 0#32 1#32 1#32).gen.program
    let loops := (Vector.replicate 64 0#16 : Vector Half 64)
    (program[(3 : Fin 64)] = .jump 1 2#16 ∧ loops[(3 : Fin 64)].toNat < (2#16).toNat
        ∧ (loops.set 3 2#16)[(3 : Fin 64)] = 2#16)
      ∧ (chain program 8 3 loops false).2 = .governs 1 true
      ∧ (chain program 8 3 loops false).1[(3 : Fin 64)] ≠ loops[(3 : Fin 64)]
      ∧ (chain program 8 5 loops false).2 = .ends 5 .done
      ∧ (chain (Vector.replicate 64 (.jump 7 1#16)) 0 7 loops false).2 = .ends 7 .loopLimit
      ∧ (chain ((Vector.replicate 64 (.jump 7 9#16)).set 7 (.jump 8 9#16)) 8 7 loops false).2 = .ends 7 .loopLimit := by
  decide +kernel

/-! ### Chapters 3 and 4 -/

theorem witness_rounding : 0 < 1 ∧ 0 < 32768 := by decide

theorem witness_update_computes :
    ∀ st ∈ [ZoneState.normal, .held, .unloading, .unloaded, .reloading, .dumped],
      let s := withZone1 (rig (cycling .paused 536870912#32 0#32 0#32)) { normalZone with state := st }
      s.gen.carries = false
        ∧ (∀ c : Fin 8, s.channels[c].fmin.toInt ≤ s.channels[c].fmax.toInt)
        ∧ s.zones[s.channels[(2 : Fin 8)].zone].state = st
        ∧ s.channels[(2 : Fin 8)].rmax ≠ 0#16 ∧ s.channels[(5 : Fin 8)].rmax = 0#16 := by decide +kernel

/-- A boundary with no gauge enabled, and one at which a gauge is one drift short of coming to M. -/
theorem witness_boundary_computes :
    ∀ k ∈ [0, 1],
      let s := gauged (rig (cycling .running 4290772992#32 0#32 0#32)) { GaugeRun.fresh with driftCount := k }
      s.gen.carries = true
        ∧ (∀ g : Fin 64, s.gauges[g].config.enabled = true → s.gauges[g].run.driftCount + 1 < s.gauges[g].config.m)
        ∧ (∀ c : Fin 8, s.channels[c].fmin.toInt ≤ s.channels[c].fmax.toInt) := by decide +kernel

/-- Members at the last step of each ramp, and one member a force unit farther away. -/
theorem witness_ramps_complete :
    (let s := standing (withZone1 (rig (cycling .paused 536870912#32 0#32 0#32)) { normalZone with state := .unloading }) 220#16
        20#16
     s.gen.carries = false ∧ s.zones[(1 : Fin 4)].state = .unloading
      ∧ ∀ c : Fin 8, s.channels[c].zone = 1 →
          (s.channels[c].ul.toInt - s.outputs[c].setpoint.toInt).natAbs ≤ s.zones[(1 : Fin 4)].unloadRate.toNat)
      ∧ (let s := standing (withZone1 (rig (cycling .paused 536870912#32 0#32 0#32)) { normalZone with state := .reloading })
            3390#16 7131#16
         s.gen.carries = false ∧ s.zones[(1 : Fin 4)].state = .reloading
          ∧ ∀ c : Fin 8, s.channels[c].zone = 1 →
              ((s.updateGenerator.targetOf s.updateDemand c).toInt - s.outputs[c].setpoint.toInt).natAbs
                ≤ s.zones[(1 : Fin 4)].reloadRate.toNat)
      ∧ (let s := standing (withZone1 (rig (cycling .paused 536870912#32 0#32 0#32)) { normalZone with state := .unloading })
            221#16 20#16
         s.gen.carries = false ∧ s.channels[(2 : Fin 8)].zone = 1 ∧ s.zones[(1 : Fin 4)].state = .unloading
          ∧ ¬ (s.channels[(2 : Fin 8)].ul.toInt - s.outputs[(2 : Fin 8)].setpoint.toInt).natAbs
              ≤ s.zones[(1 : Fin 4)].unloadRate.toNat) := by decide +kernel

/-- A boundary at which an isolated UNLOADING zone completes; a RELOADING zone one force unit away; the four states that are no ramp;
and a PAUSED generator, without the requested pause, whose pause demand goes with the completion; room for the records. -/
theorem witness_ramps_elsewhere :
    (let s := standing (withZone1 (rig (cycling .running 4290772992#32 0#32 0#32)) { normalZone with state := .unloading, isolate := true })
        220#16 20#16
     s.gen.carries = true ∧ s.pauseDemand = false ∧ s.zones[(1 : Fin 4)].state = .unloading ∧ s.queue.records.length ≤ 110
      ∧ ∀ c : Fin 8, s.channels[c].zone = 1 →
          (s.channels[c].ul.toInt - s.outputs[c].setpoint.toInt).natAbs ≤ s.zones[(1 : Fin 4)].unloadRate.toNat)
      ∧ (let s := standing (withZone1 (rig (cycling .paused 536870912#32 0#32 0#32)) { normalZone with state := .reloading })
            3389#16 7131#16
         s.channels[(2 : Fin 8)].zone = 1 ∧ s.zones[(1 : Fin 4)].state = .reloading
          ∧ ¬ ((s.updateGenerator.targetOf s.updateDemand 2).toInt - s.outputs[(2 : Fin 8)].setpoint.toInt).natAbs
              ≤ s.zones[(1 : Fin 4)].reloadRate.toNat)
      ∧ (∀ st ∈ [ZoneState.normal, .held, .unloaded, .dumped],
          (zoned st []).zones[(1 : Fin 4)].state ≠ .unloading ∧ (zoned st []).zones[(1 : Fin 4)].state ≠ .reloading)
      ∧ (let s := standing (withZone1 (rig (cycling .paused 536870912#32 0#32 0#32)) { normalZone with state := .reloading })
            3400#16 7121#16
         s.gen.state = .paused ∧ s.gen.requestedPause = false ∧ s.pauseDemand = true
          ∧ (s.updateSetpoints.arrive s.updateDemand).pauseDemand = false) := by decide +kernel

/-- The bounds of SET_CHANNEL's ranges; arguments that agree and that do not; a channel that may change its zone, in NORMAL and
in DUMPED, one that stays, and one that may not change. -/
theorem witness_set_channel :
    (∀ a ∈ [channelArgs, { channelArgs with zone := 0#8 }, { channelArgs with ul := 0x8000#16, fmin := 0x8001#16 },
          { channelArgs with method := 3#8 }],
        a.channel.toNat = (7 : Fin 8).val ∧ 0 ≤ a.rmax.toInt ∧ 1 ≤ a.tol.toInt ∧ a.k.toNat ≤ 15 ∧ 0 ≤ a.fabs.toInt
          ∧ a.trackingAction.toNat ≤ 6 ∧ a.overforceAction.toNat ≤ 6 ∧ a.strokeAction.toNat ≤ 6 ∧ a.method.toNat ≤ 3
          ∧ 1 ≤ a.seconds.toNat ∧ a.seconds.toNat ≤ 3600)
      ∧ (channelArgs.zone.toNat = (3 : Fin 4).val ∧ (0#8).toNat = (0 : Fin 4).val)
      ∧ (channelArgs.fmin.toInt ≤ channelArgs.ul.toInt ∧ channelArgs.ul.toInt ≤ channelArgs.fmax.toInt
          ∧ channelArgs.smin.toInt ≤ channelArgs.smax.toInt ∧ channelArgs.method ≠ 3#8)
      ∧ ¬ (0x8001#16).toInt ≤ (0x8000#16).toInt
      ∧ (quiet.channels[(7 : Fin 8)].zone = 3 ∧ quiet.gen.executing = false ∧ quiet.zones[(3 : Fin 4)].state = .normal
          ∧ quiet.zones[(0 : Fin 4)].state = .normal)
      ∧ (State.reset.gen.executing = false ∧ State.reset.zones[(3 : Fin 4)].state = .dumped
          ∧ State.reset.zones[(0 : Fin 4)].state = .dumped)
      ∧ ((withBlock .running (.dwell 1#32)).channels[(7 : Fin 8)].zone ≠ 0
          ∧ (withBlock .running (.dwell 1#32)).gen.executing = true) := by decide +kernel

/-- Arguments one past each bound of SET_CHANNEL's ranges. -/
theorem witness_set_channel_ranges :
    ∀ a ∈ [{ channelArgs with channel := 8#8 }, { channelArgs with zone := 4#8 }, { channelArgs with rmax := 0x8000#16 },
        { channelArgs with tol := 0#16 }, { channelArgs with k := 16#8 }, { channelArgs with fabs := 0xFFFF#16 },
        { channelArgs with trackingAction := 7#8 }, { channelArgs with overforceAction := 7#8 },
        { channelArgs with strokeAction := 7#8 }, { channelArgs with method := 4#8 }, { channelArgs with seconds := 0#16 },
        { channelArgs with seconds := 3601#16 }],
      7 < a.channel.toNat ∨ 3 < a.zone.toNat ∨ a.rmax.toInt < 0 ∨ a.tol.toInt < 1 ∨ 15 < a.k.toNat ∨ a.fabs.toInt < 0
        ∨ 6 < a.trackingAction.toNat ∨ 6 < a.overforceAction.toNat ∨ 6 < a.strokeAction.toNat ∨ 3 < a.method.toNat
        ∨ a.seconds = 0#16 ∨ 3600 < a.seconds.toNat := by decide +kernel

theorem witness_staging :
    (7 < (8#8).toNat ∧ (0xDFFF#16).toInt < -8192 ∧ 8192 < (8193#16).toInt)
      ∧ ((7#8).toNat = (7 : Fin 8).val ∧ -8192 ≤ (0xE000#16).toInt ∧ (8192#16).toInt ≤ 8192)
      ∧ ({ quiet with commit := .armedNow } : State).commit ≠ .none ∧ quiet.commit = .none
      ∧ 2048 < (2049#16).toNat ∧ (2048#16).toNat ≤ 2048 := by decide +kernel

theorem witness_arm_and_disarm :
    2 ≤ (2#8).toNat ∧ (1#8).toNat ≤ 1 ∧ ({ quiet with commit := .armedBoundary } : State).commit ≠ .none
      ∧ quiet.commit = .none := by decide +kernel

theorem witness_commits :
    (let s : State := { quiet with commit := .armedNow }
     s.commit = .armedNow ∧ s.gen.carries = false ∧ s.queue.records.length ≤ 110)
      ∧ (∀ x ∈ [(4290772991, false), (4290772992, true)],
          let s : State := { cycling .running (BitVec.ofNat 32 x.1) 0#32 0#32 with commit := .armedBoundary }
          s.commit = .armedBoundary ∧ s.gen.carries = x.2)
      ∧ quiet.commit = .none := by decide +kernel

/-- A commit of either mode at a boundary, with a block that ends there and one that goes on, and room for its record. -/
theorem witness_commits_at_a_boundary :
    ∀ m ∈ [CommitState.armedNow, .armedBoundary], ∀ n ∈ [1, 2],
      let s : State :=
        { cycling .running 4290772992#32 2#32 (BitVec.ofNat 32 n) with
          commit := m, queue := (queued (List.replicate 126 (plainRecord 1#16))).queue }
      s.commit = m ∧ s.gen.carries = true ∧ s.queue.records.length ≤ 126 ∧ (s.gen.cycleEnds = true ↔ n = 1) := by
  decide +kernel

/-! ### Chapter 5 -/

theorem witness_exchange :
    (exchanging 2).frames[(1 : Fin 4)].dog = .unwatched ∧ (stalled .late).frames[(2 : Fin 4)].dog ≠ .unwatched
      ∧ (0 : Fin 8) ≠ channelA 1 ∧ (0 : Fin 8) ≠ channelB 1 := by decide +kernel

/-- FRAME2 on watch with FRAME_LATE, FRAME_LOST, both and neither active. -/
theorem witness_exchange_clears :
    ∀ late ∈ [true, false], ∀ lost ∈ [true, false], ∀ d ∈ [DogState.late, .lost],
      let s : State :=
        { stalled d with
          frames := (stalled d).frames.set 2 { ((stalled d).frames[2]) with late := late, lost := lost } }
      s.frames[(2 : Fin 4)].dog ≠ .unwatched ∧ s.frames[(2 : Fin 4)].late = late ∧ s.frames[(2 : Fin 4)].lost = lost := by
  decide +kernel

/-- An error at tol and one beyond it, with the condition clear (one miss short of K, and at K) and active, and no handed-out
value. -/
theorem witness_exchange_checks :
    (∀ m ∈ [1, 2],
        let s := exchanging m
        s.supervision[(2 : Fin 8)].handedOut = some 3400#16 ∧ s.supervision[(2 : Fin 8)].tracking = false
          ∧ s.channels[(2 : Fin 8)].tol.toInt < (((3349#16).toInt - (3400#16).toInt).natAbs : Int)
          ∧ ¬ s.channels[(2 : Fin 8)].tol.toInt < (((3350#16).toInt - (3400#16).toInt).natAbs : Int)
          ∧ (s.supervision[(2 : Fin 8)].misses + 1 < s.channels[(2 : Fin 8)].k ↔ m = 1)
          ∧ (s.channels[(2 : Fin 8)].k ≤ s.supervision[(2 : Fin 8)].misses + 1 ↔ m = 2))
      ∧ (let s := exchanging 0
         let t : State :=
          { s with supervision := s.supervision.set 2 { (s.supervision[2]) with tracking := true } }
         t.supervision[(2 : Fin 8)].handedOut = some 3400#16 ∧ t.supervision[(2 : Fin 8)].tracking = true)
      ∧ quiet.supervision[(2 : Fin 8)].handedOut = none := by decide +kernel

/-- CH2's exchanges at which each of its conditions becomes active, and at which each clears. -/
theorem witness_exchange_hands_over :
    let armed (before : Bool) : State :=
      let s := exchanging 2
      { s with
        channels := s.channels.set 2 { (s.channels[2]) with smin := 0xFFF0#16, smax := 16#16 }
        supervision := s.supervision.set 2
          { (s.supervision[2]) with tracking := before, overforce := before, strokeOut := before } }
    let exchange (before : Bool) (force stroke : Half) (f : Supervision → Bool) : Bool :=
      leaves (.servoExchange (.frame 1) force 7100#16 stroke 0#16) (armed before) fun t => f t.supervision[2]
    exchange false 3601#16 17#16 (fun v => v.tracking && v.overforce && v.strokeOut) = true
      ∧ exchange true 3400#16 0#16 (fun v => !v.tracking && !v.overforce && !v.strokeOut) = true
      ∧ exchange false 3400#16 0#16 (fun v => !v.tracking && !v.overforce && !v.strokeOut) = true := by decide +kernel

theorem witness_watchdog :
    (∀ d ∈ [DogState.alive, .late, .unwatched, .lost], ∀ k ∈ [1, 2],
        let x := { ((stalled d).frames[(2 : Fin 4)]) with remaining := BitVec.ofNat 16 k }
        let s : State := { stalled d with frames := (stalled d).frames.set 2 x }
        s.frames[(2 : Fin 4)].dog = d ∧ (s.frames[(2 : Fin 4)].remaining.toNat ≤ 1 ↔ k = 1)
          ∧ (2 ≤ s.frames[(2 : Fin 4)].remaining.toNat ↔ k = 2)) := by decide +kernel

theorem witness_trip_and_set_frame :
    (1#8 : Byte) ≠ 0#8
      ∧ (∀ x ∈ [(Action.holdZone, 1), (.unloadAll, 2), (.dumpZone, 3)],
          let s : State := { quiet with frames := quiet.frames.set 2 { (quiet.frames[2]) with tripAction := x.1 } }
          s.frames[(2 : Fin 4)].tripAction.severity = x.2
            ∧ ∀ e ∈ s.zones[s.channels[channelA 2].zone].entries, e.isOf (.frameTrip 2) = false)
      ∧ quiet.frames[(2 : Fin 4)].trip = false
      ∧ ({ quiet with frames := quiet.frames.set 2 { (quiet.frames[2]) with trip := true } } : State).frames[(2 : Fin 4)].trip = true
      ∧ (∀ m ∈ [2, 3],
          let a := { frameArgs with method := BitVec.ofNat 8 m }
          a.frame.toNat = (3 : Fin 4).val ∧ a.lateAction.toNat ≤ 6 ∧ a.lostAction.toNat ≤ 6 ∧ a.tripAction.toNat ≤ 6
            ∧ a.method.toNat ≤ 3 ∧ 1 ≤ a.seconds.toNat ∧ a.seconds.toNat ≤ 3600
            ∧ ((a.method = 3#8 ∧ ¬ (a.lateAction = 0#8 ∧ a.lostAction = 0#8 ∧ a.tripAction = 0#8)) ↔ m = 3)) := by
  decide +kernel

/-- Arguments one past each bound of SET_FRAME's ranges; and FRAME3 with FRAME_LATE and FRAME_LOST each active and clear. -/
theorem witness_set_frame_ranges_and_clears :
    (∀ a ∈ [{ frameArgs with frame := 4#8 }, { frameArgs with lateAction := 7#8 }, { frameArgs with lostAction := 7#8 },
          { frameArgs with tripAction := 7#8 }, { frameArgs with method := 4#8 }, { frameArgs with seconds := 0#16 },
          { frameArgs with seconds := 3601#16 }],
        3 < a.frame.toNat ∨ 6 < a.lateAction.toNat ∨ 6 < a.lostAction.toNat ∨ 6 < a.tripAction.toNat ∨ 3 < a.method.toNat
          ∨ a.seconds = 0#16 ∨ 3600 < a.seconds.toNat)
      ∧ ∀ late ∈ [true, false], ∀ lost ∈ [true, false],
          let s : State := { quiet with frames := quiet.frames.set 3 { (quiet.frames[3]) with late := late, lost := lost } }
          s.frames[(3 : Fin 4)].late = late ∧ s.frames[(3 : Fin 4)].lost = lost := by decide +kernel

/-- A raise with a lasting condition, and one without of method AUTO. -/
def holdRaise : Raise :=
  { source := .frameTrip 1, action := .holdZone, method := .timed, seconds := 60#16, active := true }

/-- See `holdRaise`. -/
def driftRaise : Raise :=
  { source := .gaugeDrift 17, action := .report, method := .auto, seconds := 60#16, active := false }

/-- A standing entry of `holdRaise`'s source with a repeat count. -/
def standingEntry (repeats : Byte) : Entry :=
  { entry 9#16 (.frameTrip 1) .unloadZone .timed true with repeats := repeats }

/-- An overflow entry. -/
def overflowEntry : Entry :=
  { entry 40#16 .stop .unloadZone .manual false with kind := .overflow }

/-- Lists in which a raise is a repeat (at 255 and below), a new entry, and folded without and with an overflow entry. -/
theorem witness_raise_lists :
    ((zoned .normal []).ListsLawful ∧ (zoned .held [standingEntry 254#8]).ListsLawful
        ∧ (zoned .held [standingEntry 255#8]).ListsLawful ∧ (zoned .normal (twelve.take 11)).ListsLawful
        ∧ (zoned .normal twelve).ListsLawful ∧ (zoned .unloading (twelve ++ [overflowEntry])).ListsLawful)
      ∧ (standingEntry 255#8).isOf holdRaise.source = true
      ∧ (∀ l ∈ [[], twelve.take 11], (∀ e ∈ l, e.isOf holdRaise.source = false ∧ e.isOf driftRaise.source = false)
          ∧ (l.filter fun e => e.kind == .source).length < 12)
      ∧ (∀ l ∈ [twelve, twelve ++ [overflowEntry]], (∀ e ∈ l, e.isOf holdRaise.source = false)
          ∧ 12 ≤ (l.filter fun e => e.kind == .source).length)
      ∧ (∀ e ∈ twelve, e.kind = .source) ∧ overflowEntry.kind = .overflow := by decide +kernel

/-- A raise with a lasting condition; an AUTO REPORT raise without one into a NORMAL zone; a raise that holds its zone while the
generator is RUNNING; room for its records. -/
theorem witness_raises :
    (holdRaise.method ≠ .auto ∨ holdRaise.active = true)
      ∧ (driftRaise.method = .auto ∧ driftRaise.active = false ∧ driftRaise.action = .report)
      ∧ (let s := cycling .running 0#32 0#32 0#32
         s.ListsLawful ∧ s.gen.current = some 2 ∧ s.gen.state = .running ∧ s.zones[(1 : Fin 4)].state = .normal
          ∧ (s.raiseIn 1 holdRaise false).zones[(1 : Fin 4)].state = .held
          ∧ (s.raiseIn 1 holdRaise false).pauseDemand = true)
      ∧ (queued (List.replicate 120 (plainRecord 1#16))).queue.records.length ≤ 120 := by decide +kernel

/-! ### Chapter 6 -/

/-- A wrong check byte; status 3; channel 32; a disabled gauge; an OK frame; an OVER frame on a clear and on an active FAULT. -/
theorem witness_gauge_frames :
    let sum (bits : BitVec 40) := bits.toNat / 2 ^ 32 + bits.toNat / 2 ^ 24 % 256 + bits.toNat / 2 ^ 16 % 256
      + bits.toNat / 2 ^ 8 % 256 + bits.toNat % 256
    sum 0x4412613217#40 % 256 ≠ 255
      ∧ ((0x47000000B8#40).toNat / 2 ^ 32 % 4 = 3 ∧ sum 0x47000000B8#40 % 256 = 255)
      ∧ (31 < (0x800000007F#40).toNat / 2 ^ 34 ∧ sum 0x800000007F#40 % 256 = 255)
      ∧ (∀ x ∈ [(goodFrame, 0), (0x45000000BA#40, 1), (0x46000000B9#40, 2)],
          (17 : Fin 64).val = 32 * (0 : Fin 2).val + x.1.toNat / 2 ^ 34 ∧ x.1.toNat / 2 ^ 34 ≤ 31 ∧ sum x.1 % 256 = 255
            ∧ x.1.toNat / 2 ^ 32 % 4 = x.2)
      ∧ (0x7C00000083#40).toNat / 2 ^ 34 = 31 ∧ (63 : Fin 64).val = 32 * (1 : Fin 2).val + 31 ∧ sum 0x7C00000083#40 % 256 = 255
      ∧ quiet.gauges[(17 : Fin 64)].config.enabled = false
      ∧ (gauged quiet GaugeRun.fresh).gauges[(17 : Fin 64)].config.enabled = true
      ∧ (gauged quiet GaugeRun.fresh).gauges[(17 : Fin 64)].run.fault = none
      ∧ (gauged quiet { GaugeRun.fresh with fault := some .open }).gauges[(17 : Fin 64)].run.fault ≠ none := by decide +kernel

/-- G17 with the condition clear and active, at n − 1 of either count and short of it; a strain on the upper limit and one past it. -/
theorem witness_window_check :
    (frameSum goodFrame = 0xFF#8 ∧ goodFrame.extractLsb' 32 2 = 0#2 ∧ linkGauge 0 (goodFrame.extractLsb' 34 6) = some 17)
      ∧ (∀ w ∈ [true, false], ∀ k ∈ [1, 2],
          let x := (gauged quiet { GaugeRun.fresh with window := w, outCount := k, inCount := k }).gauges[(17 : Fin 64)]
          x.config.enabled = true ∧ x.run.window = w ∧ (x.run.outCount + 1 < x.config.n ↔ k = 1)
            ∧ (x.config.n ≤ x.run.outCount + 1 ↔ k = 2) ∧ (x.run.inCount + 1 < x.config.n ↔ k = 1)
            ∧ (x.config.n ≤ x.run.inCount + 1 ↔ k = 2))
      ∧ (let x := (gauge17 GaugeRun.fresh).config
         (saturatedStrain x 1212768#24).toInt = x.hi.toInt ∧ (saturatedStrain x 1212822#24).toInt = x.hi.toInt + 1) := by
  decide +kernel

/-- The third sample outside makes WINDOW active, the third inside clears it, with FAULT active and clear before the frame. -/
theorem witness_window_hands_over :
    ∀ f ∈ [none, some FaultCause.stale], ∀ w ∈ [true, false],
      let run := { GaugeRun.fresh with window := w, outCount := 2, inCount := 2, fault := f }
      let narrow (x : Gauge) : Gauge := { x with config := { x.config with hi := if w then 600#16 else 100#16 } }
      let s : State := { quiet with gauges := quiet.gauges.set 17 (narrow (gauge17 run)) }
      s.gauges[(17 : Fin 64)].config.enabled = true ∧ s.gauges[(17 : Fin 64)].run.fault = f
        ∧ leaves (.gaugeFrame 0 goodFrame) s (fun t => t.gauges[17].run.window == !w) = true := by decide +kernel

theorem witness_link_bits :
    quiet.links[(1 : Fin 2)].state = .waiting
      ∧ ∀ k ∈ [0, 38],
          let s : State := { quiet with links := quiet.links.set 1 { (quiet.links[1]) with state := .receiving, count := k } }
          s.links[(1 : Fin 2)].state = .receiving ∧ s.links[(1 : Fin 2)].count < 39 := by decide +kernel

theorem witness_stale_timer :
    (∀ f ∈ [none, some FaultCause.over], ∀ k ∈ [1, 2],
        let x := (gauged quiet
          { GaugeRun.fresh with stale := .running, staleLeft := BitVec.ofNat 16 k, fault := f }).gauges[(17 : Fin 64)]
        x.config.enabled = true ∧ x.run.stale = .running ∧ (x.run.staleLeft.toNat ≤ 1 ↔ k = 1)
          ∧ (2 ≤ x.run.staleLeft.toNat ↔ k = 2) ∧ x.run.fault = f)
      ∧ quiet.gauges[(17 : Fin 64)].config.enabled = false
      ∧ ∀ st ∈ [StaleState.off, .expired],
          (gauged quiet { GaugeRun.fresh with stale := st }).gauges[(17 : Fin 64)].run.stale = st := by decide +kernel

theorem witness_boundary_closes_cycles :
    ∀ c ∈ [true, false], ∀ e ∈ [none, some { peak := 452#16, valley := 0xFF8A#16 : Extremes }],
      let s := gauged (cycling .running 4290772992#32 0#32 0#32) { GaugeRun.fresh with running := e, capture := c }
      s.gen.carries = true ∧ s.gauges[(17 : Fin 64)].config.enabled = true ∧ s.gauges[(17 : Fin 64)].run.running = e
        ∧ s.gauges[(17 : Fin 64)].run.capture = c := by decide +kernel

/-- Section 6.9's G17 with the baseline 570 and the limit 40: a range of 610 at the limit and one of 611 past it, one drift short of M
and at M; no check for want of a baseline, of a limit and of samples. -/
theorem witness_drift_check :
    (∀ p ∈ [500, 501], ∀ k ∈ [1, 2],
        let s := gauged (cycling .running 4290772992#32 0#32 0#32)
          { GaugeRun.fresh with
            running := some { peak := BitVec.ofNat 16 p, valley := 0xFF92#16 }, baseline := some 570#16, driftCount := k }
        let x := s.gauges[(17 : Fin 64)]
        s.gen.carries = true ∧ x.config.enabled = true ∧ x.run.capture = false ∧ x.config.driftLimit ≠ 0#16
          ∧ ((((BitVec.ofNat 16 p - 0xFF92#16).toNat : Int) - (570#16).toNat).natAbs ≤ x.config.driftLimit.toNat ↔ p = 500)
          ∧ (x.run.driftCount + 1 < x.config.m ↔ k = 1) ∧ (x.config.m ≤ x.run.driftCount + 1 ↔ k = 2))
      ∧ (gauge17 GaugeRun.fresh).run.running = none ∧ (gauge17 GaugeRun.fresh).run.baseline = none
      ∧ (GaugeConfig.default 17).driftLimit = 0#16 ∧ quiet.gauges[(17 : Fin 64)].config.enabled = false := by decide +kernel

theorem witness_set_gauge :
    (∀ a ∈ [gaugeArgs, { gaugeArgs with hi := 0x8000#16 + 1#16, lo := 0x8002#16 }, { gaugeArgs with method := 3#8 },
          { gaugeArgs with method := 1#8 }, { gaugeArgs with enabled := 0#8 }],
        a.gauge.toNat = (63 : Fin 64).val ∧ a.zone.toNat = (3 : Fin 4).val ∧ a.enabled.toNat ≤ 1 ∧ -32767 ≤ a.lo.toInt
          ∧ -32767 ≤ a.hi.toInt ∧ a.n.toNat ≤ 15 ∧ a.m.toNat ≤ 15 ∧ a.staleTime.toNat ≤ 1000 ∧ 0 ≤ a.driftLimit.toInt
          ∧ a.windowAction.toNat ≤ 6 ∧ a.faultAction.toNat ≤ 6 ∧ a.driftAction.toNat ≤ 6 ∧ a.method.toNat ≤ 3
          ∧ 1 ≤ a.seconds.toNat ∧ a.seconds.toNat ≤ 3600)
      ∧ (gaugeArgs.lo.toInt ≤ gaugeArgs.hi.toInt ∧ gaugeArgs.method ≠ 3#8 ∧ gaugeArgs.method ≠ 1#8)
      ∧ ¬ (0x8002#16).toInt ≤ (0x8001#16).toInt
      ∧ quiet.gauges[(63 : Fin 64)].run.window = false ∧ quiet.gauges[(63 : Fin 64)].run.fault = none
      ∧ (gauged quiet { GaugeRun.fresh with window := true }).gauges[(17 : Fin 64)].run.window = true := by decide +kernel

/-- SET_GAUGE at a gauge with WINDOW and FAULT each active and clear. -/
theorem witness_set_gauge_clears :
    ∀ w ∈ [true, false], ∀ f ∈ [none, some FaultCause.open],
      let x := (gauged quiet { GaugeRun.fresh with window := w, fault := f }).gauges[(17 : Fin 64)]
      x.run.window = w ∧ x.run.fault = f
        ∧ leaves (.setGauge .director { gaugeArgs with gauge := 17#8 }) (gauged quiet { GaugeRun.fresh with window := w, fault := f })
            (fun t => (t.answerOf .director).bind List.head? == some 0x00#8) = true := by decide +kernel

/-- Arguments one past each bound of SET_GAUGE's ranges. -/
theorem witness_set_gauge_ranges :
    ∀ a ∈ [{ gaugeArgs with gauge := 64#8 }, { gaugeArgs with zone := 4#8 }, { gaugeArgs with enabled := 2#8 },
        { gaugeArgs with lo := 0x8000#16 }, { gaugeArgs with hi := 0x8000#16 }, { gaugeArgs with n := 16#8 },
        { gaugeArgs with m := 16#8 }, { gaugeArgs with staleTime := 1001#16 }, { gaugeArgs with driftLimit := 0xFFFF#16 },
        { gaugeArgs with windowAction := 7#8 }, { gaugeArgs with faultAction := 7#8 }, { gaugeArgs with driftAction := 7#8 },
        { gaugeArgs with method := 4#8 }, { gaugeArgs with seconds := 0#16 }, { gaugeArgs with seconds := 3601#16 }],
      63 < a.gauge.toNat ∨ 3 < a.zone.toNat ∨ 1 < a.enabled.toNat ∨ a.lo.toInt < -32767 ∨ a.hi.toInt < -32767 ∨ 15 < a.n.toNat
        ∨ 15 < a.m.toNat ∨ 1000 < a.staleTime.toNat ∨ a.driftLimit.toInt < 0 ∨ 6 < a.windowAction.toNat
        ∨ 6 < a.faultAction.toNat ∨ 6 < a.driftAction.toNat ∨ 3 < a.method.toNat ∨ a.seconds = 0#16
        ∨ 3600 < a.seconds.toNat := by decide +kernel

/-! ### Chapter 7 -/

theorem witness_counts_sample :
    quiet.StopObeyed
      ∧ (let s : State := { quiet with stopLine := { qualifier := knownLow 3 .low, condition := true }, stopHold := true
                                       zones := State.reset.zones }
         s.StopObeyed)
      ∧ (∀ sense ∈ [Sense.levelHigh, .levelLow, .rising, .falling, .anyChange], ∀ l ∈ [some Level.low, some .high, none],
          let s := cracked 6 3 sense 4 .report .manual { level := l, last := some .high, run := 3 }
          s.StopObeyed ∧ s.cracks[(6 : Fin 16)].config.sense = sense ∧ s.cracks[(6 : Fin 16)].qualifier.level = l) := by
  decide +kernel

/-- Counts at which STOPn is qualified LOW, from unknown and from HIGH, HIGH from LOW with a DUMPED zone without a protective entry
among the four, and HIGH from unknown. -/
theorem witness_stop_turns :
    let line (level : Option Level) (last : Level) (low : Bool) : State :=
      { quiet with
        zones := if low then State.reset.zones.set 1 { (State.reset.zones[1]) with entries := [] } else quiet.zones
        stopLine := { qualifier := { level := level, last := some last, run := 1 }, condition := low }, stopHold := low }
    (∀ l ∈ [none, some Level.high], (line l .low false).StopObeyed
        ∧ leaves (.referenceCount { ck := 0#16, stopn := .low }) (line l .low false)
          (fun t => t.stopLine.qualifier.level == some .low) = true)
      ∧ ((line (some .low) .high true).StopObeyed
          ∧ leaves (.referenceCount (count 0#16)) (line (some .low) .high true)
            (fun t => t.stopLine.qualifier.level == some .high && t.zones[1].state == .unloaded && t.zones[2].state == .dumped)
              = true)
      ∧ ((line none .high false).StopObeyed
          ∧ leaves (.referenceCount (count 0#16)) (line none .high false)
            (fun t => t.stopLine.qualifier.level == some .high) = true) := by decide +kernel

/-- Detections that are all that comes about at a count: CK6 with a LEVEL sense and CK9 with an edge sense, the alarm enabled and not;
and CK6 back at the other level. -/
theorem witness_detection_alone :
    (∀ en ∈ [true, false],
        let enabled (s : State) : State :=
          { s with cracks := s.cracks.map fun c => { c with config := { c.config with enable := en } } }
        let calm (s : State) : Bool := decide ((∀ f : Fin 4, s.frames[f].dog = .unwatched)
          ∧ (∀ g : Fin 64, s.gauges[g].config.enabled = false) ∧ (∀ z : Fin 4, s.zones[z].entries = []) ∧ s.StopObeyed)
        let a := enabled (cracked 6 3 .levelHigh 4 .unloadZone .manual { level := some .low, last := some .high, run := 3 })
        let b := enabled (cracked 9 2 .anyChange 3 .report .timed { level := some .high, last := some .low, run := 2 })
        calm a = true ∧ calm b = true
          ∧ leaves (.referenceCount (count 0x0040#16)) a (fun t => t.cracks[6].qualifier.level == some .high
              && (List.finRange 16).all (fun j => j == 6 || t.cracks[j].qualifier.level == a.cracks[j].qualifier.level)
              && t.stopLine.qualifier.level == a.stopLine.qualifier.level) = true
          ∧ leaves (.referenceCount (count 0#16)) b (fun t => t.cracks[9].qualifier.level == some .low
              && (List.finRange 16).all (fun j => j == 9 || t.cracks[j].qualifier.level == b.cracks[j].qualifier.level)
              && t.stopLine.qualifier.level == b.stopLine.qualifier.level) = true)
      ∧ (let s := cracked 6 3 .levelHigh 4 .unloadZone .manual { level := some .high, last := some .low, run := 3 }
         let s : State := { s with cracks := s.cracks.map fun c => { c with condition := true } }
         s.cracks[(6 : Fin 16)].condition = true
          ∧ leaves (.referenceCount (count 0#16)) s (fun t => !t.cracks[6].condition) = true) := by decide +kernel

theorem witness_crack_requests :
    (∀ x ∈ [(crackArgs, false), ({ crackArgs with method := 1#8 }, true), ({ crackArgs with sense := 1#8, method := 3#8 }, true),
          ({ crackArgs with sense := 1#8, method := 3#8, action := 0#8 }, false)],
        let a := x.1
        a.input.toNat = (15 : Fin 16).val ∧ a.zone.toNat = (3 : Fin 4).val ∧ a.enable.toNat ≤ 1 ∧ a.sense.toNat ≤ 4
          ∧ a.n.toNat ≤ 15 ∧ a.action.toNat ≤ 6 ∧ a.method.toNat ≤ 3 ∧ 1 ≤ a.seconds.toNat ∧ a.seconds.toNat ≤ 3600
          ∧ (((2 ≤ a.sense.toNat ∧ (a.method = 1#8 ∨ a.method = 3#8)) ∨ (a.method = 3#8 ∧ a.action ≠ 0#8)) ↔ x.2 = true))
      ∧ (∀ b ∈ [true, false],
          let s : State := { quiet with cracks := quiet.cracks.set 15 { (quiet.cracks[15]) with condition := b } }
          s.cracks[(15 : Fin 16)].condition = b) := by decide +kernel

/-- Arguments one past each bound of SET_CRACK's ranges. -/
theorem witness_set_crack_ranges :
    ∀ a ∈ [{ crackArgs with input := 16#8 }, { crackArgs with zone := 4#8 }, { crackArgs with enable := 2#8 },
        { crackArgs with sense := 5#8 }, { crackArgs with n := 16#8 }, { crackArgs with action := 7#8 },
        { crackArgs with method := 4#8 }, { crackArgs with seconds := 0#16 }, { crackArgs with seconds := 3601#16 }],
      15 < a.input.toNat ∨ 3 < a.zone.toNat ∨ 1 < a.enable.toNat ∨ 4 < a.sense.toNat ∨ 15 < a.n.toNat ∨ 6 < a.action.toNat
        ∨ 3 < a.method.toNat ∨ a.seconds = 0#16 ∨ 3600 < a.seconds.toNat := by decide +kernel

/-! ### Chapter 8 -/

theorem witness_set_zone_and_reload :
    (3#8).toNat = (3 : Fin 4).val ∧ (1#8).toNat = (1 : Fin 4).val
      ∧ (1 ≤ (1#16).toNat ∧ (32767#16).toNat ≤ 32767) ∧ (1#8).toNat ≤ 1 ∧ 2 ≤ (2#8).toNat
      ∧ quiet.zones[(1 : Fin 4)].state ≠ .unloaded
      ∧ ((zoned .unloaded [crackEntry false]).zones[(1 : Fin 4)].state = .unloaded
          ∧ ∃ e ∈ (zoned .unloaded [crackEntry false]).zones[(1 : Fin 4)].entries, 1 ≤ e.action.severity)
      ∧ ((zoned .unloaded [entry 9#16 (.gaugeWindow 17) .report .timed false]).zones[(1 : Fin 4)].state = .unloaded
          ∧ ∀ e ∈ (zoned .unloaded [entry 9#16 (.gaugeWindow 17) .report .timed false]).zones[(1 : Fin 4)].entries,
              e.action.severity = 0)
      ∧ ((withBlock .running (.dwell 1#32)).pauseDemand = false ∧ (withBlock .running (.dwell 1#32)).gen.state = .running)
      ∧ (let s := withZone1 (withBlock .paused (.dwell 1#32)) { normalZone with state := .held }
         s.pauseDemand = true ∧ s.gen.state = .paused ∧ s.gen.requestedPause = false)
      ∧ quiet.GeneratorLawful := by
  refine ⟨by decide, by decide, by decide, by decide, by decide, by decide +kernel,
    ⟨by decide +kernel, crackEntry false, by decide +kernel, by decide⟩, by decide +kernel, by decide +kernel,
    by decide +kernel, by decide +kernel, ?_, by decide +kernel⟩
  intro b h
  have e : quiet.gen.currentBlock = none := by decide +kernel
  rw [e] at h
  cases h

/-- The generator against its pause inputs: RUNNING with the demand and with the requested pause, PAUSED with neither, and where
nothing is to be done. -/
theorem witness_pause_inputs :
    let held (st : GenState) : State := withZone1 (withBlock st (.dwell 1#32)) { normalZone with state := .held }
    let asked : State := genned (withBlock .running (.dwell 1#32)) fun g => { g with requestedPause := true }
    ((held .running).gen.state = .running ∧ (held .running).pauseDemand = true ∧ (held .running).gen.current = some 0)
      ∧ (asked.gen.state = .running ∧ asked.gen.requestedPause = true ∧ asked.gen.current = some 0)
      ∧ (let s := withBlock .paused (.dwell 1#32)
         s.gen.state = .paused ∧ ¬ (s.pauseDemand = true ∨ s.gen.requestedPause = true) ∧ s.gen.current = some 0)
      ∧ (held .paused).gen.state = .paused ∧ (held .paused).pauseDemand = true ∧ quiet.gen.state = .stopped := by
  decide +kernel

/-- A tag not in the list; an entry with its condition active, and clear; the last protective entry of a HELD zone, of a DUMPED
one without and with the STOP hold; and one that leaves a protective entry behind. -/
theorem witness_release :
    (1#8).toNat = (1 : Fin 4).val ∧ (∀ e ∈ quiet.zones[(1 : Fin 4)].entries, e.tag ≠ 0#16)
      ∧ (∀ b ∈ [true, false], ∀ st ∈ [ZoneState.held, .dumped, .unloaded],
          ∀ more ∈ [[], [entry 12#16 .stop .dumpAll .manual true]],
          let s := zoned st (crackEntry b :: more)
          s.zones[(1 : Fin 4)].entries = [] ++ crackEntry b :: more ∧ (crackEntry b).tag = 11#16 ∧ (crackEntry b).condition = b
            ∧ s.zones[(1 : Fin 4)].state = st ∧ s.stopHold = false ∧ s.queue.records.length ≤ 125
            ∧ ((∀ x ∈ [] ++ more, x.action.severity = 0) ↔ more = []))
      ∧ ({ zoned .dumped [crackEntry false] with stopHold := true } : State).stopHold = true
      ∧ (queued (List.replicate 125 (plainRecord 1#16))).queue.records.length ≤ 125 := by decide +kernel

/-- A zone past the last, and SET_ZONE's flag and rates past their bounds. -/
theorem witness_zone_ranges :
    3 < (4#8).toNat
      ∧ ∀ x ∈ [(4, 0, 1, 1), (0, 2, 1, 1), (0, 0, 0, 1), (0, 0, 32768, 1), (0, 0, 1, 0), (0, 0, 1, 32768)],
          3 < (BitVec.ofNat 8 x.1).toNat ∨ 1 < (BitVec.ofNat 8 x.2.1).toNat ∨ BitVec.ofNat 16 x.2.2.1 = 0#16
            ∨ 32767 < (BitVec.ofNat 16 x.2.2.1).toNat ∨ BitVec.ofNat 16 x.2.2.2 = 0#16
            ∨ 32767 < (BitVec.ofNat 16 x.2.2.2).toNat := by decide +kernel

theorem witness_timed_and_boundary :
    (let e : Entry := { entry 9#16 (.gaugeWindow 17) .report .timed false with timer := 1#32 }
     (zoned .normal [e]).zones[(1 : Fin 4)].entries.find? (fun x => x.tag == e.tag) = some e ∧ e.method = .timed
      ∧ e.condition = false ∧ e.timer.toNat ≤ 1
      ∧ ({ count 0#16 with order := [.clearTimer 1 e.tag] } : CountArgs).order = [.clearTimer 1 e.tag])
      ∧ (let e := entry 9#16 (.gaugeWindow 17) .report .boundary false
         let s := withZone1 (cycling .running 4290772992#32 0#32 0#32) { normalZone with entries := [e] }
         s.gen.carries = true ∧ e ∈ s.zones[(1 : Fin 4)].entries ∧ e.method = .boundary ∧ e.condition = false
          ∧ s.ListsLawful) := by decide +kernel

/-- A TIMED entry of a source that no count raises, with one and with two counts left; room for a removal's record. -/
theorem witness_timers_in_any_order :
    (∀ k ∈ [1, 2],
        let e : Entry := { entry 9#16 (.gaugeWindow 17) .report .timed false with timer := BitVec.ofNat 32 k }
        (zoned .normal [e]).ListsLawful ∧ e ∈ (zoned .normal [e]).zones[(1 : Fin 4)].entries ∧ e.kind = .source
          ∧ e.method = .timed ∧ e.condition = false ∧ (2 ≤ e.timer.toNat ↔ k = 2) ∧ (e.timer.toNat ≤ 1 ↔ k = 1))
      ∧ (queued (List.replicate 125 (plainRecord 1#16))).queue.records.length ≤ 125 := by decide +kernel

/-- A clear that finds no entry of its source, and one that finds an entry of each method with the condition active and clear, the
entry alone in its list and between two others. -/
theorem witness_clears :
    (∀ e ∈ quiet.zones[(1 : Fin 4)].entries, e.isOf (.gaugeWindow 17) = false)
      ∧ ∀ m ∈ [Method.manual, .auto, .timed, .boundary], ∀ b ∈ [true, false],
          ∀ x ∈ [([], []), ([crackEntry true], [entry 12#16 (.gaugeFault 17) .report .auto true])],
            let e := entry 9#16 (.gaugeWindow 17) .holdZone m b
            let s := zoned .held (x.1 ++ e :: x.2)
            s.ListsLawful ∧ s.zones[(1 : Fin 4)].entries = x.1 ++ e :: x.2 ∧ e.isOf (.gaugeWindow 17) = true
              ∧ e.method = m ∧ e.condition = b := by decide +kernel

/-- A removal that leaves a protective entry and one that leaves none, in each state, without and with the STOP hold. -/
theorem witness_removals :
    ∀ st ∈ [ZoneState.normal, .held, .unloading, .unloaded, .reloading, .dumped], ∀ hold ∈ [true, false],
      ∀ x ∈ [([], false), ([crackEntry true], true)],
        let e := entry 9#16 (.gaugeWindow 17) .holdZone .auto false
        let s : State := { zoned st (x.1 ++ e :: []) with stopHold := hold }
        s.zones[(1 : Fin 4)].entries = x.1 ++ e :: [] ∧ (∀ y ∈ x.1, y.tag ≠ e.tag) ∧ s.zones[(1 : Fin 4)].state = st
          ∧ s.stopHold = hold ∧ ((∃ y ∈ x.1 ++ [], 1 ≤ y.action.severity) ↔ x.2 = true) := by decide +kernel

/-! ### Chapter 9 -/

/-- One place left, none left; a safety record and another, with a SNAPSHOT in the queue and without. -/
theorem witness_admission :
    (queued (List.replicate 127 (plainRecord 1#16))).queue.records.length < 128
      ∧ (let s := queued (plainRecord 1#16 :: snapshotRecord 2#16 :: List.replicate 126 (plainRecord 3#16))
         128 ≤ s.queue.records.length
          ∧ s.queue.records = [plainRecord 1#16] ++ snapshotRecord 2#16 :: List.replicate 126 (plainRecord 3#16)
          ∧ (snapshotRecord 2#16).body.kindCode = 0x01#8 ∧ ∀ y ∈ [plainRecord 1#16], ¬ y.body.kindCode = 0x01#8)
      ∧ (128 ≤ (queued (List.replicate 128 (plainRecord 1#16))).queue.records.length
          ∧ ∀ y ∈ (queued (List.replicate 128 (plainRecord 1#16))).queue.records, ¬ y.body.kindCode = 0x01#8)
      ∧ (Body.zoneChange 0 .normal .held).kindCode ∈ [0x02#8, 0x03#8, 0x04#8]
      ∧ ¬ (Body.commit .cancelled).kindCode ∈ [0x02#8, 0x03#8, 0x04#8] := by decide +kernel

theorem witness_take_record :
    quiet.queue.records = []
      ∧ (queued [plainRecord 43#16, plainRecord 44#16]).queue.records = plainRecord 43#16 :: [plainRecord 44#16] := by
  decide +kernel

theorem witness_set_queue :
    (0#8 : Byte) = 0#8 ∧ 128 < (129#8).toNat ∧ 1 ≤ (1#8).toNat ∧ (128#8).toNat ≤ 128 := by decide +kernel

/-- A boundary with N of 0, suspended, short of N and coming to it, at the greatest N too. -/
theorem witness_auto_snapshot :
    ∀ x ∈ [(0, 0, false), (2, 1, true), (2, 0, false), (2, 1, false), (65535, 65534, false)],
      let s : State := { cycling .running 4290772992#32 0#32 0#32 with
        queue := { quiet.queue with
          interval := BitVec.ofNat 16 x.1, autoCount := BitVec.ofNat 16 x.2.1, suspended := x.2.2 } }
      s.gen.carries = true ∧ s.queue.suspended = x.2.2 ∧ (s.queue.interval = 0#16 ↔ x.1 = 0)
        ∧ (s.queue.autoCount + 1#16 = s.queue.interval ↔ x.2.1 + 1 = x.1) := by decide +kernel

/-! ### Steps -/

/-- A step that has a next state from a state that meets every invariant: a RAMP runs, with a command in front. -/
def lawful : State :=
  { withBlock .running (.ramp 5000#16 10#16) with pending := [.update] }

theorem witness_steps_keep :
    (∃ t, step lawful = .next t) ∧ lawful.QueueBounded ∧ lawful.ReadySettled ∧ lawful.ListsLawful ∧ lawful.ZonesProtected
      ∧ lawful.StopObeyed ∧ lawful.SetpointsBound ∧ lawful.CountsInRange :=
  ⟨⟨_, rfl⟩, by decide +kernel, by decide +kernel, by decide +kernel, by decide +kernel, by decide +kernel,
    by unfold State.SetpointsBound; decide +kernel, by unfold State.CountsInRange; decide +kernel⟩

theorem witness_generator_lawful : lawful.GeneratorLawful ∧ lawful.LoopsBounded := by
  refine ⟨⟨by decide +kernel, ?_, by decide +kernel, by decide +kernel, by decide +kernel, by decide +kernel⟩, ?_⟩
  · intro b h
    have e : lawful.gen.currentBlock = some (.ramp 5000#16 10#16) := by decide +kernel
    rw [e] at h
    cases h
    rfl
  · intro i j k h
    have e : ∀ i : Fin 64, lawful.gen.program[i].kind ≠ .jump := by decide +kernel
    exact absurd (by rw [h]; rfl) (e i)

/-- The state of `witness_steps_keep`, with a watchdog, a stale timer, a clear-timer and a DWELL that run. -/
def timed : State :=
  { gauged { withBlock .running (.dwell 9#32) with pending := [.referenceCount (count 0#16)] }
      { GaugeRun.fresh with stale := .running, staleLeft := 1#16 } with
    gen := { (withBlock .running (.dwell 9#32)).gen with countdown := 1#32 }
    frames := (stalled .alive).frames
    zones := quiet.zones.set 1
      { normalZone with entries := [{ entry 9#16 (.gaugeWindow 17) .report .timed false with timer := 3600000#32 }] } }

theorem witness_timers_run : (∃ t, step timed = .next t) ∧ timed.ListsLawful ∧ timed.TimersRun := by
  refine ⟨⟨_, rfl⟩, by decide +kernel, by decide +kernel, by decide +kernel, by decide +kernel, by decide +kernel,
    by decide +kernel, ?_, ?_⟩
  · intro i d h
    have e : ∀ i : Fin 64, timed.gen.program[i] = .stop ∨ timed.gen.program[i] = .dwell 9#32 := by decide +kernel
    rcases e i with e | e <;> rw [h] at e <;> cases e
    decide
  · intro _ b h
    have e : timed.gen.currentBlock = some (.dwell 9#32) := by decide +kernel
    rw [e] at h
    cases h
    decide +kernel

/-- The first step from reset with STOPn read low twice: the second count qualifies the line LOW. -/
theorem witness_stop_line_low :
    leaves (.referenceCount { ck := 0#16, stopn := .low })
        { State.reset with stopLine := { qualifier := { level := none, last := some .low, run := 1 }, condition := false } }
      (fun t => t.stopLine.qualifier.level == some .low) = true
      ∧ ({ State.reset with
          stopLine := { qualifier := { level := none, last := some .low, run := 1 }, condition := false } } : State).StopObeyed := by
  decide +kernel

end Sys2Proof.Tests
end

/-! Ports, requests and attention (chapter 1): what a taken request leaves in the state and its window, what an event status
holds, and from these READ_IDENT, READ_EVENTS, CLEAR_EVENTS and SET_EVENT_MASK (R11 to R14). -/
namespace Sys2Proof.Machine

/-! ### Serving a request -/

theorem State.serve_ok {s t : State} {p : PortId} {r : ReqName} {n : Nat} {act : State → Reply} {body : List Byte}
    (right : hasRight p r = true) (reply : act s = .ok (t, body)) :
    s.serve p r n act = t.answer p (reqCode r) (BitVec.ofNat 16 n) .ok body := by
  simp [State.serve, right, reply]

theorem State.serve_refused {s : State} {p : PortId} {r : ReqName} {n : Nat} {act : State → Reply} {e : Result}
    (right : hasRight p r = true) (reply : act s = .error e) :
    s.serve p r n act = s.answer p (reqCode r) (BitVec.ofNat 16 n) e [] := by
  simp [State.serve, right, reply]

theorem answerBytes_ok_one (x : Byte) : answerBytes .ok [x] = [0x00#8, 0#8, 1#8, x] := by
  simp [answerBytes, Result.code, bytes2]

theorem answerBytes_ok_two (x y : Byte) : answerBytes .ok [x, y] = [0x00#8, 0#8, 2#8, x, y] := by
  simp [answerBytes, Result.code, bytes2]

/-! ### What a change at one port leaves -/

/-- What a change of one port's context does not touch in a context, it touches at no port. -/
theorem State.updPort_keeps {α : Type} (g : Port → α) {f : Port → Port} (h : ∀ x, g (f x) = g x) (s : State)
    (p q : PortId) : g (s.updPort p f).ports[portIndex q] = g s.ports[portIndex q] := by
  rw [State.updPort_get]
  split
  · next same => rw [h, same]
  · rfl

/-- An event status reads the latched events of its port and the queue's LOG_READY condition (R9). -/
theorem State.eventStatus_congr {s t : State} {p : PortId}
    (latched : t.ports[portIndex p].latched = s.ports[portIndex p].latched)
    (ready : t.queue.logReady = s.queue.logReady) : t.eventStatus p = s.eventStatus p := by
  simp only [State.eventStatus, latched, ready]

section
variable (s : State) (p : PortId) (code : Byte) (length : Half) (res : Result) (body : List Byte)

@[simp] theorem State.answer_answerOf : (s.answer p code length res body).answerOf p = some (answerBytes res body) := by
  simp [State.answerOf, State.answer, Window.answering]

/-- An answer moves only the window of its port, so no event set of any port (R3, R6). -/
@[simp] theorem State.answer_latched (q : PortId) :
    (s.answer p code length res body).ports[(portIndex q).val].latched = s.ports[portIndex q].latched :=
  State.updPort_keeps Port.latched (by intro; rfl) s p q

@[simp] theorem State.answer_mask (q : PortId) :
    (s.answer p code length res body).ports[(portIndex q).val].mask = s.ports[portIndex q].mask :=
  State.updPort_keeps Port.mask (by intro; rfl) s p q

@[simp] theorem State.answer_eventStatus (q : PortId) :
    (s.answer p code length res body).eventStatus q = s.eventStatus q :=
  State.eventStatus_congr (s.answer_latched p code length res body q) rfl

@[simp] theorem State.answer_attnLow (q : PortId) : (s.answer p code length res body).attnLow q = s.attnLow q := by
  simp [State.attnLow]

/-- A request that changes its port's own context and is answered there leaves the other ports. -/
theorem State.updPort_answer_other (f : Port → Port) {q : PortId} (h : q ≠ p) :
    ((s.updPort p f).answer p code length res body).ports[portIndex q] = s.ports[portIndex q] := by
  rw [State.answer, State.updPort_get, if_neg h.symm, State.updPort_get, if_neg h.symm]

theorem State.updPort_answer_rest (f : Port → Port) :
    { (s.updPort p f).answer p code length res body with ports := s.ports } = s := rfl
end

/-! ### Event statuses, bit by bit (R8, R9) -/

theorem Event.logReady_bit : Event.logReady.bit = BitVec.twoPow 7 5 := rfl

theorem Event.ownLate_bit : Event.ownLate.bit = BitVec.twoPow 7 6 := rfl

/-- LOG_READY is not latched: it stands in every status exactly while the queue's condition is set. -/
theorem State.eventStatus_logReady (s : State) (p : PortId) : (s.eventStatus p).getLsbD 5 = s.queue.logReady := by
  cases h : s.queue.logReady <;> simp [State.eventStatus, Event.logReady_bit, h]

theorem State.eventStatus_latched (s : State) (p : PortId) {k : Nat} (h : k ≠ 5) :
    (s.eventStatus p).getLsbD k = s.ports[portIndex p].latched.getLsbD k := by
  have unset : Event.logReady.bit.getLsbD k = false := by
    simp [Event.logReady_bit, BitVec.getLsbD_twoPow, h.symm]
  have notReady : (if s.queue.logReady then Event.logReady.bit else 0#7).getLsbD k = false := by
    split
    · exact unset
    · exact BitVec.getLsbD_zero
  rw [State.eventStatus, BitVec.getLsbD_or, BitVec.getLsbD_and, BitVec.getLsbD_not, unset, notReady]
  by_cases hk : k < 7
  · simp [hk]
  · simp [BitVec.getLsbD_of_ge _ _ (Nat.le_of_not_lt hk)]

/-! ### READ_IDENT (R14) -/

/-- Settles O7: every port has the right to READ_IDENT, which keeps the state it is served in. -/
theorem readIdentAnswersThePartCode : Obligations.ReadIdentAnswersThePartCode := by
  intro p s
  exact congrArg Host.Outcome.next (State.serve_ok (r := .readIdent) (n := 0) rfl rfl)

/-! ### READ_EVENTS (R11) -/

theorem exec_readEvents (p : PortId) (s : State) :
    exec (.readEvents p) s =
      .next (s.answer p 0x02#8 0#16 .ok [eventByte (s.eventStatus p), eventByte s.ports[portIndex p].mask]) :=
  congrArg Host.Outcome.next (State.serve_ok (r := .readEvents) (n := 0) rfl rfl)

/-- Settles O8, by the bits of an event status. -/
theorem readEventsAnswersStatusAndMask : Obligations.ReadEventsAnswersStatusAndMask := by
  intro p s
  exact ⟨exec_readEvents p s, s.eventStatus_logReady p, fun _ h => s.eventStatus_latched p h⟩

/-! ### CLEAR_EVENTS (R12) -/

theorem exec_clearEvents (p : PortId) (events : Byte) (s : State) :
    exec (.clearEvents p events) s =
      .next ((s.clearEvents p (events.setWidth 7)).answer p 0x03#8 1#16 .ok
        [eventByte ((s.clearEvents p (events.setWidth 7)).eventStatus p)]) :=
  congrArg Host.Outcome.next (State.serve_ok (r := .clearEvents) (n := 1) rfl rfl)

@[simp] theorem State.clearEvents_mask (s : State) (p : PortId) (events : BitVec 7) :
    (s.clearEvents p events).ports[(portIndex p).val].mask = s.ports[portIndex p].mask :=
  State.updPort_keeps Port.mask (by intro; rfl) s p p

theorem State.clearEvents_eventStatus (s : State) (p : PortId) (events : Byte) {k : Nat} (hk : k < 7) :
    ((s.clearEvents p (events.setWidth 7)).eventStatus p).getLsbD k =
      if k = 5 then s.queue.logReady else (s.eventStatus p).getLsbD k && !events.getLsbD k := by
  split
  · next h => rw [h, State.eventStatus_logReady]; rfl
  · next h =>
    rw [State.eventStatus_latched _ _ h, State.eventStatus_latched _ _ h]
    simp [State.clearEvents, hk]

/-- Settles O9: the cleared events leave the latched set of the one port, and the answer moves only its window. -/
theorem clearEventsRemovesTheNamedEvents : Obligations.ClearEventsRemovesTheNamedEvents := by
  intro p events s
  refine ⟨_, exec_clearEvents p events s, ?answer, ?status, ?mask, ?attention, ?others, ?rest⟩
  case answer => simp [answerBytes_ok_one]
  case status => intro k hk; simpa using s.clearEvents_eventStatus p events hk
  case mask => simp
  case attention => simp [State.attnLow]
  case others => exact fun q h => s.updPort_answer_other p _ _ _ _ _ h
  case rest => exact s.updPort_answer_rest p _ _ _ _ _

/-! ### SET_EVENT_MASK (R13) -/

/-- The effect of SET_EVENT_MASK on the state, before its answer. -/
def State.replaceMask (s : State) (p : PortId) (mask : BitVec 7) : State :=
  s.updPort p fun q => { q with mask := mask }

@[simp] theorem State.replaceMask_mask (s : State) (p : PortId) (mask : BitVec 7) :
    (s.replaceMask p mask).ports[(portIndex p).val].mask = mask := by
  simp [State.replaceMask]

@[simp] theorem State.replaceMask_eventStatus (s : State) (p : PortId) (mask : BitVec 7) :
    (s.replaceMask p mask).eventStatus p = s.eventStatus p :=
  State.eventStatus_congr (State.updPort_keeps Port.latched (by intro; rfl) s p p) rfl

/-- The ports that may not name OWN_LATE, the event of bit 6, are DIRECTOR and LOGGER. -/
theorem maskConflicts_iff (p : PortId) (mask : Byte) :
    maskConflicts p (mask.setWidth 7) = true ↔ (p = .director ∨ p = .logger) ∧ mask.getLsbD 6 = true := by
  have group : (portGroup p != .frames) = true ↔ p = .director ∨ p = .logger := by
    cases p <;> simp [portGroup]
  have bit : ((mask.setWidth 7 &&& Event.ownLate.bit) != 0#7) = true ↔ mask.getLsbD 6 = true := by
    rw [Event.ownLate_bit, BitVec.and_twoPow, BitVec.getLsbD_setWidth]
    cases mask.getLsbD 6 <;> simp
  rw [maskConflicts, Bool.and_eq_true, group, bit]

theorem exec_setEventMask_of_conflict {p : PortId} {mask : Byte} (s : State)
    (h : maskConflicts p (mask.setWidth 7) = true) :
    exec (.setEventMask p mask) s = .next (s.answer p 0x04#8 1#16 .conflict []) :=
  congrArg Host.Outcome.next (State.serve_refused (r := .setEventMask) (n := 1) rfl (if_pos h))

theorem exec_setEventMask_of_not_conflict {p : PortId} {mask : Byte} (s : State)
    (h : ¬ maskConflicts p (mask.setWidth 7) = true) :
    exec (.setEventMask p mask) s =
      .next ((s.replaceMask p (mask.setWidth 7)).answer p 0x04#8 1#16 .ok
        [eventByte (mask.setWidth 7), eventByte (s.eventStatus p)]) := by
  refine congrArg Host.Outcome.next (State.serve_ok (r := .setEventMask) (n := 1) rfl ((if_neg h).trans ?_))
  change Except.ok (s.replaceMask p (mask.setWidth 7),
    [eventByte (s.replaceMask p (mask.setWidth 7)).ports[portIndex p].mask,
      eventByte ((s.replaceMask p (mask.setWidth 7)).eventStatus p)]) = _
  simp

/-- Settles O10, by whether the mask names OWN_LATE at a port that may not have it. -/
theorem setEventMaskReplacesTheMask : Obligations.SetEventMaskReplacesTheMask := by
  intro p mask s
  refine ⟨fun h => exec_setEventMask_of_conflict s ((maskConflicts_iff p mask).mpr h), fun accepted => ?_⟩
  have noConflict : ¬ maskConflicts p (mask.setWidth 7) = true := by
    rw [maskConflicts_iff]
    rintro ⟨port, named⟩
    obtain ⟨f, rfl⟩ | unnamed := accepted
    · simp at port
    · exact Bool.false_ne_true (unnamed.symm.trans named)
  refine ⟨_, exec_setEventMask_of_not_conflict s noConflict, ?newMask, ?status, ?attention, ?answer, ?others, ?rest⟩
  case newMask => simp
  case status => simp
  case attention => simp [State.attnLow]
  case answer => simp [answerBytes_ok_two]
  case others => exact fun q h => s.updPort_answer_other p _ _ _ _ _ h
  case rest => exact s.updPort_answer_rest p _ _ _ _ _

end Sys2Proof.Machine

/-! The load generator's program table and its start (chapter 2): the index forms of the requests, what a transition into a
block that governs leaves in the generator, what REINIT does to it, and from these SET_START_BLOCK and READ_BLOCK (R19, R20). -/
namespace Sys2Proof.Machine

/-! ### Index operands (R164) -/

theorem index?_of_toNat_eq {n : Nat} {b : Byte} {i : Fin n} (h : b.toNat = i.val) : index? n b = some i := by
  simp [index?, h]

theorem index?_of_le {n : Nat} {b : Byte} (h : n ≤ b.toNat) : index? n b = none := by
  simp [index?, h]

/-! ### The field bytes of a block (R20, R164) -/

theorem bytes4_zero : bytes4 0#32 = List.replicate 4 0#8 := by decide

theorem bytes2_zero : bytes2 0#16 = List.replicate 2 0#8 := by decide

/-! ### Entering a block (R32) -/

/-- A chain ends at its candidate, with the loop counters as they are, when the block there governs. -/
theorem chain_of_governs {program : Vector Block 64} {i : Fin 64} (h : program[i].governs = true) (left : Nat)
    (loops : Vector Half 64) (jumped : Bool) :
    chain program left i.val loops jumped = (loops, .governs i jumped) := by
  rw [Fin.getElem_fin] at h
  unfold chain
  rw [dif_pos i.isLt]
  split
  · rfl
  · rfl
  · rfl
  · next stop => simp [stop, Block.governs] at h
  · next jump => simp [jump, Block.governs] at h

@[simp] theorem State.programRecord_gen (s : State) (i : Fin 64) (r : Reason) :
    (s.programRecord i r).gen = { s.gen with lastReason := r } := by
  simp [State.programRecord]

@[simp] theorem Generator.enter_current (g : Generator) (i : Fin 64) : (g.enter i).current = some i := by
  unfold Generator.enter
  dsimp only
  split <;> rfl

theorem State.transition_current_of_governs {s : State} {i : Fin 64} (h : s.gen.program[i].governs = true)
    (fromStart byAdvance : Bool) : (s.transition i.val fromStart byAdvance).gen.current = some i := by
  simp [State.transition, chain_of_governs h]

/-! ### REINIT leaves the generator at its reset values (R15, R38) -/

/-- What each step of a fold leaves in the generator, the fold leaves. -/
theorem State.foldl_gen {α : Type} {f : State → α → State} (h : ∀ s a, (f s a).gen = s.gen) (l : List α) (s : State) :
    (l.foldl f s).gen = s.gen := by
  induction l generalizing s with
  | nil => rfl
  | cons a l ih => exact (ih (f s a)).trans (h s a)

@[simp] theorem State.restartRecords_gen (s : State) (z : Fin 4) (before : ZoneState) :
    (s.restartRecords z before).gen = s.gen := by
  unfold State.restartRecords
  dsimp only
  split <;> simp

@[simp] theorem State.reinit_gen (s : State) : s.reinit.gen = { Generator.reset with cycles := s.gen.cycles } :=
  calc s.reinit.gen
    _ = (allZones.foldl State.restartZone s.defaults).gen :=
      State.foldl_gen (fun t z => t.restartRecords_gen z s.zones[z].state) _ _
    _ = s.defaults.gen := State.foldl_gen (fun t z => t.appendEntry_gen z _) _ _

/-! ### SET_START_BLOCK and START (R19, R22) -/

theorem exec_setStartBlock_of_index {i : Fin 64} {b : Byte} (h : b.toNat = i.val) (s : State) :
    exec (.setStartBlock .director b) s =
      .next ((s.setGen { s.gen with startIndex := i }).answer .director 0x12#8 1#16 .ok [b]) :=
  congrArg Host.Outcome.next (State.serve_ok (r := .setStartBlock) (n := 1) rfl (by rw [index?_of_toNat_eq h]))

theorem exec_setStartBlock_of_range {b : Byte} (h : 64 ≤ b.toNat) (s : State) :
    exec (.setStartBlock .director b) s = .next (s.answer .director 0x12#8 1#16 .range []) :=
  congrArg Host.Outcome.next (State.serve_refused (r := .setStartBlock) (n := 1) rfl (by rw [index?_of_le h]))

theorem exec_start_of_ready {s : State} (resting : s.gen.executing = false) (normal : s.allNormal = true) :
    exec (.start .director) s =
      .next (s.startProgram.answer .director 0x13#8 0#16 .ok
        [s.startProgram.gen.state.code, blockIndex s.startProgram.gen.current]) :=
  congrArg Host.Outcome.next (State.serve_ok (r := .start) (n := 0) rfl (if_neg (by simp [resting, normal])))

theorem State.startProgram_current_of_governs {s : State} (h : s.gen.program[s.gen.startIndex].governs = true) :
    s.startProgram.gen.current = some s.gen.startIndex :=
  State.transition_current_of_governs (by simpa using h) true false

/-! ### READ_BLOCK (R20) -/

theorem exec_readBlock_of_index {i : Fin 64} {b : Byte} (h : b.toNat = i.val) (p : PortId) (s : State) :
    exec (.readBlock p b) s =
      .next (s.answer p 0x11#8 1#16 .ok
        ([b, s.gen.program[i].kind.code] ++ s.gen.program[i].fieldBytes ++ bytes2 s.gen.loops[i])) :=
  congrArg Host.Outcome.next (State.serve_ok (r := .readBlock) (n := 1) rfl (by rw [index?_of_toNat_eq h]))

theorem exec_readBlock_of_range {b : Byte} (h : 64 ≤ b.toNat) (p : PortId) (s : State) :
    exec (.readBlock p b) s = .next (s.answer p 0x11#8 1#16 .range []) :=
  congrArg Host.Outcome.next (State.serve_refused (r := .readBlock) (n := 1) rfl (by rw [index?_of_le h]))

/-- Settles O21: an index byte names a block or is out of range, START enters the block at the start index when it governs, and
the answer of READ_BLOCK is taken apart by the kind of the block. -/
theorem startIndexAndReadBlock : Obligations.StartIndexAndReadBlock := by
  refine ⟨?names, ?start, rfl, ?reinit, ?reads, ?range⟩
  case names => exact fun i b s h => exec_setStartBlock_of_index h s
  case start =>
    exact fun s resting normal governs =>
      ⟨_, exec_start_of_ready resting normal, State.startProgram_current_of_governs governs⟩
  case reinit => intro s; rw [State.reinit_gen]; rfl
  case reads =>
    intro p i b s h
    rw [exec_readBlock_of_index h]
    cases s.gen.program[i] <;>
      simp [Block.kind, BlockKind.code, Block.fieldBytes, bytes2_zero, bytes4_zero, byteOf]
  case range => exact fun p b s h => ⟨exec_setStartBlock_of_range h s, exec_readBlock_of_range h p s⟩

end Sys2Proof.Machine

/-! The load sets and the commit state (chapter 4): the request lemmas of STAGE_CHANNEL, STAGE_SCALE, ARM_COMMIT and DISARM in
the order their checks are made, range before commit state (R5, R65 to R67, R71), and from these the rules of staging and arming. -/
namespace Sys2Proof.Machine

/-! ### STAGE_CHANNEL and STAGE_SCALE (R65, R66) -/

section
variable {s : State} {b : Byte} {c : Fin 8} {share offset ascale : Half}

theorem exec_stageChannel_of_channel_range (h : 8 ≤ b.toNat) :
    exec (.stageChannel .director b share offset) s = .next (s.answer .director 0x22#8 5#16 .range []) :=
  congrArg Host.Outcome.next (State.serve_refused (r := .stageChannel) (n := 5) rfl (by rw [index?_of_le h]))

theorem exec_stageChannel_of_share_range (h : b.toNat = c.val) (out : share.toInt < -8192 ∨ 8192 < share.toInt) :
    exec (.stageChannel .director b share offset) s = .next (s.answer .director 0x22#8 5#16 .range []) :=
  congrArg Host.Outcome.next (State.serve_refused (r := .stageChannel) (n := 5) rfl
    (by rw [index?_of_toNat_eq h]; exact if_pos out))

/-- Either way of being out of range is refused RANGE: the share is looked at only when the byte names a channel. -/
theorem exec_stageChannel_of_range (out : 7 < b.toNat ∨ share.toInt < -8192 ∨ 8192 < share.toInt) :
    exec (.stageChannel .director b share offset) s = .next (s.answer .director 0x22#8 5#16 .range []) := by
  by_cases named : b.toNat < 8
  · exact exec_stageChannel_of_share_range (c := ⟨b.toNat, named⟩) rfl (out.resolve_left (by omega))
  · exact exec_stageChannel_of_channel_range (Nat.le_of_not_lt named)

theorem exec_stageChannel_of_armed (h : b.toNat = c.val) (within : ¬ (share.toInt < -8192 ∨ 8192 < share.toInt))
    (armed : s.commit ≠ .none) :
    exec (.stageChannel .director b share offset) s = .next (s.answer .director 0x22#8 5#16 .busy []) :=
  congrArg Host.Outcome.next (State.serve_refused (r := .stageChannel) (n := 5) rfl
    (by rw [index?_of_toNat_eq h]; exact (if_neg within).trans (if_pos armed)))

theorem exec_stageChannel_of_unarmed (h : b.toNat = c.val) (within : ¬ (share.toInt < -8192 ∨ 8192 < share.toInt))
    (unarmed : s.commit = .none) :
    exec (.stageChannel .director b share offset) s =
      .next ((s.setStagedSet
        { s.stagedSet with share := s.stagedSet.share.set c share, offset := s.stagedSet.offset.set c offset }).answer
          .director 0x22#8 5#16 .ok
          (bytes2 share ++ bytes2 offset ++ bytes2 s.activeSet.share[c] ++ bytes2 s.activeSet.offset[c])) :=
  congrArg Host.Outcome.next (State.serve_ok (r := .stageChannel) (n := 5) rfl
    (by rw [index?_of_toNat_eq h]; exact (if_neg within).trans (if_neg (not_not_intro unarmed))))

theorem exec_stageScale_of_range (out : 2048 < ascale.toNat) :
    exec (.stageScale .director ascale) s = .next (s.answer .director 0x23#8 2#16 .range []) :=
  congrArg Host.Outcome.next (State.serve_refused (r := .stageScale) (n := 2) rfl (if_pos out))

theorem exec_stageScale_of_armed (within : ascale.toNat ≤ 2048) (armed : s.commit ≠ .none) :
    exec (.stageScale .director ascale) s = .next (s.answer .director 0x23#8 2#16 .busy []) :=
  congrArg Host.Outcome.next (State.serve_refused (r := .stageScale) (n := 2) rfl
    ((if_neg (Nat.not_lt.mpr within)).trans (if_pos armed)))

theorem exec_stageScale_of_unarmed (within : ascale.toNat ≤ 2048) (unarmed : s.commit = .none) :
    exec (.stageScale .director ascale) s =
      .next ((s.setStagedSet { s.stagedSet with ascale := ascale }).answer .director 0x23#8 2#16 .ok
        (bytes2 ascale ++ bytes2 s.activeSet.ascale)) :=
  congrArg Host.Outcome.next (State.serve_ok (r := .stageScale) (n := 2) rfl
    ((if_neg (Nat.not_lt.mpr within)).trans (if_neg (not_not_intro unarmed))))
end

/-- Settles O34, by the checks of each request in their order: the ranges, then the commit state. -/
theorem stagingWritesThePendingSet : Obligations.StagingWritesThePendingSet := by
  intro s
  refine ⟨?channelRange, ?channel, ?scale⟩
  case channelRange => exact fun b share offset out => exec_stageChannel_of_range out
  case channel =>
    intro c b share offset named low high
    have within : ¬ (share.toInt < -8192 ∨ 8192 < share.toInt) := by omega
    exact ⟨exec_stageChannel_of_armed named within, exec_stageChannel_of_unarmed named within⟩
  case scale =>
    exact fun ascale => ⟨exec_stageScale_of_range, exec_stageScale_of_armed, exec_stageScale_of_unarmed⟩

/-! ### ARM_COMMIT and DISARM (R67, R71) -/

theorem commitMode?_of_two_le {b : Byte} (h : 2 ≤ b.toNat) : commitMode? b = none := by
  unfold commitMode?
  split
  · omega
  · omega
  · rfl

theorem exists_commitMode?_of_le_one {b : Byte} (h : b.toNat ≤ 1) : ∃ m, commitMode? b = some m := by
  obtain zero | one := Nat.le_one_iff_eq_zero_or_eq_one.mp h
  · exact ⟨.now, by simp [commitMode?, zero]⟩
  · exact ⟨.boundary, by simp [commitMode?, one]⟩

/-- The commit state in which ARM_COMMIT of a mode leaves a part with no commit armed (R64). -/
def CommitMode.armed : CommitMode → CommitState
  | .now => .armedNow
  | .boundary => .armedBoundary

section
variable {s : State} {mode : Byte} {m : CommitMode}

theorem exec_armCommit_of_range (h : commitMode? mode = none) :
    exec (.armCommit .director mode) s = .next (s.answer .director 0x24#8 1#16 .range []) :=
  congrArg Host.Outcome.next (State.serve_refused (r := .armCommit) (n := 1) rfl (by rw [h]))

theorem exec_armCommit_of_armed (h : commitMode? mode = some m) (armed : s.commit ≠ .none) :
    exec (.armCommit .director mode) s = .next (s.answer .director 0x24#8 1#16 .busy []) :=
  congrArg Host.Outcome.next (State.serve_refused (r := .armCommit) (n := 1) rfl (by rw [h]; exact if_pos armed))

theorem exec_armCommit_of_unarmed (h : commitMode? mode = some m) (unarmed : s.commit = .none) :
    exec (.armCommit .director mode) s =
      .next ((s.setCommit m.armed).answer .director 0x24#8 1#16 .ok [m.armed.code]) :=
  congrArg Host.Outcome.next (State.serve_ok (r := .armCommit) (n := 1) rfl (by
    rw [h]
    refine (if_neg (not_not_intro unarmed)).trans ?_
    cases m
    case now => rfl
    case boundary => rfl))

theorem exec_disarm_of_unarmed (unarmed : s.commit = .none) :
    exec (.disarm .director) s = .next (s.answer .director 0x25#8 0#16 .ok [CommitOutcome.none.code]) :=
  congrArg Host.Outcome.next (State.serve_ok (r := .disarm) (n := 0) rfl (if_pos unarmed))

theorem exec_disarm_of_armed (armed : s.commit ≠ .none) :
    exec (.disarm .director) s =
      .next ((((s.setCommit .none).record (.commit .cancelled)).addEvent .commitDone).answer .director 0x25#8 0#16 .ok
        [CommitOutcome.cancelled.code]) :=
  congrArg Host.Outcome.next (State.serve_ok (r := .disarm) (n := 0) rfl (if_neg armed))
end

/-- Settles O35, by the mode the byte names, if any, and whether a commit is armed. -/
theorem armAndDisarm : Obligations.ArmAndDisarm := by
  intro mode s
  refine ⟨?range, ?busy, ?now, ?boundary, exec_disarm_of_unarmed, exec_disarm_of_armed⟩
  case range => exact fun out => exec_armCommit_of_range (commitMode?_of_two_le out)
  case busy =>
    intro named armed
    obtain ⟨m, hm⟩ := exists_commitMode?_of_le_one named
    exact exec_armCommit_of_armed hm armed
  case now => rintro rfl unarmed; exact exec_armCommit_of_unarmed (m := .now) rfl unarmed
  case boundary => rintro rfl unarmed; exact exec_armCommit_of_unarmed (m := .boundary) rfl unarmed

end Sys2Proof.Machine

/-! The record queue (chapter 9): how many bytes each record body is sent in (section 10.5), what taking the oldest record leaves
in the queue, and from these TAKE_RECORD (R153). -/
namespace Sys2Proof.Machine

/-! ### The body of a record (section 10.5) -/

theorem length_flatMap_of_constant {α β : Type} {f : α → List β} {n : Nat} (h : ∀ x, (f x).length = n) (l : List α) :
    (l.flatMap f).length = n * l.length := by
  induction l with
  | nil => rfl
  | cons x xs ih => rw [List.flatMap_cons, List.length_append, h, ih, List.length_cons, Nat.mul_succ, Nat.add_comm]

@[simp] theorem length_extremeBytes (x : Option Extremes) : (extremeBytes x).length = 4 := by
  cases x
  case none => rfl
  case some => rfl

@[simp] theorem length_opt2 (x : Option Half) : (opt2 x).length = 3 := by
  cases x
  case none => rfl
  case some => rfl

theorem SnapGauge.length_bytes (x : SnapGauge) : x.bytes.length = 6 := by
  simp [SnapGauge.bytes]

theorem SnapChannel.length_bytes (x : SnapChannel) : x.bytes.length = 7 := by
  simp [SnapChannel.bytes]

theorem Body.length_snapshot_bytes (trigger : Trigger) (gen : GenState) (block : Option (Fin 64)) (gauges : List SnapGauge)
    (channels : Vector SnapChannel 8) :
    (Body.snapshot trigger gen block gauges channels).bytes.length = 60 + 6 * gauges.length := by
  simp only [Body.bytes, List.length_append, List.length_cons, List.length_nil,
    length_flatMap_of_constant SnapGauge.length_bytes, length_flatMap_of_constant SnapChannel.length_bytes, Vector.length_toList]
  omega

theorem flagByte_three (a b c : Bool) : flagByte [a, b, c] = BitVec.ofNat 8 (a.toNat + 2 * b.toNat + 4 * c.toNat) := by
  revert a b c
  decide

/-- A gauge entry with its flag byte as the number its flags make: EMPTY, FAULT and SAT are bits 0, 1 and 2 (R164). -/
theorem SnapGauge.bytes_eq :
    SnapGauge.bytes = fun x => [byteOf x.gauge.val] ++ extremeBytes x.extremes
      ++ [BitVec.ofNat 8 (x.extremes.isNone.toNat + 2 * x.fault.toNat + 4 * x.sat.toNat)] :=
  funext fun _ => congrArg (_ ++ [·]) (flagByte_three ..)

/-! ### TAKE_RECORD (R153) -/

theorem Queue.taken_of_records {q : Queue} {r : Record} {rest : List Record} (h : q.records = r :: rest) :
    q.taken = { q with records := rest, logReady := if rest.length ≤ q.off then false else q.logReady } := by
  by_cases low : rest.length ≤ q.off <;> simp [Queue.taken, h, low]

section
variable {s : State} {r : Record} {rest : List Record}

theorem exec_takeRecord_of_empty (h : s.queue.records = []) :
    exec (.takeRecord .logger) s = .next (s.answer .logger 0x60#8 0#16 .empty []) :=
  congrArg Host.Outcome.next (State.serve_refused (r := .takeRecord) (n := 0) rfl (by rw [h]))

theorem exec_takeRecord_of_records (h : s.queue.records = r :: rest) :
    exec (.takeRecord .logger) s =
      .next ((s.setQueue s.queue.taken).answer .logger 0x60#8 0#16 .ok (r.bytes ++ [byteOf rest.length])) :=
  congrArg Host.Outcome.next (State.serve_ok (r := .takeRecord) (n := 0) rfl (by rw [h]))

/-- TAKE_RECORD over the record's layout: a body of this kind, sent in these n bytes, is what follows the header (section 10.5). -/
theorem exec_takeRecord_of_body {kind : Byte} {n : Nat} {body : List Byte} (h : s.queue.records = r :: rest)
    (kindCode : r.body.kindCode = kind) (length : r.body.bytes.length = n) (bytes : r.body.bytes = body) :
    body.length = n ∧ exec (.takeRecord .logger) s =
      .next ({ s with queue :=
            { s.queue with
              records := rest, logReady := if rest.length ≤ s.queue.off then false else s.queue.logReady } }.answer
        .logger 0x60#8 0#16 .ok
          ([kind] ++ bytes2 r.seq ++ bytes4 r.stamp ++ bytes5 r.cycle ++ bytes2 (BitVec.ofNat 16 n) ++ body
            ++ [BitVec.ofNat 8 rest.length])) := by
  subst kindCode length bytes
  exact ⟨rfl, by rw [exec_takeRecord_of_records h, Queue.taken_of_records h]; rfl⟩
end

/-- Settles O53, by whether the queue is empty and, where it is not, by the kind of its oldest record. -/
theorem takeRecordTakesTheOldest : Obligations.TakeRecordTakesTheOldest := by
  refine fun s => ⟨exec_takeRecord_of_empty, ?_⟩
  rintro ⟨seq, stamp, cycle, body⟩ rest h
  cases body
  case snapshot trigger gen block gauges channels =>
    exact exec_takeRecord_of_body h rfl (Body.length_snapshot_bytes ..) (by rw [Body.bytes, SnapGauge.bytes_eq]; rfl)
  case alarmRaised => exact exec_takeRecord_of_body h rfl rfl rfl
  case alarmCleared zone tag kind source method after =>
    cases kind
    case source => exact exec_takeRecord_of_body h rfl rfl rfl
    case overflow => exact exec_takeRecord_of_body h rfl rfl rfl
  case zoneChange => exact exec_takeRecord_of_body h rfl rfl rfl
  case program => exact exec_takeRecord_of_body h rfl rfl rfl
  case commit => exact exec_takeRecord_of_body h rfl rfl rfl

end Sys2Proof.Machine


/-! What a command can do, said once: a request is denied, refused, or has its row's effect and is answered OK; a byte clocked at a
port moves its window or takes such a request; and every other command takes an update, a count, a gauge frame or a reset. The
statements about every command go through these lemmas. -/
namespace Sys2Proof.Machine

/-! ### What a request does when it is not refused -/

/-- What PAUSE does to the part (R23). -/
def State.afterPause (s : State) : State :=
  let s := if s.gen.executing then s.setGen { s.gen with requestedPause := true } else s
  if s.gen.state = .running then s.moveGenerator .paused .pause else s

/-- What RESUME does to the part (R23). -/
def State.afterResume (s : State) : State :=
  let s := s.setGen { s.gen with requestedPause := false }
  if s.gen.state = .paused ∧ s.pauseDemand = false then s.moveGenerator .running .resume else s

/-- What STOP does to the part in each mode (R24). -/
def State.afterStop (s : State) (m : StopMode) : State :=
  if s.gen.executing then
    if m = .atBoundary ∧ s.gen.cycling then s.setGen { s.gen with pendingStop := true } else s.stopGenerator
  else s

/-- What ADVANCE does to the part (R25). -/
def State.afterAdvance (s : State) : State :=
  if s.gen.executing then s.setGen { s.gen with pendingAdvance := true } else s

/-- What DISARM does to the part while a commit is armed (R71). -/
def State.afterDisarm (s : State) : State :=
  ((s.setCommit .none).record (.commit .cancelled)).addEvent .commitDone

/-- What SERVO_EXCHANGE does to the part (R76, R83, R88). -/
def State.exchanged (s : State) (f : Fin 4) (forceA forceB strokeA strokeB : Half) : State :=
  (((s.exchangeChecks f forceA forceB strokeA strokeB).handOut (channelA f)).handOut (channelB f)).exchangeDog f

/-- What WRITE_BLOCK does to the part (R18). -/
def State.writeBlock (s : State) (i : Fin 64) (b : Block) : State :=
  s.setGen { s.gen with program := s.gen.program.set i b, loops := s.gen.loops.set i 0#16 }

/-- The effect of a request that its port has the right to and that is not refused. -/
inductive Effect : PortId → ReqName → State → State → Prop
  | same (p : PortId) (r : ReqName) (s : State) : Effect p r s s
  | clearEvents (p : PortId) (events : BitVec 7) (s : State) : Effect p .clearEvents s (s.clearEvents p events)
  | replaceMask (p : PortId) (mask : BitVec 7) (s : State) : Effect p .setEventMask s (s.replaceMask p mask)
  | reinit (p : PortId) {s : State} (resting : s.gen.executing = false) : Effect p .reinit s s.reinit
  | writeBlock (p : PortId) {s : State} {a : BlockArgs} {i : Fin 64} {b : Block} (block : block? a = some b)
      (free : ¬ (s.gen.executing ∧ s.gen.current = some i)) : Effect p .writeBlock s (s.writeBlock i b)
  | startIndex (p : PortId) (i : Fin 64) (s : State) : Effect p .setStartBlock s (s.setGen { s.gen with startIndex := i })
  | start (p : PortId) {s : State} (resting : s.gen.executing = false) (normal : s.allNormal = true) :
      Effect p .start s s.startProgram
  | pause (p : PortId) (s : State) : Effect p .pause s s.afterPause
  | resume (p : PortId) (s : State) : Effect p .resume s s.afterResume
  | stop (p : PortId) (m : StopMode) (s : State) : Effect p .stop s (s.afterStop m)
  | advance (p : PortId) (s : State) : Effect p .advance s s.afterAdvance
  | replaceChannel (p : PortId) {s : State} {a : ChannelArgs} {c : Fin 8} {ch : Channel} (fields : channelOf? a = some (c, ch))
      (agrees : ch.conflicting = false) (stands : s.moveRefused c ch.zone = false) :
      Effect p .setChannel s (s.replaceChannel c ch)
  | stage (p : PortId) (r : ReqName) (x : LoadSet) (s : State) : Effect p r s (s.setStagedSet x)
  | arm (p : PortId) (x : CommitState) (s : State) : Effect p .armCommit s (s.setCommit x)
  | disarm (p : PortId) (s : State) : Effect p .disarm s s.afterDisarm
  | exchange (f : Fin 4) (forceA forceB strokeA strokeB : Half) (s : State) :
      Effect (.frame f) .servoExchange s (s.exchanged f forceA forceB strokeA strokeB)
  | trip (f : Fin 4) (reason : Byte) (s : State) : Effect (.frame f) .trip s (s.tripFrame f reason)
  | replaceFrame (p : PortId) {s : State} {a : FrameArgs} {f : Fin 4} {x : FrameFields} (fields : frameOf? a = some (f, x)) :
      Effect p .setFrame s (s.replaceFrame f x)
  | replaceGauge (p : PortId) {s : State} {a : GaugeArgs} {g : Fin 64} {x : GaugeConfig} (fields : gaugeOf? a = some (g, x)) :
      Effect p .setGauge s (s.replaceGauge g x)
  | armCaptures (p : PortId) (s : State) : Effect p .captureBaseline s s.armCaptures
  | replaceCrack (p : PortId) {s : State} {a : CrackArgs} {i : Fin 16} {x : CrackConfig} (fields : crackOf? a = some (i, x)) :
      Effect p .setCrack s (s.replaceCrack i x)
  | clearLatches (p : PortId) (inputs : Half) (s : State) : Effect p .clearCrackLatch s (s.clearLatches inputs)
  | replaceZone (p : PortId) (z : Fin 4) (isolate : Bool) (u r : Half) (s : State) :
      Effect p .setZone s (s.replaceZone z isolate u r)
  | release (p : PortId) {s : State} {z : Fin 4} {e : Entry} (mem : e ∈ s.zones[z].entries) (clear : e.condition = false) :
      Effect p .release s (s.removeEntry z e .manual false)
  | reloadZone (p : PortId) {s : State} {z : Fin 4} (unloaded : s.zones[z].state = .unloaded)
      (bare : s.zones[z].hasProtective = false) : Effect p .reloadZone s (s.changeZone z .reloading false)
  | takeRecord (p : PortId) {s : State} (some : s.queue.records ≠ []) : Effect p .takeRecord s (s.setQueue s.queue.taken)
  | snapshot (p : PortId) (t : Trigger) (s : State) : Effect p .snapshot s (s.manualSnapshot t)
  | resumeAuto (p : PortId) (s : State) :
      Effect p .resumeAutoSnapshot s (s.setQueue { s.queue with autoCount := 0#16, suspended := false })
  | configure (p : PortId) {on off : Byte} {a b : Nat} (n : Half) (s : State) (range : thresholds? on off = some (a, b)) :
      Effect p .setQueue s (s.setQueue (s.queue.configured a b n))
  | readQueue (p : PortId) (s : State) : Effect p .readQueue s (s.setQueue { s.queue with lost := false })

/-- A reply to a request at a port: it has an effect of the request's row, or refuses with a code other than OK, and other than
DENIED where the port has the right. -/
def Reply.Lawful (p : PortId) (r : ReqName) (s : State) : Reply → Prop
  | .ok (u, _) => Effect p r s u
  | .error e => e ≠ .ok ∧ (hasRight p r = true → e ≠ .denied)

theorem Reply.Lawful.refuse {p : PortId} {r : ReqName} {s : State} (e : Result) (h : e ≠ .ok ∧ e ≠ .denied := by decide) :
    Reply.Lawful p r s (.error e) := ⟨h.1, fun _ => h.2⟩

/-- The rule of every request row replies lawfully. -/
theorem exec_eq_serve {i : Instr} {p : PortId} {r : ReqName} (h : requestName? i = some (p, r)) (s : State) :
    ∃ n act, exec i s = .next (s.serve p r n act) ∧ Reply.Lawful p r s (act s) := by
  cases i
  all_goals first | cases h; done | skip
  all_goals (cases h; refine ⟨_, _, rfl, ?_⟩)
  case readIdent | readEvents | readGenerator | readCrack => exact .same _ _ _
  case clearEvents => exact .clearEvents _ _ _
  case pause => exact .pause _ _
  case resume => exact .resume _ _
  case advance => exact .advance _ _
  case captureBaseline => exact .armCaptures _ _
  case clearCrackLatch => exact .clearLatches _ _ _
  case snapshot => exact .snapshot _ _ _
  case resumeAutoSnapshot => exact .resumeAuto _ _
  case setEventMask =>
    split
    · exact .refuse _
    · exact .replaceMask _ _ _
  case reinit =>
    split
    · exact .refuse _
    · next resting => exact .reinit _ (by simpa using resting)
  case writeBlock =>
    split
    · next block =>
      split
      · exact .refuse _
      · split
        · exact .refuse _
        · next free => exact .writeBlock _ block free
    · exact .refuse _
  case readBlock | readChannel | readZone =>
    split
    · exact .same _ _ _
    · exact .refuse _
  case setStartBlock =>
    split
    · exact .startIndex _ _ _
    · exact .refuse _
  case start =>
    split
    · exact .refuse _
    · next ready => exact .start _ (by simp_all) (by simp_all)
  case stop =>
    split
    · exact .refuse _
    · exact .stop _ _ _
  case setChannel =>
    split
    · exact .refuse _
    · next fields =>
      split
      · exact .refuse _
      · next agrees =>
        split
        · exact .refuse _
        · next stands => exact .replaceChannel _ fields (by simpa using agrees) (by simpa using stands)
  case stageChannel =>
    split
    · exact .refuse _
    · split
      · exact .refuse _
      · split
        · exact .refuse _
        · exact .stage _ _ _ _
  case stageScale =>
    split
    · exact .refuse _
    · split
      · exact .refuse _
      · exact .stage _ _ _ _
  case armCommit =>
    split
    · exact .refuse _
    · split
      · exact .refuse _
      · exact .arm _ _ _
  case disarm =>
    split
    · exact .same _ _ _
    · exact .disarm _ _
  case servoExchange =>
    split
    · exact .exchange _ _ _ _ _ _
    · exact ⟨by decide, by decide⟩
    · exact ⟨by decide, by decide⟩
  case trip =>
    split
    · exact .trip _ _ _
    · exact ⟨by decide, by decide⟩
    · exact ⟨by decide, by decide⟩
  case setFrame =>
    split
    · exact .refuse _
    · next fields =>
      split
      · exact .refuse _
      · exact .replaceFrame _ fields
  case readFrame =>
    split
    · split
      · exact .same _ _ _
      · exact .refuse _
    · exact .same _ _ _
    · exact .refuse _
    · exact .refuse _
  case setGauge =>
    split
    · exact .refuse _
    · next fields =>
      split
      · exact .refuse _
      · exact .replaceGauge _ fields
  case readGauges =>
    split
    · exact .refuse _
    · exact .same _ _ _
  case setCrack =>
    split
    · exact .refuse _
    · next fields =>
      split
      · exact .refuse _
      · exact .replaceCrack _ fields
  case setZone =>
    split
    · exact .replaceZone _ _ _ _ _ _
    · exact .refuse _
  case release =>
    split
    · exact .refuse _
    · split
      · exact .refuse _
      · next found =>
        split
        · exact .refuse _
        · next clear => exact .release _ (List.mem_of_find?_eq_some found) (by simpa using clear)
  case reloadZone =>
    split
    · exact .refuse _
    · split
      · exact .refuse _
      · next ready => exact .reloadZone _ (by simp_all) (by simp_all)
  case takeRecord =>
    split
    · exact .refuse _
    · next held => exact .takeRecord _ (by simp [held])
  case setQueue =>
    split
    · exact .refuse _
    · next range => exact .configure _ _ _ range
  case readQueue =>
    unfold Reply.Lawful
    dsimp only
    split
    · exact .readQueue _ _
    · exact .same _ _ _

end Sys2Proof.Machine


/-! The bytes of a request (sections 10.1, 10.3 and 10.4): fields written and read back, and with them the argument bytes of every
request row. -/
namespace Sys2Proof.Machine

theorem append_toNat {m n : Nat} (a : BitVec m) (b : BitVec n) : (a ++ b).toNat = a.toNat * 2 ^ n + b.toNat := by
  rw [BitVec.toNat_append, Nat.shiftLeft_eq, Nat.mul_comm, Nat.two_pow_add_eq_or_of_lt b.isLt]

theorem be2_toNat (a b : Byte) : (be2 a b).toNat = a.toNat * 256 + b.toNat := append_toNat a b

theorem be3_toNat (a b c : Byte) : (be3 a b c).toNat = (a.toNat * 256 + b.toNat) * 256 + c.toNat := by
  simp only [be3, append_toNat, Nat.reducePow]

theorem be4_toNat (a b c d : Byte) :
    (be4 a b c d).toNat = ((a.toNat * 256 + b.toNat) * 256 + c.toNat) * 256 + d.toNat := by
  simp only [be4, append_toNat, Nat.reducePow]

theorem extract_toNat {w : Nat} (x : BitVec w) (start : Nat) :
    (x.extractLsb' start 8).toNat = x.toNat / 2 ^ start % 256 := by
  rw [BitVec.extractLsb'_toNat, Nat.shiftRight_eq_div_pow]

@[simp] theorem be2_extract (x : Half) : be2 (x.extractLsb' 8 8) (x.extractLsb' 0 8) = x := by
  apply BitVec.eq_of_toNat_eq
  simp only [be2_toNat, extract_toNat]
  omega

@[simp] theorem be3_extract (x : Raw24) : be3 (x.extractLsb' 16 8) (x.extractLsb' 8 8) (x.extractLsb' 0 8) = x := by
  apply BitVec.eq_of_toNat_eq
  simp only [be3_toNat, extract_toNat]
  omega

@[simp] theorem be4_extract (x : Word) :
    be4 (x.extractLsb' 24 8) (x.extractLsb' 16 8) (x.extractLsb' 8 8) (x.extractLsb' 0 8) = x := by
  apply BitVec.eq_of_toNat_eq
  simp only [be4_toNat, extract_toNat]
  omega

@[simp] theorem bytes2_be2 (a b : Byte) : bytes2 (be2 a b) = [a, b] := by
  simp only [bytes2, List.cons.injEq, ← BitVec.toNat_inj, be2_toNat, extract_toNat, and_true]
  omega

@[simp] theorem bytes3_be3 (a b c : Byte) : bytes3 (be3 a b c) = [a, b, c] := by
  simp only [bytes3, List.cons.injEq, ← BitVec.toNat_inj, be3_toNat, extract_toNat, and_true]
  omega

@[simp] theorem bytes4_be4 (a b c d : Byte) : bytes4 (be4 a b c d) = [a, b, c, d] := by
  simp only [bytes4, List.cons.injEq, ← BitVec.toNat_inj, be4_toNat, extract_toNat, and_true]
  omega

/-- A field's bytes, most significant first, are what `parseRequest` reads the field from. -/
theorem parseRequest_encodeArgs {i : Instr} {p : PortId} {r : ReqName} (h : requestName? i = some (p, r)) :
    parseRequest p r (encodeArgs i) = some i := by
  cases i
  all_goals first | (cases h; done) | skip
  all_goals cases h
  case readFrame frame => cases frame <;> rfl
  all_goals refine congrArg some ?_
  case writeBlock | stageChannel | stageScale | servoExchange | setFrame | setGauge | setCrack | clearCrackLatch | setZone | release
      | setQueue | setChannel => simp only [be2_extract, be3_extract, be4_extract]
  all_goals rfl

theorem requestName?_of_parseRequest {i : Instr} {p : PortId} {r : ReqName} {args : List Byte}
    (h : parseRequest p r args = some i) : requestName? i = some (p, r) ∧ encodeArgs i = args := by
  cases r
  case readIdent | readEvents | reinit | start | pause | resume | advance | readGenerator | disarm | captureBaseline | readCrack
      | takeRecord | snapshot | resumeAutoSnapshot | readQueue =>
    obtain _ | ⟨_, _⟩ := args <;> cases h
    exact ⟨rfl, rfl⟩
  case clearEvents | setEventMask | readBlock | setStartBlock | stop | readChannel | armCommit | trip | reloadZone | readZone =>
    obtain _ | ⟨_, _ | ⟨_, _⟩⟩ := args <;> cases h
    exact ⟨rfl, rfl⟩
  case readFrame =>
    obtain _ | ⟨_, _ | ⟨_, _⟩⟩ := args <;> cases h
    · exact ⟨rfl, rfl⟩
    · exact ⟨rfl, rfl⟩
  case stageScale | readGauges | clearCrackLatch =>
    obtain _ | ⟨_, _ | ⟨_, _ | ⟨_, _⟩⟩⟩ := args <;> cases h
    exact ⟨rfl, by simp [encodeArgs]⟩
  case release =>
    iterate 3 (obtain _ | ⟨_, args⟩ := args; · cases h)
    obtain _ | ⟨_, _⟩ := args <;> cases h
    exact ⟨rfl, by simp [encodeArgs]⟩
  case setQueue =>
    iterate 4 (obtain _ | ⟨_, args⟩ := args; · cases h)
    obtain _ | ⟨_, _⟩ := args <;> cases h
    exact ⟨rfl, by simp [encodeArgs]⟩
  case stageChannel =>
    iterate 5 (obtain _ | ⟨_, args⟩ := args; · cases h)
    obtain _ | ⟨_, _⟩ := args <;> cases h
    exact ⟨rfl, by simp [encodeArgs]⟩
  case setZone =>
    iterate 6 (obtain _ | ⟨_, args⟩ := args; · cases h)
    obtain _ | ⟨_, _⟩ := args <;> cases h
    exact ⟨rfl, by simp [encodeArgs]⟩
  case servoExchange =>
    iterate 8 (obtain _ | ⟨_, args⟩ := args; · cases h)
    obtain _ | ⟨_, _⟩ := args <;> cases h
    exact ⟨rfl, by simp [encodeArgs]⟩
  case setFrame | setCrack =>
    iterate 9 (obtain _ | ⟨_, args⟩ := args; · cases h)
    obtain _ | ⟨_, _⟩ := args <;> cases h
    exact ⟨rfl, by simp [encodeArgs]⟩
  case writeBlock =>
    iterate 12 (obtain _ | ⟨_, args⟩ := args; · cases h)
    obtain _ | ⟨_, _⟩ := args <;> cases h
    exact ⟨rfl, by simp [encodeArgs]⟩
  case setGauge =>
    iterate 24 (obtain _ | ⟨_, args⟩ := args; · cases h)
    obtain _ | ⟨_, _⟩ := args <;> cases h
    exact ⟨rfl, by simp [encodeArgs]⟩
  case setChannel =>
    iterate 25 (obtain _ | ⟨_, args⟩ := args; · cases h)
    obtain _ | ⟨_, _⟩ := args <;> cases h
    exact ⟨rfl, by simp [encodeArgs]⟩

/-- Settles O17, by the row of the request: its fields and its bytes determine each other. -/
theorem argumentsReadBack : Obligations.ArgumentsReadBack :=
  fun _ _ _ _ => ⟨parseRequest_encodeArgs, requestName?_of_parseRequest⟩

/-! ### The request codes -/

theorem requestOf?_reqCode (r : ReqName) : requestOf? (reqCode r) = some r := by
  cases r <;> decide

theorem reqCode_of_requestOf? {code : Byte} {r : ReqName} (h : requestOf? code = some r) : reqCode r = code := by
  simpa using List.find?_some h

/-- A request's code with a length its row accepts names the request. -/
theorem accepted?_reqCode {r : ReqName} {n : Nat} (h : n ∈ reqLengths r) : accepted? (reqCode r) n = some r := by
  simp [accepted?, requestOf?_reqCode, h]

theorem reqCode_of_accepted? {code : Byte} {n : Nat} {r : ReqName} (h : accepted? code n = some r) : reqCode r = code := by
  obtain ⟨found, -⟩ := Option.filter_eq_some_iff.mp h
  exact reqCode_of_requestOf? found

end Sys2Proof.Machine


/-! What every command leaves alone of the waiting commands, the windows and the masks; from it and from `exec_eq_serve`, the statements
about requests, answers, select and bytes (chapter 1). -/
namespace Sys2Proof.Machine

/-! ### The outcome of a request -/

/-- A request is answered OK with an effect of its row, or changes nothing and is answered otherwise, DENIED exactly where its port has
no right to it (R5, R7). -/
theorem exec_request {i : Instr} {p : PortId} {r : ReqName} (h : requestName? i = some (p, r)) (s : State) :
    ∃ length u res body, exec i s = .next (u.answer p (reqCode r) length res body)
      ∧ ((res = .ok ∧ hasRight p r = true ∧ Effect p r s u)
        ∨ (u = s ∧ body = [] ∧ res ≠ .ok ∧ (res = .denied ↔ hasRight p r = false))) := by
  obtain ⟨n, act, served, lawful⟩ := exec_eq_serve h s
  rw [served]
  cases right : hasRight p r with
  | false => exact ⟨_, s, .denied, [], by simp [State.serve, right]; rfl, .inr ⟨rfl, rfl, by decide, by simp⟩⟩
  | true =>
    cases reply : act s with
    | ok x =>
      rw [reply] at lawful
      exact ⟨_, x.1, .ok, x.2, congrArg _ (State.serve_ok right reply), .inl ⟨rfl, rfl, lawful⟩⟩
    | error e =>
      rw [reply] at lawful
      exact ⟨_, s, e, [], congrArg _ (State.serve_refused right reply),
        .inr ⟨rfl, rfl, lawful.1, by simpa using lawful.2 right⟩⟩

theorem Result.code_inj {a b : Result} (h : a.code = b.code) : a = b := by
  revert h
  cases a <;> cases b <;> simp [Result.code]

/-- Settles O5: only a request answered OK has an effect. -/
theorem refusedRequestChangesNothing : Obligations.RefusedRequestChangesNothing := by
  intro c p r s t code rest name run answered notOk
  obtain ⟨length, u, res, body, served, ⟨rfl, -, -⟩ | ⟨rfl, rfl, -, -⟩⟩ := exec_request name s
  all_goals
    obtain rfl : u.answer p (reqCode r) length _ _ = t := by simpa using served.symm.trans run
    simp only [State.answer_answerOf, answerBytes, Option.some.injEq, List.cons_append, List.cons.injEq] at answered
    obtain ⟨rfl, rfl⟩ := answered
  · exact absurd rfl notOk
  · refine ⟨rfl, rfl, fun q => ⟨?_, ?_⟩, fun q other => ?_⟩
    · exact u.answer_latched ..
    · exact u.answer_mask ..
    · exact u.updPort_other p q _ other.symm

/-- The rows of the access table of R7: requests, and the groups of ports with the right to them. -/
theorem hasRight_eq_false_iff (p : PortId) (r : ReqName) :
    hasRight p r = false ↔
      ∀ row ∈
        [([ReqName.servoExchange, .trip], [PortGroup.frames]), ([.takeRecord], [.logger]), ([.snapshot], [.director, .logger]),
         ([.readIdent, .readEvents, .readGenerator, .readBlock, .readChannel, .readFrame, .readGauges, .readCrack, .readZone,
           .readQueue, .clearEvents, .setEventMask], [.frames, .director, .logger]),
         ([.writeBlock, .setStartBlock, .start, .pause, .resume, .stop, .advance, .setChannel, .stageChannel, .stageScale,
           .armCommit, .disarm, .setFrame, .setGauge, .captureBaseline, .setCrack, .clearCrackLatch, .setZone, .release,
           .reloadZone, .setQueue, .resumeAutoSnapshot, .reinit], [.director])],
        r ∈ row.1 → portGroup p ∉ row.2 := by
  unfold hasRight
  generalize portGroup p = g
  cases g <;> cases r <;> decide

/-- Settles O6: DENIED is the answer exactly where `hasRight` fails, which the access table spells out. -/
theorem rightsDecideDenied : Obligations.RightsDecideDenied := by
  intro c p r s t name run
  rw [← hasRight_eq_false_iff]
  obtain ⟨length, u, res, body, served, outcome⟩ := exec_request name s
  obtain rfl : u.answer p (reqCode r) length res body = t := by simpa using served.symm.trans run
  have code : ((u.answer p (reqCode r) length res body).answerOf p).bind List.head? = some res.code := by
    simp [answerBytes]
  have denied : res.code = 0x01#8 ↔ res = .denied := ⟨Result.code_inj (b := .denied), by rintro rfl; rfl⟩
  rw [code, Option.some_inj, denied]
  obtain ⟨rfl, right, -⟩ | ⟨-, -, -, iff⟩ := outcome
  · simp [right]
  · exact iff

end Sys2Proof.Machine


/-! Every operation of the part composed of the writes it makes, once. A relation between states that composes, and holds over the
writes an operation makes, holds over the operation; the writes are grouped by the block that makes them, so that an operation asks
only for its own. What stays, what grows and what is kept are instances. -/
namespace Sys2Proof.Machine

/-- A relation between states that composes. -/
structure Chains (R : State → State → Prop) : Prop where
  refl : ∀ s, R s s
  trans : ∀ {s t u}, R s t → R t u → R s u

theorem Chains.foldl {R : State → State → Prop} (h : Chains R) {α : Type} {f : State → α → State} (step : ∀ s a, R s (f s a))
    (l : List α) (s : State) : R s (l.foldl f s) := by
  induction l generalizing s with
  | nil => exact h.refl s
  | cons a l ih => exact h.trans (step s a) (ih (f s a))

/-! ### The generator -/

/-- The writes of the load generator: its own record, with records and events made. -/
structure Steers (R : State → State → Prop) : Prop extends Chains R where
  setGen : ∀ s x, R s (s.setGen x)
  addEvent : ∀ s e, R s (s.addEvent e)
  record : ∀ s b, R s (s.record b)

namespace Steers
variable {R : State → State → Prop} (h : Steers R)
include h

theorem programRecord (s : State) (i : Fin 64) (r : Reason) : R s (s.programRecord i r) :=
  h.trans (h.trans (h.setGen _ _) (h.record _ _)) (h.addEvent _ _)

theorem moveGenerator (s : State) (x : GenState) (r : Reason) : R s (s.moveGenerator x r) :=
  h.trans (h.setGen _ _) (h.programRecord _ _ _)

theorem syncPause (s : State) : R s s.syncPause := by
  unfold State.syncPause
  split
  · split
    · exact h.moveGenerator _ _ _
    · exact h.refl _
  · split
    · exact h.refl _
    · exact h.moveGenerator _ _ _
  · exact h.refl _
  · exact h.refl _

theorem transition (s : State) (n : Nat) (a b : Bool) : R s (s.transition n a b) := by
  unfold State.transition
  split
  · exact h.trans (h.setGen _ _) (h.programRecord _ _ _)
  · exact h.trans (h.setGen _ _) (h.programRecord _ _ _)

theorem stopGenerator (s : State) : R s s.stopGenerator :=
  h.trans (h.setGen _ _) (h.programRecord _ _ _)

theorem boundarySteps (s : State) (i : Fin 64) : R s (s.boundarySteps i) := by
  unfold State.boundarySteps
  dsimp only
  split
  · split
    · exact h.trans (h.setGen _ _) (h.stopGenerator _)
    · exact h.trans (h.setGen _ _) (h.transition _ _ _ _)
  · exact h.setGen _ _

theorem advanceBlock (s : State) : R s s.advanceBlock := by
  unfold State.advanceBlock
  split
  · extract_lets mean s'
    split
    · exact h.trans (h.setGen _ _) (h.transition _ _ _ _)
    · exact h.setGen _ _
  · dsimp only
    split
    · exact h.trans (h.setGen _ _) (h.transition _ _ _ _)
    · exact h.setGen _ _
  · split
    · exact h.boundarySteps _ _
    · exact h.setGen _ _
  · exact h.refl _

theorem advance (s : State) : R s s.advance := by
  unfold State.advance
  split
  · exact h.advanceBlock _
  all_goals exact h.refl _

theorem afterPause (s : State) : R s s.afterPause := by
  have flagged : R s (if s.gen.executing then s.setGen { s.gen with requestedPause := true } else s) := by
    split
    · exact h.setGen _ _
    · exact h.refl _
  unfold State.afterPause
  extract_lets t
  split
  · exact h.trans flagged (h.moveGenerator _ _ _)
  · exact flagged

theorem afterResume (s : State) : R s s.afterResume := by
  unfold State.afterResume
  dsimp only
  split
  · exact h.trans (h.setGen _ _) (h.moveGenerator _ _ _)
  · exact h.setGen _ _

theorem afterStop (s : State) (m : StopMode) : R s (s.afterStop m) := by
  unfold State.afterStop
  split
  · split
    · exact h.setGen _ _
    · exact h.stopGenerator _
  · exact h.refl _

theorem afterAdvance (s : State) : R s s.afterAdvance := by
  unfold State.afterAdvance
  split
  · exact h.setGen _ _
  · exact h.refl _

theorem startProgram (s : State) : R s s.startProgram := h.trans (h.setGen _ _) (h.transition _ _ _ _)

end Steers

/-- The writes of the generator's part of an update: those of the generator, and those of a commit. -/
structure Generates (R : State → State → Prop) : Prop extends Steers R where
  setActiveSet : ∀ s x, R s (s.setActiveSet x)
  setCommit : ∀ s x, R s (s.setCommit x)

namespace Generates
variable {R : State → State → Prop} (h : Generates R)
include h

theorem applyCommit (s : State) (x : CommitOutcome) : R s (s.applyCommit x) :=
  h.trans (h.trans (h.trans (h.setActiveSet _ _) (h.setCommit _ _)) (h.record _ _)) (h.addEvent _ _)

theorem commitNow (s : State) : R s s.commitNow := by
  unfold State.commitNow
  split
  · exact h.applyCommit _ _
  · exact h.refl _

theorem commitAtBoundary (s : State) : R s s.commitAtBoundary := by
  unfold State.commitAtBoundary
  split
  · exact h.applyCommit _ _
  · exact h.refl _

theorem updateGenerator (s : State) : R s s.updateGenerator := by
  unfold State.updateGenerator
  dsimp only
  split
  · exact h.trans (h.trans (h.commitNow _) (h.advance _)) (h.commitAtBoundary _)
  · exact h.trans (h.commitNow _) (h.advance _)

theorem afterDisarm (s : State) : R s s.afterDisarm :=
  h.trans (h.trans (h.setCommit _ _) (h.record _ _)) (h.addEvent _ _)

end Generates

/-! ### Zones and alarm lists -/

theorem Qualifier.run_sampled (q : Qualifier) (level : Level) : (q.sampled level).run ≤ max 15 q.run := by
  unfold Qualifier.sampled
  split
  · dsimp only
    split <;> omega
  · dsimp only
    omega

/-- The writes of the alarm lists: entries put in, taken out and changed, and a change of a zone's state, the generator's pause left to
the end of a boundary or not. -/
structure Lists (d : Bool) (R : State → State → Prop) : Prop extends Chains R where
  addEvent : ∀ s e, R s (s.addEvent e)
  record : ∀ s b, R s (s.record b)
  setTagCounter : ∀ s x, R s (s.setTagCounter x)
  relist : ∀ s z {f : Zone → Zone}, (∀ x, f x = { x with entries := (f x).entries }) → R s (s.updZone z f)
  changeZone : ∀ s z st, R s (s.changeZone z st d)

namespace Lists

section
variable {d : Bool} {R : State → State → Prop} (h : Lists d R)
include h

theorem removeEntry (s : State) (z : Fin 4) (e : Entry) (m : Method) : R s (s.removeEntry z e m d) :=
  h.trans (h.trans (h.relist _ _ (by intro; rfl)) (h.record _ _)) (h.changeZone _ _ _)

theorem appendEntry (s : State) (z : Fin 4) (e : Entry) : R s (s.appendEntry z e) :=
  h.trans (h.relist _ _ (by intro; rfl)) (h.setTagCounter _ _)

theorem takeRaise (s : State) (z : Fin 4) (r : Raise) : R s (s.takeRaise z r).1 := by
  unfold State.takeRaise
  split
  · dsimp only
    exact h.relist _ _ (by intro; rfl)
  · split
    · exact h.appendEntry _ _ _
    · split
      · dsimp only
        exact h.relist _ _ (by intro; rfl)
      · exact h.appendEntry _ _ _

theorem raiseIn (s : State) (z : Fin 4) (r : Raise) : R s (s.raiseIn z r d) := by
  have changed := h.trans (h.trans (h.trans (h.takeRaise s z r) (h.record _ (.alarmRaised z (s.takeRaise z r).2.1.tag r.source
    (s.takeRaise z r).2.1.action (s.takeRaise z r).2.1.repeats
    ((s.takeRaise z r).1.zones[z].state.escalate (s.takeRaise z r).2.1.action.severity)))) (h.addEvent _ .alarm))
    (h.changeZone _ z ((s.takeRaise z r).1.zones[z].state.escalate (s.takeRaise z r).2.1.action.severity))
  unfold State.raiseIn
  dsimp only
  split
  · exact h.trans changed (h.removeEntry _ _ _ _)
  · exact changed

theorem raise (s : State) (r : Raise) (own : List (Fin 4)) : R s (s.raise r own d) :=
  h.foldl (fun _ _ => h.raiseIn _ _ _) _ _

end

section
variable {R : State → State → Prop} (h : Lists false R)
include h

theorem clearIn (s : State) (z : Fin 4) (x : Source) : R s (s.clearIn z x) :=
  h.trans (h.relist _ _ (by intro; rfl)) (h.foldl (fun _ _ => h.removeEntry _ _ _ _) _ _)

theorem clear (s : State) (x : Source) : R s (s.clear x) := h.foldl (fun _ _ => h.clearIn _ _ _) _ _

theorem boundaryRemovals (s : State) : R s s.boundaryRemovals :=
  h.foldl (fun _ _ => h.foldl (fun _ _ => h.removeEntry _ _ _ _) _ _) _ _

theorem arriveIn (s : State) (d : Int) (z : Fin 4) : R s (s.arriveIn d z) := by
  unfold State.arriveIn
  split
  · exact h.changeZone _ _ _
  · split
    · exact h.changeZone _ _ _
    · exact h.refl _

theorem arrive (s : State) (d : Int) : R s (s.arrive d) := h.foldl (fun _ _ => h.arriveIn _ _ _) _ _

theorem clearTimerTick (s : State) (z : Fin 4) (tag : Half) : R s (s.clearTimerTick z tag) := by
  unfold State.clearTimerTick
  split
  · exact h.refl _
  · split
    · exact h.removeEntry _ _ _ _
    · split
      · exact h.relist _ _ (by intro; rfl)
      · exact h.refl _

section
variable (setStopLine : ∀ (s : State) (x : StopLine), x.qualifier.run ≤ max 15 s.stopLine.qualifier.run → R s (s.setStopLine x))
  (setStopHold : ∀ s x, R s (s.setStopHold x))
include setStopHold

theorem clearStop (s : State) : R s s.clearStop := by
  refine h.trans (h.trans (h.clear s .stop) (setStopHold _ false)) (h.foldl (fun s z => ?_) _ _)
  split
  · exact h.changeZone _ _ _
  · exact h.refl _

include setStopLine

theorem sampleStop (s : State) (level : Level) : R s (s.sampleStop level) := by
  unfold State.sampleStop
  dsimp only
  split
  · cases level
    · exact h.trans (h.trans (setStopLine _ _ (Qualifier.run_sampled _ _)) (setStopHold _ true)) (h.raise _ _ _)
    · dsimp only
      split
      · exact h.trans (setStopLine _ _ (Qualifier.run_sampled _ _)) (h.clearStop setStopHold _)
      · exact setStopLine _ _ (Qualifier.run_sampled _ _)
  · exact setStopLine _ _ (Qualifier.run_sampled _ _)

end

end

end Lists

/-- The writes of zone protection, which pauses the generator. -/
structure Protects (R : State → State → Prop) : Prop extends Steers R where
  setOutputs : ∀ s x, R s (s.setOutputs x)
  setZones : ∀ s x, R s (s.setZones x)
  setTagCounter : ∀ s x, R s (s.setTagCounter x)

namespace Protects
variable {R : State → State → Prop} (h : Protects R)
include h

theorem updZone (s : State) (z : Fin 4) (f : Zone → Zone) : R s (s.updZone z f) := h.setZones _ _

theorem enterZone (s : State) (z : Fin 4) (st : ZoneState) : R s (s.enterZone z st) := by
  cases st
  case held | dumped => exact h.trans (h.setZones _ _) (h.setOutputs _ _)
  case normal | unloading | unloaded | reloading => exact h.setZones _ _

theorem changeZone (s : State) (z : Fin 4) (st : ZoneState) (d : Bool) : R s (s.changeZone z st d) := by
  have entered := h.trans (h.trans (h.enterZone s z st) (h.record _ (.zoneChange z s.zones[z].state st)))
    (h.addEvent _ .zoneChange)
  unfold State.changeZone
  split
  · exact h.refl _
  · dsimp only
    split
    · exact entered
    · exact h.trans entered (h.syncPause _)

theorem lists (d : Bool) : Lists d R where
  toChains := h.toChains
  addEvent := h.addEvent
  record := h.record
  setTagCounter := h.setTagCounter
  relist _ _ _ _ := h.setZones _ _
  changeZone s z st := h.changeZone s z st d

theorem replaceZone (s : State) (z : Fin 4) (i : Bool) (u r : Half) : R s (s.replaceZone z i u r) := by
  unfold State.replaceZone
  dsimp only
  split
  · exact h.updZone _ _ _
  · exact h.trans (h.updZone _ _ _) (h.syncPause _)

end Protects

/-! ### Handing over raises and clears -/

/-- A raise that a channel, a frame, a gauge or a crack input hands over has the method and the seconds of its configuration. -/
inductive State.Asks (s : State) : Raise → Prop
  | channel (c : Fin 8) {x : Source} (a : Action) (active : Bool) (other : x ≠ .stop) :
      s.Asks { source := x, action := a, method := s.channels[c].method, seconds := s.channels[c].seconds, active := active }
  | frame (f : Fin 4) {x : Source} (a : Action) (active : Bool) (other : x ≠ .stop) :
      s.Asks { source := x, action := a, method := s.frames[f].method, seconds := s.frames[f].seconds, active := active }
  | gauge (g : Fin 64) {x : Source} (a : Action) (active : Bool) (other : x ≠ .stop) :
      s.Asks { source := x, action := a, method := s.gauges[g].config.method, seconds := s.gauges[g].config.seconds,
               active := active }
  | crack (i : Fin 16) {x : Source} (a : Action) (active : Bool) (other : x ≠ .stop) :
      s.Asks { source := x, action := a, method := s.cracks[i].config.method, seconds := s.cracks[i].config.seconds,
               active := active }

/-- A relation that holds over a raise and a clear handed over by a source other than STOP. -/
structure Hands (R : State → State → Prop) : Prop extends Chains R where
  raise : ∀ {s r} own, s.Asks r → R s (s.raise r own)
  clear : ∀ s {x}, x ≠ .stop → R s (s.clear x)

theorem Protects.hands {R : State → State → Prop} (h : Protects R) : Hands R where
  toChains := h.toChains
  raise own _ := (h.lists false).raise _ _ own
  clear s x _ := (h.lists false).clear s x

/-! ### The crack watch -/

/-- What the sampling of a crack input may leave of its record: the configuration, and a run of samples of 15 or fewer (R116). -/
structure Crack.Turns (x y : Crack) : Prop where
  config : y.config = x.config
  run : y.qualifier.run ≤ max 15 x.qualifier.run

theorem Crack.Turns.still {x y : Crack} (config : y.config = x.config := by rfl) (qualifier : y.qualifier = x.qualifier := by rfl) :
    x.Turns y :=
  ⟨config, qualifier ▸ Nat.le_max_right _ _⟩

/-- The writes of the crack inputs. -/
structure Watches (R : State → State → Prop) : Prop extends Hands R where
  updCrack : ∀ s i {f : Crack → Crack}, s.cracks[i].Turns (f s.cracks[i]) → R s (s.updCrack i f)

namespace Watches
variable {R : State → State → Prop} (h : Watches R)
include h

theorem raiseCrack (s : State) (i : Fin 16) (a : Bool) : R s (s.raiseCrack i a) := by
  unfold State.raiseCrack
  dsimp only
  split
  · exact h.raise _ (.crack i _ _ (by nofun))
  · exact h.refl _

theorem qualified (s : State) (i : Fin 16) (before : Option Level) (level : Level) : R s (s.qualified i before level) := by
  unfold State.qualified
  dsimp only
  split
  · split
    · exact h.trans (h.updCrack _ _ .still) (h.raiseCrack _ _ _)
    · split
      · exact h.trans (h.updCrack _ _ .still) (h.clear _ (by nofun))
      · exact h.refl _
  · split
    · exact h.trans (h.updCrack _ _ .still) (h.raiseCrack _ _ _)
    · exact h.refl _

theorem sampleCrack (s : State) (i : Fin 16) (level : Level) : R s (s.sampleCrack i level) := by
  unfold State.sampleCrack
  dsimp only
  split
  · exact h.trans (h.updCrack _ _ ⟨rfl, Qualifier.run_sampled _ _⟩) (h.qualified _ _ _ _)
  · exact h.updCrack _ _ ⟨rfl, Qualifier.run_sampled _ _⟩

/-- SET_CRACK, given that the relation holds over the input's new record. -/
theorem replaceCrack {s : State} {i : Fin 16} {x : CrackConfig}
    (stored : ∀ c : Crack, c.config = x → c.qualifier.run ≤ s.cracks[i].qualifier.run → R s (s.setCracks (s.cracks.set i c))) :
    R s (s.replaceCrack i x) := by
  unfold State.replaceCrack
  dsimp only
  split
  · exact stored _ rfl Nat.le.refl
  · split
    · exact h.trans (stored _ rfl (Nat.zero_le _)) (h.clear _ (by nofun))
    · exact stored _ rfl (Nat.zero_le _)

end Watches

/-! ### The frame supervisor -/

/-- The frame record that SET_FRAME leaves before its clears (R86). -/
def FrameFields.stored (x : FrameFields) (r : FrameRec) : FrameRec :=
  { r with
    period := x.period, lateAction := x.lateAction, lostAction := x.lostAction, tripAction := x.tripAction
    method := x.method, seconds := x.seconds
    dog := if x.period = 0#16 then .unwatched else .alive
    remaining := x.period }

/-- What an exchange, a trip and a count may leave of a frame record: its period and seconds, and time on a watchdog that counts
(R87, R88). -/
structure FrameRec.Turns (x y : FrameRec) : Prop where
  seconds : y.seconds = x.seconds
  period : y.period = x.period
  unwatched : y.dog = .unwatched ↔ x.dog = .unwatched
  remaining : y.dog = .alive ∨ y.dog = .late → y.remaining = x.period ∨ 1 ≤ y.remaining.toNat
    ∨ (x.dog = .alive ∨ x.dog = .late) ∧ y.remaining = x.remaining

theorem FrameRec.Turns.still {x y : FrameRec} (seconds : y.seconds = x.seconds := by rfl) (period : y.period = x.period := by rfl)
    (dog : y.dog = x.dog := by rfl) (remaining : y.remaining = x.remaining := by rfl) : x.Turns y :=
  ⟨seconds, period, by rw [dog], fun counting => .inr (.inr ⟨dog ▸ counting, remaining⟩)⟩

/-- The writes of the frame watchdogs and the trips. -/
structure Supervises (R : State → State → Prop) : Prop extends Hands R where
  updFrame : ∀ s i {f : FrameRec → FrameRec}, s.frames[i].Turns (f s.frames[i]) → R s (s.updFrame i f)
  addEventAt : ∀ s p e, R s (s.addEventAt p e)

namespace Supervises
variable {R : State → State → Prop} (h : Supervises R)
include h

theorem clearLate (s : State) (f : Fin 4) : R s (s.clearLate f) := by
  unfold State.clearLate
  split
  · exact h.trans (h.updFrame _ _ .still) (h.clear _ (by nofun))
  · exact h.refl _

theorem clearLost (s : State) (f : Fin 4) : R s (s.clearLost f) := by
  unfold State.clearLost
  split
  · exact h.trans (h.updFrame _ _ .still) (h.clear _ (by nofun))
  · exact h.refl _

theorem exchangeDog (s : State) (f : Fin 4) : R s (s.exchangeDog f) := by
  unfold State.exchangeDog
  split
  · exact h.refl _
  all_goals
    next watched =>
      refine h.trans (h.trans (h.updFrame _ _ ?_) (h.clearLate _ _)) (h.clearLost _ _)
      exact ⟨rfl, rfl, iff_of_false (by simp) (by simp only [watched]; simp), fun _ => .inl rfl⟩

theorem tripFrame (s : State) (f : Fin 4) (reason : Byte) : R s (s.tripFrame f reason) := by
  unfold State.tripFrame
  split
  · split
    · exact h.trans (h.updFrame _ _ .still) (h.clear _ (by nofun))
    · exact h.refl _
  · exact h.trans (h.updFrame _ _ .still) (h.raise _ (.frame f _ _ (by nofun)))

/-- SET_FRAME, given that the relation holds over the frame's new record. -/
theorem replaceFrame {s : State} {f : Fin 4} {x : FrameFields} (stored : R s (s.updFrame f x.stored)) : R s (s.replaceFrame f x) :=
  h.trans (h.trans stored (h.clearLate _ _)) (h.clearLost _ _)

theorem expireDog (s : State) (f : Fin 4) : R s (s.expireDog f) := by
  unfold State.expireDog
  split
  · next alive =>
    refine h.trans (h.trans (h.updFrame _ _ ?_) (h.addEventAt _ _ _)) (h.raise _ (.frame f _ _ (by nofun)))
    exact ⟨rfl, rfl, iff_of_false (by simp) (by simp only [alive]; simp), fun _ => .inl rfl⟩
  · next late =>
    refine h.trans (h.updFrame _ _ ?_) (h.raise _ (.frame f _ _ (by nofun)))
    exact ⟨rfl, rfl, iff_of_false (by simp) (by simp only [late]; simp), by simp⟩
  all_goals exact h.refl _

theorem watchdogTick (s : State) (f : Fin 4) : R s (s.watchdogTick f) := by
  unfold State.watchdogTick
  split
  · exact h.expireDog _ _
  · next left =>
    split
    · next counting =>
      refine h.updFrame _ _ ⟨rfl, rfl, .rfl, fun _ => .inr (.inl ?_)⟩
      simp only [FrameRec.due, counting, Bool.true_and, decide_eq_true_eq] at left
      rw [BitVec.toNat_sub_of_le (by simp only [BitVec.le_def, BitVec.toNat_ofNat]; omega)]
      simp only [BitVec.toNat_ofNat]
      omega
    · exact h.refl _

end Supervises

/-- The writes of the frame supervisor: a channel's miss count falls, or stays below K (R78). -/
structure Exchanges (R : State → State → Prop) : Prop extends Supervises R where
  updSupervision : ∀ s c {f : Supervision → Supervision},
    (f s.supervision[c]).misses ≤ s.supervision[c].misses ∨ (f s.supervision[c]).misses < s.channels[c].k →
      R s (s.updSupervision c f)

namespace Exchanges
variable {R : State → State → Prop} (h : Exchanges R)
include h

theorem trackingCheck (s : State) (c : Fin 8) (x y : Half) : R s (s.trackingCheck c x y) := by
  unfold State.trackingCheck
  dsimp only
  split
  · split
    · exact h.refl _
    · exact h.trans (h.updSupervision _ _ (.inl Nat.le.refl)) (h.clear _ (by nofun))
  · split
    · split
      · next below => exact h.updSupervision _ _ (.inr below)
      · exact h.trans (h.updSupervision _ _ (.inl (Nat.zero_le _))) (h.raise _ (.channel c _ _ (by nofun)))
    · exact h.updSupervision _ _ (.inl (Nat.zero_le _))

theorem trackingDrop (s : State) (c : Fin 8) : R s (s.trackingDrop c) := by
  unfold State.trackingDrop
  split
  · exact h.trans (h.updSupervision _ _ (.inl (Nat.zero_le _))) (h.clear _ (by nofun))
  · exact h.updSupervision _ _ (.inl (Nat.zero_le _))

theorem overforceCheck (s : State) (c : Fin 8) (x : Half) (full : Bool) : R s (s.overforceCheck c x full) := by
  unfold State.overforceCheck
  dsimp only
  split
  · split
    · exact h.refl _
    · exact h.trans (h.updSupervision _ _ (.inl Nat.le.refl)) (h.clear _ (by nofun))
  · split
    · exact h.trans (h.updSupervision _ _ (.inl Nat.le.refl)) (h.raise _ (.channel c _ _ (by nofun)))
    · exact h.refl _

theorem strokeCheck (s : State) (c : Fin 8) (x : Half) (full : Bool) : R s (s.strokeCheck c x full) := by
  unfold State.strokeCheck
  dsimp only
  split
  · split
    · exact h.refl _
    · exact h.trans (h.updSupervision _ _ (.inl Nat.le.refl)) (h.clear _ (by nofun))
  · split
    · exact h.trans (h.updSupervision _ _ (.inl Nat.le.refl)) (h.raise _ (.channel c _ _ (by nofun)))
    · exact h.refl _

theorem checkChannel (s : State) (c : Fin 8) (x y : Half) : R s (s.checkChannel c x y) := by
  unfold State.checkChannel
  split
  · exact h.trans (h.trans (h.trackingCheck _ _ _ _) (h.overforceCheck _ _ _ _)) (h.strokeCheck _ _ _ _)
  · exact h.trans (h.trans (h.trackingDrop _ _) (h.overforceCheck _ _ _ _)) (h.strokeCheck _ _ _ _)

theorem storeMeasured (s : State) (c : Fin 8) (x y : Half) : R s (s.storeMeasured c x y) :=
  h.updSupervision s c (.inl Nat.le.refl)

theorem handOut (s : State) (c : Fin 8) : R s (s.handOut c) := h.updSupervision s c (.inl Nat.le.refl)

theorem exchangeChecks (s : State) (f : Fin 4) (a b c d : Half) : R s (s.exchangeChecks f a b c d) :=
  h.trans (h.trans (h.trans (h.checkChannel _ _ _ _) (h.checkChannel _ _ _ _)) (h.storeMeasured _ _ _ _)) (h.storeMeasured _ _ _ _)

theorem exchanged (s : State) (f : Fin 4) (a b c d : Half) : R s (s.exchanged f a b c d) :=
  h.trans (h.trans (h.trans (h.exchangeChecks s f a b c d) (h.handOut _ _)) (h.handOut _ _)) (h.exchangeDog _ _)

end Exchanges

/-! ### The strain unit -/

/-- What the strain unit may leave of a gauge's running fields: counts that fall or stay below n and M, and a stale timer that falls or
restarts, with time left while it runs (R103, R105, R110). -/
structure Gauge.Turns (x : Gauge) (r : GaugeRun) : Prop where
  outCount : r.outCount ≤ x.run.outCount ∨ r.outCount < x.config.n
  inCount : r.inCount ≤ x.run.inCount ∨ r.inCount < x.config.n
  driftCount : r.driftCount ≤ x.run.driftCount ∨ r.driftCount < x.config.m
  stale : r.stale = .off ↔ x.run.stale = .off
  staleLeft : r.staleLeft.toNat ≤ x.run.staleLeft.toNat ∨ r.staleLeft = x.config.staleTime
  running : r.stale = .running → r.staleLeft = x.config.staleTime ∨ 1 ≤ r.staleLeft.toNat
    ∨ x.run.stale = .running ∧ r.staleLeft = x.run.staleLeft

/-- The counts fall or stay below n and M, and the stale timer is as it was. -/
theorem Gauge.Turns.counted {x : Gauge} {r : GaugeRun}
    (outCount : r.outCount ≤ x.run.outCount ∨ r.outCount < x.config.n := by exact .inl Nat.le.refl)
    (inCount : r.inCount ≤ x.run.inCount ∨ r.inCount < x.config.n := by exact .inl Nat.le.refl)
    (driftCount : r.driftCount ≤ x.run.driftCount ∨ r.driftCount < x.config.m := by exact .inl Nat.le.refl)
    (stale : r.stale = x.run.stale := by rfl) (staleLeft : r.staleLeft = x.run.staleLeft := by rfl) : x.Turns r :=
  ⟨outCount, inCount, driftCount, by rw [stale], .inl (Nat.le_of_eq (by rw [staleLeft])), fun running => .inr (.inr ⟨stale ▸ running, staleLeft⟩)⟩

theorem Gauge.Turns.sampled (x : Gauge) (raw : Raw24) : x.Turns (x.run.sampled x.config raw) := by
  by_cases off : x.run.stale = .off
  · refine .counted ?_ ?_ ?_ ?_ ?_ <;> simp [GaugeRun.sampled, off]
  · refine ⟨.inl Nat.le.refl, .inl Nat.le.refl, .inl Nat.le.refl, ?_, .inr ?_, fun _ => .inl ?_⟩ <;> simp [GaugeRun.sampled, off]

theorem Gauge.Turns.transferred (x : Gauge) : x.Turns x.run.transferred := by
  unfold GaugeRun.transferred
  dsimp only
  split
  · exact .counted (driftCount := .inl (Nat.zero_le _))
  all_goals exact .counted

/-- The writes of the strain unit. -/
structure Strains (R : State → State → Prop) : Prop extends Hands R where
  updGauge : ∀ s g {f : GaugeRun → GaugeRun}, s.gauges[g].Turns (f s.gauges[g].run) → R s (s.updGauge g f)

theorem State.clearFault_config (s : State) (g : Fin 64) : (s.clearFault g).gauges[g].config = s.gauges[g].config := by
  unfold State.clearFault
  split
  · simp [State.updGauge]
  · rfl

namespace Strains
variable {R : State → State → Prop} (h : Strains R)
include h

theorem enterFault (s : State) (g : Fin 64) (cause : FaultCause) : R s (s.enterFault g cause) :=
  h.trans (h.updGauge _ _ .counted) (h.raise _ (.gauge g _ _ (by nofun)))

theorem clearFault (s : State) (g : Fin 64) : R s (s.clearFault g) := by
  unfold State.clearFault
  split
  · exact h.trans (h.updGauge _ _ .counted) (h.clear _ (by nofun))
  · exact h.refl _

theorem faultFrame (s : State) (g : Fin 64) (cause : FaultCause) : R s (s.faultFrame g cause) := by
  unfold State.faultFrame
  split
  · exact h.updGauge _ _ .counted
  · exact h.enterFault _ _ _

theorem windowCheck (s : State) (g : Fin 64) (x : Half) : R s (s.windowCheck g x) := by
  unfold State.windowCheck
  dsimp only
  split
  · split
    · exact h.updGauge _ _ (.counted (inCount := .inl (Nat.zero_le _)))
    · split
      · next below => exact h.updGauge _ _ (.counted (inCount := .inr below))
      · exact h.trans (h.updGauge _ _ (.counted (inCount := .inl (Nat.zero_le _)))) (h.clear _ (by nofun))
  · split
    · split
      · next below => exact h.updGauge _ _ (.counted (outCount := .inr below))
      · exact h.trans (h.updGauge _ _ (.counted (outCount := .inl (Nat.zero_le _)) (inCount := .inl (Nat.zero_le _))))
          (h.raise _ (.gauge g _ _ (by nofun)))
    · exact h.updGauge _ _ (.counted (outCount := .inl (Nat.zero_le _)))

theorem okFrame (s : State) (g : Fin 64) (raw : Raw24) : R s (s.okFrame g raw) := by
  have sampled : (s.clearFault g).gauges[g].Turns ((s.clearFault g).gauges[g].run.sampled s.gauges[g].config raw) := by
    rw [← State.clearFault_config]
    exact .sampled _ _
  unfold State.okFrame
  exact h.trans (h.trans (h.trans (h.clearFault _ _) (h.updGauge _ _ sampled)) (h.windowCheck _ _ _)) (h.updGauge _ _ .counted)

theorem takeFrame (s : State) (link : Fin 2) (bits : BitVec 40) : R s (s.takeFrame link bits) := by
  unfold State.takeFrame
  split
  · exact h.refl _
  · split
    · exact h.refl _
    · split
      · exact h.refl _
      · split
        · exact h.okFrame _ _ _
        · exact h.faultFrame _ _ _
        · exact h.faultFrame _ _ _
        · exact h.refl _

theorem expireStale {s : State} {g : Fin 64} (running : s.gauges[g].run.stale = .running) : R s (s.expireStale g) := by
  have expired : R s (s.updGauge g fun r => { r with stale := .expired, staleLeft := 0#16 }) :=
    h.updGauge _ _ ⟨.inl Nat.le.refl, .inl Nat.le.refl, .inl Nat.le.refl, iff_of_false (by simp) (by simp only [running]; simp), .inl (Nat.zero_le _), by simp⟩
  unfold State.expireStale
  dsimp only
  split
  · exact expired
  · exact h.trans expired (h.enterFault _ _ _)

theorem staleTick (s : State) (g : Fin 64) : R s (s.staleTick g) := by
  unfold State.staleTick
  split
  · next due => exact h.expireStale (by simp_all [Gauge.staleDue, Gauge.staleCounting])
  · next left =>
    split
    · next counting =>
      have time : 2 ≤ s.gauges[g].run.staleLeft.toNat := by
        simp only [Gauge.staleDue, counting, Bool.true_and, decide_eq_true_eq] at left
        omega
      have less : (s.gauges[g].run.staleLeft - 1#16).toNat = s.gauges[g].run.staleLeft.toNat - 1 :=
        BitVec.toNat_sub_of_le (by simp only [BitVec.le_def, BitVec.toNat_ofNat]; omega)
      exact h.updGauge _ _ ⟨.inl Nat.le.refl, .inl Nat.le.refl, .inl Nat.le.refl, .rfl, .inl (by dsimp only; omega),
        fun _ => .inr (.inl (by dsimp only; omega))⟩
    · exact h.refl _

/-- SET_GAUGE, given that the relation holds over the gauge's new record. -/
theorem replaceGauge {s : State} {g : Fin 64} {x : GaugeConfig}
    (stored : R s (s.setGauges (s.gauges.set g { config := x, run := GaugeRun.started x }))) : R s (s.replaceGauge g x) := by
  have cleared (b : Bool) {y : Source} (other : y ≠ .stop) (t : State) : R t (if b then t.clear y else t) := by
    split
    · exact h.clear _ other
    · exact h.refl _
  exact h.trans (h.trans stored (cleared _ (by nofun) _)) (cleared _ (by nofun) _)

section
variable (deferred : ∀ {s r} own, s.Asks r → R s (s.raise r own true))
include deferred

theorem driftCheck (s : State) (g : Fin 64) : R s (s.driftCheck g) := by
  unfold State.driftCheck
  split
  · exact h.refl _
  · split
    · exact h.updGauge _ _ (.counted (driftCount := .inl (Nat.zero_le _)))
    · split
      · next below => exact h.updGauge _ _ (.counted (driftCount := .inr below))
      · exact h.trans (h.updGauge _ _ (.counted (driftCount := .inl (Nat.zero_le _)))) (deferred _ (.gauge g _ _ (by nofun)))

theorem closeCycle (s : State) (g : Fin 64) : R s (s.closeCycle g) := by
  unfold State.closeCycle
  split
  · exact h.trans (h.updGauge _ _ (.transferred _)) (h.driftCheck deferred _ _)
  · exact h.refl _

theorem closeCycles (s : State) : R s s.closeCycles := h.foldl (fun _ _ => h.closeCycle deferred _ _) _ _

end

end Strains

/-! ### Updates -/

/-- What an update is composed of. -/
structure Updates (R : State → State → Prop) : Prop extends Chains R where
  updateGenerator : ∀ s, R s s.updateGenerator
  syncPause : ∀ s, R s s.syncPause
  lists : ∀ d, Lists d R
  computeSetpoints : ∀ s d, R s (s.computeSetpoints d)
  updGauge : ∀ s g {f : GaugeRun → GaugeRun}, s.gauges[g].Turns (f s.gauges[g].run) → R s (s.updGauge g f)
  setAuto : ∀ (s : State) (n : Half) (b : Bool), (s.queue.autoCount.toNat < max 1 s.queue.interval.toNat →
    n.toNat < max 1 s.queue.interval.toNat) → R s (s.setQueue { s.queue with autoCount := n, suspended := b })

namespace Updates
variable {R : State → State → Prop} (h : Updates R)
include h

theorem strains : Strains R where
  toChains := h.toChains
  raise own _ := (h.lists false).raise _ _ own
  clear s x _ := (h.lists false).clear s x
  updGauge := h.updGauge

theorem autoSnapshot (s : State) : R s s.autoSnapshot := by
  unfold State.autoSnapshot
  split
  · exact h.refl _
  · next off =>
    split
    · exact h.refl _
    · split
      · exact h.trans (h.setAuto s 0#16 s.queue.suspended fun _ => by change 0 < _; omega) ((h.lists false).record _ _)
      · next below =>
        refine h.setAuto s _ s.queue.suspended fun less => ?_
        have apart : (s.queue.autoCount + 1#16).toNat ≠ s.queue.interval.toNat := fun same => below (BitVec.eq_of_toNat_eq same)
        have some : s.queue.interval.toNat ≠ 0 := fun zero => off (BitVec.eq_of_toNat_eq zero)
        simp only [BitVec.toNat_add, BitVec.toNat_ofNat] at apart ⊢
        omega

theorem boundaryNotice (s : State) : R s s.boundaryNotice :=
  h.trans (h.trans (h.trans ((h.lists false).boundaryRemovals _) (h.strains.closeCycles (fun own _ => (h.lists true).raise _ _ own) _))
    (h.autoSnapshot _)) (h.syncPause _)

theorem update (s : State) : R s s.update := by
  have computed : R s s.updateSetpoints := h.trans (h.updateGenerator s) (h.computeSetpoints _ _)
  have reported := h.trans computed ((h.lists false).arrive _ s.updateDemand)
  unfold State.update
  dsimp only
  split
  · exact h.trans reported (h.boundaryNotice _)
  · exact reported

theorem updateIf (s : State) (b : Bool) : R s (s.updateIf b) := by
  unfold State.updateIf
  split
  · exact h.update _
  · exact h.refl _

end Updates

/-! ### Counts -/

/-- The writes of a count of the reference timer. -/
structure Counts (R : State → State → Prop) : Prop extends Protects R where
  setStamp : ∀ s x, R s (s.setStamp x)
  setFrames : ∀ s x, R s (s.setFrames x)
  setGauges : ∀ s x, R s (s.setGauges x)
  setCracks : ∀ s x, R s (s.setCracks x)
  setStopLine : ∀ s x, R s (s.setStopLine x)
  setStopHold : ∀ s x, R s (s.setStopHold x)
  addEventAt : ∀ s p e, R s (s.addEventAt p e)

namespace Counts
variable {R : State → State → Prop} (h : Counts R)
include h

theorem watches : Watches R where
  toHands := h.hands
  updCrack _ _ _ _ := h.setCracks _ _

theorem supervises : Supervises R where
  toHands := h.hands
  updFrame _ _ _ _ := h.setFrames _ _
  addEventAt := h.addEventAt

theorem strains : Strains R where
  toHands := h.hands
  updGauge _ _ _ _ := h.setGauges _ _

theorem sampleStop (s : State) (level : Level) : R s (s.sampleStop level) :=
  (h.lists false).sampleStop (fun _ _ _ => h.setStopLine _ _) h.setStopHold s level

theorem sampleInputs (s : State) (ck : BitVec 16) (stopn : Level) : R s (s.sampleInputs ck stopn) :=
  h.trans (h.foldl (fun _ _ => h.watches.sampleCrack _ _ _) _ _) (h.sampleStop _ _)

theorem countAct (s : State) (t : CountArgs) (a : CountAct) : R s (s.countAct t a) := by
  cases a
  case sample => exact h.sampleInputs _ _ _
  case watchdog => exact h.supervises.watchdogTick _ _
  case stale => exact h.strains.staleTick _ _
  case clearTimer => exact (h.lists false).clearTimerTick _ _ _

theorem referenceCount (s : State) (t : CountArgs) : R s (s.referenceCount t) :=
  h.trans (h.setStamp _ _) (h.foldl (fun _ _ => h.countAct _ _ _) _ _)

theorem countIf (s : State) (t : CountArgs) (b : Bool) : R s (s.countIf t b) := by
  unfold State.countIf
  split
  · exact h.referenceCount _ _
  · exact h.refl _

end Counts

/-! ### Every operation -/

/-- Every write but those of the ports, the queue and the waiting commands, and of these an event added, a record made and a change
of the automatic snapshot fields. -/
structure Composes (R : State → State → Prop) : Prop extends Generates R, Counts R where
  setAuto : ∀ (s : State) (n : Half) (b : Bool), R s (s.setQueue { s.queue with autoCount := n, suspended := b })
  setChannels : ∀ s x, R s (s.setChannels x)
  setSupervision : ∀ s x, R s (s.setSupervision x)
  setLinks : ∀ s x, R s (s.setLinks x)

namespace Composes
variable {R : State → State → Prop} (h : Composes R)
include h

theorem updates : Updates R where
  toChains := h.toChains
  updateGenerator := h.updateGenerator
  syncPause := h.syncPause
  lists := h.lists
  computeSetpoints _ _ := h.setOutputs _ _
  updGauge _ _ _ _ := h.setGauges _ _
  setAuto s n b _ := h.setAuto s n b

theorem update (s : State) : R s s.update := h.updates.update s

theorem updateIf (s : State) (b : Bool) : R s (s.updateIf b) := h.updates.updateIf s b

theorem exchanges : Exchanges R where
  toSupervises := h.supervises
  updSupervision _ _ _ _ := h.setSupervision _ _

theorem replaceChannel (s : State) (c : Fin 8) (ch : Channel) : R s (s.replaceChannel c ch) :=
  h.trans (h.trans (h.setChannels _ _) (h.setOutputs _ _)) (h.setSupervision _ _)

theorem manualSnapshot (s : State) (x : Trigger) : R s (s.manualSnapshot x) :=
  h.trans (h.record _ _) (h.setAuto _ _ true)

theorem effect {p : PortId} {r : ReqName} {s t : State} (e : Effect p r s t) :
    R s t ∨ (∃ x, t = s.setStagedSet x) ∨ (∃ events, t = s.clearEvents p events)
      ∨ (r = .setEventMask ∧ ∃ mask, t = s.replaceMask p mask) ∨ (r = .reinit ∧ t = s.reinit)
      ∨ (s.queue.records ≠ [] ∧ t = s.setQueue s.queue.taken)
      ∨ (∃ on off a b n, thresholds? on off = some (a, b) ∧ t = s.setQueue (s.queue.configured a b n))
      ∨ t = s.setQueue { s.queue with lost := false } := by
  cases e
  case clearEvents events => exact .inr (.inr (.inl ⟨events, rfl⟩))
  case replaceMask mask => exact .inr (.inr (.inr (.inl ⟨rfl, mask, rfl⟩)))
  case reinit => exact .inr (.inr (.inr (.inr (.inl ⟨rfl, rfl⟩))))
  case takeRecord held => exact .inr (.inr (.inr (.inr (.inr (.inl ⟨held, rfl⟩)))))
  case configure n range => exact .inr (.inr (.inr (.inr (.inr (.inr (.inl ⟨_, _, _, _, _, range, rfl⟩))))))
  case readQueue => exact .inr (.inr (.inr (.inr (.inr (.inr (.inr rfl))))))
  case stage x => exact .inr (.inl ⟨x, rfl⟩)
  all_goals left
  case same => exact h.refl _
  case writeBlock => exact h.setGen _ _
  case startIndex => exact h.setGen _ _
  case start => exact h.startProgram _
  case pause => exact h.afterPause _
  case resume => exact h.afterResume _
  case stop => exact h.afterStop _ _
  case advance => exact h.afterAdvance _
  case replaceChannel => exact h.replaceChannel _ _ _
  case arm => exact h.setCommit _ _
  case disarm => exact h.afterDisarm _
  case exchange => exact h.exchanges.exchanged _ _ _ _ _ _
  case trip => exact h.supervises.tripFrame _ _ _
  case replaceFrame => exact h.supervises.replaceFrame (h.setFrames _ _)
  case replaceGauge => exact h.strains.replaceGauge (h.setGauges _ _)
  case armCaptures => exact h.setGauges _ _
  case replaceCrack => exact h.watches.replaceCrack fun _ _ _ => h.setCracks _ _
  case clearLatches => exact h.setCracks _ _
  case replaceZone => exact h.replaceZone _ _ _ _ _
  case release => exact (h.lists false).removeEntry _ _ _ _
  case reloadZone => exact h.changeZone _ _ _ _
  case snapshot => exact h.manualSnapshot _ _
  case resumeAuto => exact h.setAuto _ _ _

end Composes

end Sys2Proof.Machine


/-! What one command can do to the part, as one inversion lemma (`exec_moves`), and the statements about the ports: completion, select,
the bytes of a request and of an answer (chapter 1). -/
namespace Sys2Proof.Machine

/-! ### A byte that takes a request -/

theorem requestMeaning_eq_exec {i : Instr} {p : PortId} {r : ReqName} (h : requestName? i = some (p, r)) (s : State) :
    requestMeaning i s = exec i s := by
  cases i
  all_goals first | (cases h; done) | rfl

theorem takeRequest_of_accepted {p : PortId} {code : Byte} {length : Half} {args : List Byte} {r : ReqName} {i : Instr}
    (accepted : accepted? code length.toNat = some r) (parsed : parseRequest p r args = some i) (s : State) :
    takeRequest p code length args s = exec i s := by
  rw [takeRequest, accepted, Option.bind_some, parsed]
  exact requestMeaning_eq_exec (requestName?_of_parseRequest parsed).1 s

/-- The code and length received name a request, which is taken, or the window is answered BADREQ (R3). -/
theorem takeRequest_cases (p : PortId) (code : Byte) (length : Half) (args : List Byte) (s : State) :
    takeRequest p code length args s = .next (s.answer p code length .badreq [])
      ∨ ∃ i r, requestName? i = some (p, r) ∧ reqCode r = code ∧ takeRequest p code length args s = exec i s := by
  cases accepted : accepted? code length.toNat with
  | none => left; simp [takeRequest, accepted]
  | some r =>
    cases parsed : parseRequest p r args with
    | none => left; simp [takeRequest, accepted, parsed]
    | some i =>
      exact .inr ⟨i, r, (requestName?_of_parseRequest parsed).1, reqCode_of_accepted? accepted,
        takeRequest_of_accepted accepted parsed s⟩

/-- A byte moves its port's window, or takes a request of the code the window keeps (R2, R3). -/
theorem exec_portByteClocked_cases (p : PortId) (b : Byte) (s : State) :
    (∃ f : Port → Port, (∀ q, (f q).mask = q.mask ∧ (f q).latched = q.latched)
        ∧ exec (.portByteClocked p b) s = .next (s.updPort p f))
      ∨ exec (.portByteClocked p b) s = .next s
      ∨ ∃ i r, requestName? i = some (p, r) ∧ reqCode r = s.ports[portIndex p].window.code
          ∧ exec (.portByteClocked p b) s = exec i s := by
  have window (w : Window) : ∃ f : Port → Port, (∀ q, (f q).mask = q.mask ∧ (f q).latched = q.latched)
      ∧ Host.Outcome.next (φ := Fault) (ρ := Refusal) (s.setWindow p w) = .next (s.updPort p f) :=
    ⟨fun q => { q with window := w }, fun _ => ⟨rfl, rfl⟩, rfl⟩
  have taken (length : Half) (args : List Byte) :
      (∃ f : Port → Port, (∀ q, (f q).mask = q.mask ∧ (f q).latched = q.latched)
        ∧ takeRequest p s.ports[portIndex p].window.code length args s = .next (s.updPort p f))
      ∨ takeRequest p s.ports[portIndex p].window.code length args s = .next s
      ∨ ∃ i r, requestName? i = some (p, r) ∧ reqCode r = s.ports[portIndex p].window.code
          ∧ takeRequest p s.ports[portIndex p].window.code length args s = exec i s := by
    obtain h | h := takeRequest_cases p s.ports[portIndex p].window.code length args s
    · rw [h]; exact .inl (window _)
    · exact .inr (.inr h)
  change _ ∨ execPortByteClocked p b s = _ ∨ _
  simp only [exec]
  unfold execPortByteClocked
  dsimp only
  split
  · split
    · exact .inl (window _)
    · exact .inl (window _)
    · split
      · exact .inl (window _)
      · split
        · exact .inl (window _)
        · exact taken _ _
    · split
      · exact taken _ _
      · exact .inl (window _)
    · split <;> exact .inl (window _)
    · exact .inl (window _)
  · exact .inr (.inl rfl)

/-! ### The inversion of a command -/

/-- What one command can do to the part, the ports aside. -/
inductive Moves : State → State → Prop
  | ports (s : State) (x : Vector Port 6) : Moves s (s.setPorts x)
  | reset (s : State) (x : Vector Port 6) : Moves s ((State.reset.setPorts x).setPending s.pending)
  | effect {p : PortId} {r : ReqName} {s u : State} (right : hasRight p r = true) (e : Effect p r s u) (x : Vector Port 6) :
      Moves s (u.setPorts x)
  | update (s : State) : Moves s s.update
  | count (s : State) (t : CountArgs) : Moves s (s.referenceCount t)
  | link (s : State) (link : Fin 2) {x : Link} (count : x.count ≤ 40) : Moves s (s.updLink link fun _ => x)
  | frame (s : State) (link : Fin 2) (bits : BitVec 40) :
      Moves s ((s.updLink link fun _ => { state := .waiting, count := 40, bits := bits }).takeFrame link bits)

theorem Moves.refl (s : State) : Moves s s := .ports s s.ports

theorem Moves.of_updPort (s : State) (p : PortId) (f : Port → Port) : Moves s (s.updPort p f) := .ports s _

theorem exec_request_moves {i : Instr} {p : PortId} {r : ReqName} (h : requestName? i = some (p, r)) {s : State} :
    ∃ t, exec i s = .next t ∧ Moves s t := by
  obtain ⟨length, u, res, body, served, ⟨-, right, effect⟩ | ⟨rfl, -⟩⟩ := exec_request h s
  · exact ⟨_, served, .effect right effect _⟩
  · exact ⟨_, served, .of_updPort _ _ _⟩

theorem Moves.of_updateIf (s : State) (b : Bool) : Moves s (s.updateIf b) := by
  cases b
  · exact .refl s
  · exact .update s

theorem Moves.of_countIf (s : State) (t : CountArgs) (b : Bool) : Moves s (s.countIf t b) := by
  cases b
  · exact .refl s
  · exact .count s t

/-- Every command has a next state, and does to the part one of the things `Moves` lists. -/
theorem exec_moves (c : Instr) (s : State) : ∃ t, exec c s = .next t ∧ Moves s t := by
  cases request : requestName? c with
  | some x => exact exec_request_moves request
  | none =>
    cases c
    all_goals first | (cases request; done) | skip
    case malformedRequest =>
      refine ⟨_, rfl, ?_⟩
      split
      · exact .refl s
      · exact .of_updPort _ _ _
    case windowAbandoned | selectDeassertedAfterAnswer =>
      refine ⟨_, rfl, ?_⟩
      split
      · exact .of_updPort _ _ _
      · exact .refl s
    case selectAsserted =>
      refine ⟨_, rfl, ?_⟩
      split
      · exact .refl s
      · exact .of_updPort _ _ _
    case hardwareReset selects =>
      exact ⟨_, rfl, .reset s (Vector.ofFn fun i : Fin 6 => Port.reset (selects.getLsbD i.val))⟩
    case update => exact ⟨_, rfl, .update s⟩
    case commitApplyNow | boundary | commitApplyBoundary | pendingStopActs | pendingAdvanceActs | dwellEnd | rampEnd
        | boundaryRemoval | baselineCapture | zoneRampComplete => exact ⟨_, rfl, .of_updateIf s _⟩
    case referenceCount t => exact ⟨_, rfl, .count s t⟩
    case watchdogExpiry | staleExpiry | clearTimerExpiry => exact ⟨_, rfl, .of_countIf s _ _⟩
    case gaugeFrame link bits => exact ⟨_, rfl, .frame s link bits⟩
    case gaugeLinkStartCondition link => exact ⟨_, rfl, .link s link (Nat.zero_le _)⟩
    case gaugeLinkClockEdge link bit =>
      refine ⟨_, rfl, ?_⟩
      split
      · exact .refl s
      · split
        · exact .link s link (by dsimp only; omega)
        · exact .frame s link _
    case portByteClocked p b =>
      obtain ⟨f, -, run⟩ | run | ⟨i, r, name, -, run⟩ := exec_portByteClocked_cases p b s
      · exact ⟨_, run, .of_updPort _ _ _⟩
      · exact ⟨_, run, .refl s⟩
      · rw [run]; exact exec_request_moves name

/-- A property of the part that no port and no waiting command bears on, and that every move keeps, every step keeps. -/
theorem step_keeps {P : State → Prop} (pending : ∀ s x, P s → P (s.setPending x)) (moves : ∀ {s t}, Moves s t → P s → P t)
    {s t : State} (run : step s = .next t) (h : P s) : P t := by
  unfold step at run
  split at run
  · cases run; exact h
  · next c rest waiting =>
    obtain ⟨u, next, move⟩ := exec_moves c (s.setPending rest)
    cases next.symm.trans run
    exact moves move (pending s rest h)

/-! ### What waits, and the windows and masks -/

/-- The waiting commands, and the window and mask of every port, stay. -/
structure Quiet (s t : State) : Prop where
  pending : t.pending = s.pending
  window : ∀ q : Fin 6, t.ports[q].window = s.ports[q].window
  mask : ∀ q : Fin 6, t.ports[q].mask = s.ports[q].mask

/-- An operation that leaves the ports and the waiting commands as they are is quiet. -/
theorem Quiet.of_eq {s t : State} (ports : t.ports = s.ports) (pending : t.pending = s.pending) : Quiet s t :=
  ⟨pending, fun _ => by rw [ports], fun _ => by rw [ports]⟩

theorem Quiet.composes : Composes Quiet where
  refl s := .of_eq rfl rfl
  trans h k := ⟨k.pending.trans h.pending, fun q => (k.window q).trans (h.window q), fun q => (k.mask q).trans (h.mask q)⟩
  setStamp _ _ := .of_eq rfl rfl
  setGen _ _ := .of_eq rfl rfl
  setChannels _ _ := .of_eq rfl rfl
  setOutputs _ _ := .of_eq rfl rfl
  setSupervision _ _ := .of_eq rfl rfl
  setActiveSet _ _ := .of_eq rfl rfl
  setCommit _ _ := .of_eq rfl rfl
  setFrames _ _ := .of_eq rfl rfl
  setGauges _ _ := .of_eq rfl rfl
  setLinks _ _ := .of_eq rfl rfl
  setCracks _ _ := .of_eq rfl rfl
  setStopLine _ _ := .of_eq rfl rfl
  setZones _ _ := .of_eq rfl rfl
  setTagCounter _ _ := .of_eq rfl rfl
  setStopHold _ _ := .of_eq rfl rfl
  addEvent s e := ⟨rfl, (Keeps.of_addEvent s e).window, (Keeps.of_addEvent s e).mask⟩
  addEventAt s p e := by
    refine ⟨rfl, fun q => ?_, fun q => ?_⟩
    all_goals
      simp only [State.addEventAt, State.updPort, State.setPorts_ports, Fin.getElem_fin, Vector.getElem_set]
      split
      · next same => simp only [same]
      · rfl
  record _ _ := .of_eq rfl rfl
  setAuto _ _ _ := .of_eq rfl rfl

/-- The part of REINIT between its defaults and its events: the RESTART entries and their records (R15, steps 3 and 4). -/
def State.restarted (s : State) : State :=
  allZones.foldl (fun t z => t.restartRecords z s.zones[z].state) (allZones.foldl State.restartZone s.defaults)

theorem State.reinit_eq (s : State) : s.reinit = s.restarted.restartEvents := rfl

theorem Protects.restartRecords {R : State → State → Prop} (h : Protects R) (s : State) (z : Fin 4) (x : ZoneState) :
    R s (s.restartRecords z x) := by
  unfold State.restartRecords
  dsimp only
  split
  · exact h.record _ _
  · exact h.trans (h.record _ _) (h.record _ _)

theorem Protects.restarted {R : State → State → Prop} (h : Protects R) (s : State) : R s.defaults s.restarted :=
  h.trans (h.foldl (fun _ _ => (h.lists false).appendEntry _ _ _) _ _) (h.foldl (fun _ _ => h.restartRecords _ _ _) _ _)

theorem State.reinit_window (s : State) (q : Fin 6) : s.reinit.ports[q].window = s.ports[q].window := by
  have kept : s.restarted.ports[q].window = s.ports[q].window := (Quiet.composes.restarted s).window q
  simpa [State.reinit_eq, State.restartEvents] using kept

theorem State.reinit_pending (s : State) : s.reinit.pending = s.pending := (Quiet.composes.restarted s).pending

/-- An effect leaves the waiting commands and every window, and every mask but its own port's at SET_EVENT_MASK and all of them at
REINIT. -/
theorem Effect.quiet {p : PortId} {r : ReqName} {s t : State} (e : Effect p r s t) :
    t.pending = s.pending ∧ (∀ q : Fin 6, t.ports[q].window = s.ports[q].window)
      ∧ ∀ q, t.ports[portIndex q].mask ≠ s.ports[portIndex q].mask → (r = .setEventMask ∧ p = q) ∨ r = .reinit := by
  have only (f : Port → Port) (h : ∀ x, (f x).window = x.window) (q : Fin 6) :
      (s.updPort p f).ports[q].window = s.ports[q].window := by
    simp only [State.updPort, State.setPorts_ports, Fin.getElem_fin, Vector.getElem_set]
    split
    · next same => simp only [h, same]
    · rfl
  obtain h | ⟨x, rfl⟩ | ⟨events, rfl⟩ | ⟨rfl, mask, rfl⟩ | ⟨rfl, rfl⟩ | ⟨-, rfl⟩ | ⟨_, _, _, _, _, -, rfl⟩ | rfl :=
    Quiet.composes.effect e
  · exact ⟨h.pending, h.window, fun q moved => absurd (h.mask _) moved⟩
  · exact ⟨rfl, fun _ => rfl, fun q moved => absurd rfl moved⟩
  · refine ⟨rfl, only _ fun _ => rfl, fun q moved => absurd ?_ moved⟩
    exact State.updPort_keeps Port.mask (by intro; rfl) s p q
  · refine ⟨rfl, only _ fun _ => rfl, fun q moved => .inl ⟨rfl, ?_⟩⟩
    refine Classical.byContradiction fun other => ?_
    exact moved (congrArg Port.mask (s.updPort_other p q _ other))
  · exact ⟨s.reinit_pending, s.reinit_window, fun _ _ => .inr rfl⟩
  all_goals exact ⟨rfl, fun _ => rfl, fun q moved => absurd rfl moved⟩

/-- Settles O2: a move keeps the waiting commands. -/
theorem everyCommandHasANextState : Obligations.EveryCommandHasANextState := by
  intro c s
  obtain ⟨t, run, move⟩ := exec_moves c s
  refine ⟨t, run, ?_⟩
  cases move
  case ports | reset | link => rfl
  case effect e => exact e.quiet.1
  case update => exact (Quiet.composes.update s).pending
  case count t => exact (Quiet.composes.referenceCount s t).pending
  case frame link bits => exact (Quiet.composes.strains.takeFrame _ link bits).pending

/-! ### Select (R2, R4) -/

theorem exec_selectAsserted_of_deselected {s : State} {p : PortId} (h : s.ports[portIndex p].window.selected = false) :
    exec (.selectAsserted p) s = .next (s.setWindow p { Window.idle true with phase := .code }) :=
  congrArg Host.Outcome.next (if_neg (by simpa using h))

theorem exec_windowAbandoned_of_untaken {s : State} {p : PortId} (selected : s.ports[portIndex p].window.selected = true)
    (phase : s.ports[portIndex p].window.phase.untaken = true) :
    exec (.windowAbandoned p) s = .next (s.setWindow p (Window.idle false)) :=
  congrArg Host.Outcome.next (if_pos (by simpa using ⟨selected, phase⟩))

theorem exec_selectDeassertedAfterAnswer_of_taken {s : State} {p : PortId}
    (selected : s.ports[portIndex p].window.selected = true) (phase : s.ports[portIndex p].window.phase.untaken = false) :
    exec (.selectDeassertedAfterAnswer p) s = .next (s.setWindow p (Window.idle false)) :=
  congrArg Host.Outcome.next (if_pos (by simpa using ⟨selected, phase⟩))

/-! ### Which commands move a window or a mask -/

/-- A change of one port's window alone moves that window and no mask. -/
theorem State.updPort_moved {s : State} {p q : PortId} {f : Port → Port} (mask : ∀ x, (f x).mask = x.mask) :
    ((s.updPort p f).ports[portIndex q].window ≠ s.ports[portIndex q].window → p = q)
      ∧ (s.updPort p f).ports[portIndex q].mask = s.ports[portIndex q].mask := by
  refine ⟨fun moved => ?_, s.updPort_keeps Port.mask mask p q⟩
  refine Classical.byContradiction fun other => ?_
  exact moved (congrArg Port.window (s.updPort_other p q f other))

theorem State.setWindow_moved (s : State) (p q : PortId) (w : Window) :
    ((s.setWindow p w).ports[portIndex q].window ≠ s.ports[portIndex q].window → p = q)
      ∧ (s.setWindow p w).ports[portIndex q].mask = s.ports[portIndex q].mask :=
  State.updPort_moved fun _ => rfl

/-- A request moves its own port's window, and masks as `Effect.quiet` says. -/
theorem exec_request_moved {i : Instr} {p : PortId} {r : ReqName} (h : requestName? i = some (p, r)) {s t : State}
    (run : exec i s = .next t) (q : PortId) :
    (t.ports[portIndex q].window ≠ s.ports[portIndex q].window → p = q)
      ∧ (t.ports[portIndex q].mask ≠ s.ports[portIndex q].mask → (r = .setEventMask ∧ p = q) ∨ (r = .reinit ∧ p = .director)) := by
  obtain ⟨length, u, res, body, served, outcome⟩ := exec_request h s
  cases served.symm.trans run
  obtain ⟨-, right, effect⟩ | ⟨rfl, -⟩ := outcome
  · obtain ⟨-, window, mask⟩ := effect.quiet
    refine ⟨fun moved => ?_, fun moved => ?_⟩
    · refine Classical.byContradiction fun other => ?_
      exact moved ((congrArg Port.window (u.updPort_other p q _ other)).trans (window _))
    · refine (mask q (by rwa [Fin.getElem_fin, State.answer_mask] at moved)).imp id fun h => ⟨h, ?_⟩
      subst h
      cases p <;> simp [hasRight, portGroup] at right ⊢
  · obtain ⟨window, mask⟩ := u.setWindow_moved p q (Window.answering (reqCode r) length (answerBytes res body))
    exact ⟨window, fun moved => absurd mask moved⟩

/-- The event rows that are no row of a port leave every window and mask, unless the part is reset. -/
theorem exec_event_quiet {c : Instr} {s t : State} (event : requestName? c = none) (run : exec c s = .next t) :
    match c with
    | .hardwareReset _ | .malformedRequest _ _ _ | .windowAbandoned _ | .selectAsserted _ | .selectDeassertedAfterAnswer _
    | .portByteClocked _ _ => True
    | _ => Quiet s t := by
  cases c
  all_goals first | (cases event; done) | trivial | (cases run)
  case update => exact Quiet.composes.update _
  case commitApplyNow | boundary | commitApplyBoundary | pendingStopActs | pendingAdvanceActs | dwellEnd | rampEnd
      | boundaryRemoval | baselineCapture | zoneRampComplete => exact Quiet.composes.updateIf _ _
  case referenceCount => exact Quiet.composes.referenceCount _ _
  case watchdogExpiry | staleExpiry | clearTimerExpiry => exact Quiet.composes.countIf _ _ _
  case gaugeFrame => exact Quiet.composes.trans (Quiet.composes.setLinks _ _) (Quiet.composes.strains.takeFrame _ _ _)
  case gaugeLinkStartCondition => exact Quiet.composes.setLinks _ _
  case gaugeLinkClockEdge =>
    change Quiet s _
    split
    · exact Quiet.composes.refl _
    · split
      · exact Quiet.composes.setLinks _ _
      · exact Quiet.composes.trans (Quiet.composes.setLinks _ _) (Quiet.composes.strains.takeFrame _ _ _)

/-- Settles O13: the select rows by their conditions; a window or mask that moved, by the row of the command. -/
theorem selectMovesTheWindow : Obligations.SelectMovesTheWindow := by
  refine ⟨fun p s => ?rows, fun c q s t run => ?moved⟩
  case rows =>
    refine ⟨exec_selectAsserted_of_deselected, fun selected phase => ?_, fun selected phase => ?_⟩
    · refine exec_windowAbandoned_of_untaken selected ?_
      cases h : s.ports[portIndex p].window.phase <;> simp_all [Phase.untaken]
    · refine exec_selectDeassertedAfterAnswer_of_taken selected ?_
      cases h : s.ports[portIndex p].window.phase <;> simp_all [Phase.untaken]
  case moved =>
    extract_lets kept
    cases c
    case hardwareReset => exact ⟨fun _ => trivial, fun _ => trivial⟩
    case update | commitApplyNow | boundary | commitApplyBoundary | pendingStopActs | pendingAdvanceActs | dwellEnd | rampEnd
        | boundaryRemoval | baselineCapture | zoneRampComplete | referenceCount | watchdogExpiry | staleExpiry
        | clearTimerExpiry | gaugeFrame | gaugeLinkStartCondition | gaugeLinkClockEdge =>
      have quiet : Quiet s t := exec_event_quiet rfl run
      exact ⟨fun moved => absurd (quiet.window _) moved, fun moved => absurd (quiet.mask _) moved⟩
    case malformedRequest =>
      cases run
      split
      · exact ⟨fun moved => absurd rfl moved, fun moved => absurd rfl moved⟩
      · exact (s.setWindow_moved _ q _).imp id fun h moved => absurd h moved
    case windowAbandoned | selectDeassertedAfterAnswer =>
      cases run
      split
      · exact (s.setWindow_moved _ q _).imp id fun h moved => absurd h moved
      · exact ⟨fun moved => absurd rfl moved, fun moved => absurd rfl moved⟩
    case selectAsserted =>
      cases run
      split
      · exact ⟨fun moved => absurd rfl moved, fun moved => absurd rfl moved⟩
      · exact (s.setWindow_moved _ q _).imp id fun h moved => absurd h moved
    case portByteClocked p b =>
      obtain ⟨f, keeps, next⟩ | next | ⟨i, r, name, code, next⟩ := exec_portByteClocked_cases p b s
      · cases next.symm.trans run
        exact (State.updPort_moved fun x => (keeps x).1).imp id fun h moved => absurd h moved
      · cases next.symm.trans run
        exact ⟨fun moved => absurd rfl moved, fun moved => absurd rfl moved⟩
      · obtain ⟨window, mask⟩ := exec_request_moved name (next.symm.trans run) q
        refine ⟨window, fun moved => (mask moved).imp ?_ ?_⟩
        · rintro ⟨rfl, same⟩; exact ⟨same, code.symm⟩
        · rintro ⟨rfl, same⟩; exact ⟨same, code.symm⟩
    case setEventMask =>
      obtain ⟨window, mask⟩ := exec_request_moved rfl run q
      exact ⟨fun moved => congrArg some (window moved), fun moved => ((mask moved).resolve_right (by simp)).2⟩
    case reinit =>
      obtain ⟨window, mask⟩ := exec_request_moved rfl run q
      exact ⟨fun moved => congrArg some (window moved), fun moved => ((mask moved).resolve_left (by simp)).2⟩
    all_goals
      obtain ⟨window, mask⟩ := exec_request_moved rfl run q
      exact ⟨fun moved => congrArg some (window moved), fun moved => by simpa using mask moved⟩

end Sys2Proof.Machine


/-! The ports (chapter 1): steps and resets, attention, malformed requests, and the bytes of a request and of an answer. -/
namespace Sys2Proof.Machine

/-- Settles O1: `step` by the front of the queue. -/
theorem stepRunsTheFrontCommand : Obligations.StepRunsTheFrontCommand := fun _ _ _ => ⟨rfl, rfl⟩

/-! ### Attention (R9, R10) -/

/-- The number of an event's bit (R164). -/
def Event.number : Event → Fin 7
  | .restart => 0 | .alarm => 1 | .zoneChange => 2 | .genChange => 3 | .commitDone => 4 | .logReady => 5 | .ownLate => 6

theorem Event.number_surjective (k : Fin 7) : ∃ e : Event, e.number = k := by
  match k with
  | 0 => exact ⟨.restart, rfl⟩
  | 1 => exact ⟨.alarm, rfl⟩
  | 2 => exact ⟨.zoneChange, rfl⟩
  | 3 => exact ⟨.genChange, rfl⟩
  | 4 => exact ⟨.commitDone, rfl⟩
  | 5 => exact ⟨.logReady, rfl⟩
  | 6 => exact ⟨.ownLate, rfl⟩

theorem Event.bit_eq_twoPow (e : Event) : e.bit = BitVec.twoPow 7 e.number.val := by
  cases e <;> rfl

/-- An event is in an event set exactly when the set's bit of its number is. -/
theorem Event.mem_iff (x : BitVec 7) (e : Event) : x &&& e.bit ≠ 0#7 ↔ x.getLsbD e.number.val = true := by
  have nonzero : BitVec.twoPow 7 e.number.val ≠ 0#7 := by cases e <;> decide
  rw [e.bit_eq_twoPow, BitVec.and_twoPow]
  cases x.getLsbD e.number.val
  · simp
  · simpa using nonzero

/-- Two event sets meet exactly when an event is in both. -/
theorem and_ne_zero_iff (x y : BitVec 7) : x &&& y ≠ 0#7 ↔ ∃ e : Event, x &&& e.bit ≠ 0#7 ∧ y &&& e.bit ≠ 0#7 := by
  simp only [Event.mem_iff]
  constructor
  · intro meet
    refine Classical.byContradiction fun none => ?_
    refine meet (BitVec.eq_of_getLsbD_eq fun k hk => ?_)
    obtain ⟨e, he⟩ := Event.number_surjective ⟨k, hk⟩
    have apart := not_exists.mp none e
    rw [he] at apart
    simpa [BitVec.getLsbD_and] using apart
  · rintro ⟨e, hx, hy⟩ zero
    have bit : (x &&& y).getLsbD e.number.val = true := by rw [BitVec.getLsbD_and, hx, hy]; rfl
    rw [zero] at bit
    simp at bit

theorem State.holds_logReady (s : State) (p : PortId) : s.holds p .logReady = s.queue.logReady := by
  rw [← s.eventStatus_logReady p, Bool.eq_iff_iff, State.holds, bne_iff_ne, Event.mem_iff]
  rfl

theorem State.setWindow_attnLow (s : State) (p q : PortId) (w : Window) : (s.setWindow q w).attnLow p = s.attnLow p := by
  have latched : (s.setWindow q w).ports[portIndex p].latched = s.ports[portIndex p].latched :=
    State.updPort_keeps Port.latched (by intro; rfl) s q p
  simp only [State.attnLow, State.eventStatus_congr (t := s.setWindow q w) latched rfl, (s.setWindow_moved q p w).2]

/-- Settles O11, by the bits of status and mask. -/
theorem attentionFollowsStatusAndMask : Obligations.AttentionFollowsStatusAndMask := by
  intro s p
  refine ⟨?_, s.holds_logReady p, fun q w => s.setWindow_attnLow p q w⟩
  simp only [State.attnLow, State.holds, bne_iff_ne]
  exact and_ne_zero_iff _ _

/-! ### Malformed requests (R3) -/

/-- The codes of the request code table with the argument lengths they accept (section 10.3). -/
def lengthRows : List (List Nat × List Nat) :=
  [([0x01, 0x02, 0x0E, 0x13, 0x14, 0x15, 0x17, 0x18, 0x25, 0x41, 0x4A, 0x60, 0x61, 0x62, 0x64], [0]),
   ([0x03, 0x04, 0x11, 0x12, 0x16, 0x21, 0x24, 0x31, 0x52, 0x53], [1]), ([0x23, 0x42, 0x49], [2]), ([0x51], [3]),
   ([0x63], [4]), ([0x22], [5]), ([0x50], [6]), ([0x30], [8]), ([0x32, 0x48], [9]), ([0x10], [12]), ([0x40], [24]),
   ([0x20], [25]), ([0x33], [0, 1])]

theorem mem_lengthRows (r : ReqName) : ∃ row ∈ lengthRows, (reqCode r).toNat ∈ row.1 ∧ row.2 = reqLengths r := by
  cases r <;> decide

theorem accepted?_eq_none {code : Byte} {n : Nat} (h : ∀ row ∈ lengthRows, code.toNat ∈ row.1 → n ∉ row.2) :
    accepted? code n = none := by
  refine Option.eq_none_iff_forall_ne_some.mpr fun r accepted => ?_
  obtain rfl := reqCode_of_accepted? accepted
  obtain ⟨row, mem, named, lengths⟩ := mem_lengthRows r
  refine h row mem named ?_
  rw [lengths]
  simpa [accepted?, requestOf?_reqCode] using accepted

/-- Settles O12: no request has the code and accepts the length. -/
theorem malformedRequestIsAnsweredBadreq : Obligations.MalformedRequestIsAnsweredBadreq := by
  intro p code length s h
  exact congrArg Host.Outcome.next (if_neg (by simp [accepted?_eq_none h]))

/-! ### One byte (R2, R3) -/

section
variable {s : State} {p : PortId} {b : Byte}

theorem exec_portByteClocked_of_deselected (h : s.ports[portIndex p].window.selected = false) :
    exec (.portByteClocked p b) s = .next s := by
  simp only [exec, execPortByteClocked, h, Bool.false_eq_true, if_false]

variable (selected : s.ports[portIndex p].window.selected = true)
include selected

theorem exec_portByteClocked_of_idle (h : s.ports[portIndex p].window.phase = .idle ∨ s.ports[portIndex p].window.phase = .spent) :
    exec (.portByteClocked p b) s =
      .next (s.setWindow p { s.ports[portIndex p].window with sdo := some Config.fillerByte }) := by
  obtain h | h := h <;> simp only [exec, execPortByteClocked, selected, h, if_true]

theorem exec_portByteClocked_of_code (h : s.ports[portIndex p].window.phase = .code) :
    exec (.portByteClocked p b) s =
      .next (s.setWindow p { s.ports[portIndex p].window with
        phase := .length, code := b, lengthHigh := none, sdo := some Config.fillerByte }) := by
  simp only [exec, execPortByteClocked, selected, h, if_true]

theorem exec_portByteClocked_of_length (h : s.ports[portIndex p].window.phase = .length)
    (none : s.ports[portIndex p].window.lengthHigh = none) :
    exec (.portByteClocked p b) s =
      .next (s.setWindow p { s.ports[portIndex p].window with lengthHigh := some b, sdo := some Config.fillerByte }) := by
  simp only [exec, execPortByteClocked, selected, h, none, if_true]

theorem exec_portByteClocked_of_secondLength {high : Byte} (h : s.ports[portIndex p].window.phase = .length)
    (first : s.ports[portIndex p].window.lengthHigh = some high) :
    exec (.portByteClocked p b) s =
      if (accepted? s.ports[portIndex p].window.code (be2 high b).toNat).isSome ∧ be2 high b ≠ 0#16 then
        .next (s.setWindow p { s.ports[portIndex p].window with
          phase := .arguments, lengthHigh := none, length := be2 high b, expected := (be2 high b).toNat, args := []
          sdo := some Config.fillerByte })
      else takeRequest p s.ports[portIndex p].window.code (be2 high b) [] s := by
  simp only [exec, execPortByteClocked, selected, h, first, if_true]

theorem exec_portByteClocked_of_argument (h : s.ports[portIndex p].window.phase = .arguments)
    (more : 1 < s.ports[portIndex p].window.expected) :
    exec (.portByteClocked p b) s =
      .next (s.setWindow p { s.ports[portIndex p].window with
        expected := s.ports[portIndex p].window.expected - 1, args := s.ports[portIndex p].window.args ++ [b]
        sdo := some Config.fillerByte }) := by
  simp only [exec, execPortByteClocked, selected, h, if_true, if_neg (Nat.not_le.mpr more)]

theorem exec_portByteClocked_of_lastArgument (h : s.ports[portIndex p].window.phase = .arguments)
    (last : s.ports[portIndex p].window.expected ≤ 1) :
    exec (.portByteClocked p b) s =
      takeRequest p s.ports[portIndex p].window.code s.ports[portIndex p].window.length
        (s.ports[portIndex p].window.args ++ [b]) s := by
  simp only [exec, execPortByteClocked, selected, h, if_true, if_pos last]

theorem exec_portByteClocked_of_answer {x y : Byte} {rest : List Byte} (h : s.ports[portIndex p].window.phase = .answer)
    (unsent : s.ports[portIndex p].window.unsent = x :: y :: rest) :
    exec (.portByteClocked p b) s =
      .next (s.setWindow p { s.ports[portIndex p].window with unsent := y :: rest, sdo := some x }) := by
  simp only [exec, execPortByteClocked, selected, h, unsent, if_true]

theorem exec_portByteClocked_of_lastAnswer {x : Byte} (h : s.ports[portIndex p].window.phase = .answer)
    (unsent : s.ports[portIndex p].window.unsent = [x]) :
    exec (.portByteClocked p b) s =
      .next (s.setWindow p { s.ports[portIndex p].window with phase := .spent, unsent := [], sdo := some x }) := by
  simp only [exec, execPortByteClocked, selected, h, unsent, if_true]
end

/-- Settles O14, by the phase of the window. -/
theorem bytesAssembleTheRequest : Obligations.BytesAssembleTheRequest := by
  intro p b s
  refine ⟨exec_portByteClocked_of_deselected, fun selected => ⟨exec_portByteClocked_of_idle selected,
    exec_portByteClocked_of_code selected, exec_portByteClocked_of_length selected, fun high phase first accepted nonzero => ?_,
    fun high phase first refused => ?_, exec_portByteClocked_of_argument selected⟩⟩
  · have some : be2 high b ≠ 0#16 := by rwa [ne_eq, ← BitVec.toNat_inj, be2_toNat]
    rw [exec_portByteClocked_of_secondLength selected phase first, be2_toNat, if_pos ⟨accepted, some⟩]
    rfl
  · rw [exec_portByteClocked_of_secondLength selected phase first, be2_toNat, refused, if_neg (by simp), takeRequest, be2_toNat,
      refused]
    rfl

/-! ### The answer, byte by byte (R2, R6) -/

@[simp] theorem State.setWindow_window (s : State) (p : PortId) (w : Window) :
    (s.setWindow p w).ports[(portIndex p).val].window = w := by
  simp [State.setWindow]

theorem State.setWindow_setWindow (s : State) (p : PortId) (v w : Window) :
    (s.setWindow p v).setWindow p w = s.setWindow p w := by
  simp [State.setWindow, State.updPort, State.setPorts]

theorem State.setWindow_self (s : State) (p : PortId) : s.setWindow p s.ports[portIndex p].window = s := by
  have same : s.ports.set (portIndex p) s.ports[portIndex p] = s.ports := Vector.set_getElem_self _
  change s.setPorts (s.ports.set (portIndex p) s.ports[portIndex p]) = s
  rw [same]
  rfl

/-- What is sent over some bytes clocked in ANSWER, whatever they are (R2, R6). -/
theorem execAll_answer (p : PortId) (bytes : List Byte) (s : State) (w : Window) (selected : w.selected = true)
    (phase : w.phase = .answer) (some : bytes ≠ []) (enough : bytes.length ≤ w.unsent.length) :
    execAll (bytes.map (.portByteClocked p)) (s.setWindow p w) =
      .next (s.setWindow p
        { w with
          phase := if bytes.length < w.unsent.length then .answer else .spent
          unsent := w.unsent.drop bytes.length, sdo := w.unsent[bytes.length - 1]? }) := by
  induction bytes generalizing w with
  | nil => exact absurd rfl some
  | cons b bytes ih =>
    have window : (s.setWindow p w).ports[portIndex p].window = w := by simp
    rw [List.map_cons, execAll]
    rcases unsent : w.unsent with _ | ⟨x, _ | ⟨y, rest⟩⟩
    · simp [unsent] at enough
    · obtain rfl : bytes = [] := by simpa [unsent] using enough
      rw [exec_portByteClocked_of_lastAnswer (by rw [window, selected]) (by rw [window, phase]) (by rw [window, unsent])]
      simp [execAll, State.setWindow_setWindow]
    · rw [exec_portByteClocked_of_answer (by rw [window, selected]) (by rw [window, phase]) (by rw [window, unsent])]
      obtain _ | ⟨c, bytes⟩ := bytes
      · simp [execAll, State.setWindow_setWindow, phase]
      · simp only [State.setWindow_setWindow, window]
        rw [ih { w with unsent := y :: rest, sdo := Option.some x } selected phase (by simp) (by simpa [unsent] using enough)]
        simp

/-- Settles O16: what `Window.answering` holds, and the induction over the bytes clocked. -/
theorem answerIsSentByteByByte : Obligations.AnswerIsSentByteByByte := by
  refine ⟨fun i p s t run taken => ?stands, fun _ _ _ _ _ _ => rfl, rfl, fun p bytes s => ?sent⟩
  case stands =>
    have built : ∃ u code length res body, t = State.answer u p code length res body := by
      obtain ⟨r, name⟩ | ⟨code, length, rfl, malformed⟩ := taken
      · obtain ⟨length, u, res, body, served, -⟩ := exec_request name s
        cases served.symm.trans run
        exact ⟨_, _, _, _, _, rfl⟩
      · cases run
        exact ⟨_, _, _, _, _, if_neg (by simp [malformed])⟩
    obtain ⟨u, code, length, res, body, rfl⟩ := built
    simp [State.answer, State.answerOf, Window.answering, answerBytes, Config.fillerByte]
  case sent =>
    intro w selected phase some enough
    have sent := execAll_answer p bytes s w selected phase some enough
    rwa [State.setWindow_self] at sent

end Sys2Proof.Machine


/-! The record queue (chapter 9): how a record made moves it, and that every step keeps it bounded and LOG_READY settled. -/
namespace Sys2Proof.Machine

/-! ### Offering a record (R152) -/

theorem Queue.offer_of_room {q : Queue} (room : q.records.length < Config.queueCapacity) (r : Record) :
    q.offer r = { q with records := q.records ++ [r], logReady := q.logReady || decide (q.on ≤ q.records.length + 1) } :=
  if_pos room

/-- A full queue that admits a record evicts a SNAPSHOT for it. -/
theorem Queue.offer_of_evicting {q : Queue} (full : ¬ q.records.length < Config.queueCapacity) {r : Record}
    (safety : r.body.isSafety = true) (held : q.records.any Record.isSnapshot = true) :
    q.offer r = { q with records := q.records.eraseP Record.isSnapshot ++ [r], lost := true } := by
  rw [Queue.offer, if_neg full, if_pos (by simp [Queue.admits, safety, held])]

theorem Queue.offer_of_dropped {q : Queue} (full : ¬ q.records.length < Config.queueCapacity) {r : Record}
    (dropped : (r.body.isSafety && q.records.any Record.isSnapshot) = false) : q.offer r = { q with lost := true } := by
  rw [Queue.offer, if_neg full, if_neg (by simp [Queue.admits, full, dropped])]

/-- The three outcomes of an offer. -/
theorem Queue.offer_cases (q : Queue) (r : Record) :
    (q.records.length < Config.queueCapacity
        ∧ q.offer r = { q with records := q.records ++ [r], logReady := q.logReady || decide (q.on ≤ q.records.length + 1) })
      ∨ (Config.queueCapacity ≤ q.records.length ∧ q.records.any Record.isSnapshot = true
        ∧ q.offer r = { q with records := q.records.eraseP Record.isSnapshot ++ [r], lost := true })
      ∨ (Config.queueCapacity ≤ q.records.length ∧ q.offer r = { q with lost := true }) := by
  by_cases room : q.records.length < Config.queueCapacity
  · exact .inl ⟨room, q.offer_of_room room r⟩
  · cases admitted : r.body.isSafety && q.records.any Record.isSnapshot with
    | true =>
      obtain ⟨safety, held⟩ := Bool.and_eq_true_iff.mp admitted
      exact .inr (.inl ⟨Nat.le_of_not_lt room, held, q.offer_of_evicting room safety held⟩)
    | false => exact .inr (.inr ⟨Nat.le_of_not_lt room, q.offer_of_dropped room admitted⟩)

theorem length_evicted {l : List Record} (held : l.any Record.isSnapshot = true) (r : Record) :
    (l.eraseP Record.isSnapshot ++ [r]).length = l.length := by
  obtain ⟨x, mem, snapshot⟩ := List.any_eq_true.mp held
  have length := List.length_eraseP_of_mem mem snapshot
  have := List.length_pos_of_mem mem
  simp only [List.length_append, List.length_singleton, length]
  omega

/-! ### What a step keeps of the queue (R152, R154) -/

/-- LOG_READY is settled against the thresholds, as `State.ReadySettled` has it of the part's queue. -/
abbrev Queue.Settled (q : Queue) : Prop :=
  (1 ≤ q.on ∧ q.on ≤ Config.queueCapacity ∧ q.off < q.on)
    ∧ (q.on ≤ q.records.length → q.logReady = true) ∧ (q.records.length ≤ q.off → q.logReady = false)

/-- What making a record keeps of a queue: its bound, LOG_READY settled, and the thresholds. -/
structure QueueKept (q u : Queue) : Prop where
  on : u.on = q.on
  off : u.off = q.off
  bounded : q.records.length ≤ Config.queueCapacity → u.records.length ≤ Config.queueCapacity
  settled : q.Settled → u.Settled

theorem QueueKept.refl (q : Queue) : QueueKept q q := ⟨rfl, rfl, id, id⟩

theorem QueueKept.trans {q u v : Queue} (h : QueueKept q u) (k : QueueKept u v) : QueueKept q v :=
  ⟨k.on.trans h.on, k.off.trans h.off, k.bounded ∘ h.bounded, k.settled ∘ h.settled⟩

theorem QueueKept.of_offer (q : Queue) (r : Record) : QueueKept q (q.offer r) := by
  obtain ⟨room, offer⟩ | ⟨full, held, offer⟩ | ⟨full, offer⟩ := q.offer_cases r <;> rw [offer]
  · refine ⟨rfl, rfl, fun _ => by rw [List.length_append]; exact room, fun ⟨range, set, clear⟩ => ⟨range, fun h => ?_, fun h => ?_⟩⟩
    · simp_all
    · have h : q.records.length + 1 ≤ q.off := by simpa using h
      have ready : q.logReady = false := clear (by omega)
      simp only [ready, Bool.false_or, decide_eq_false_iff_not]
      omega
  · have length := length_evicted held r
    exact ⟨rfl, rfl, by simp only [length, imp_self], by simp only [Queue.Settled, length, imp_self]⟩
  · exact ⟨rfl, rfl, id, id⟩

theorem QueueKept.of_record (s : State) (b : Body) : QueueKept s.queue (s.record b).queue :=
  .trans (u := { s.queue with nextSeq := s.queue.nextSeq + 1#16 }) ⟨rfl, rfl, id, id⟩ (.of_offer _ _)

theorem QueueKept.composes : Composes fun s t => QueueKept s.queue t.queue where
  refl _ := .refl _
  trans := .trans
  setStamp _ _ := .refl _
  setGen _ _ := .refl _
  setChannels _ _ := .refl _
  setOutputs _ _ := .refl _
  setSupervision _ _ := .refl _
  setActiveSet _ _ := .refl _
  setCommit _ _ := .refl _
  setFrames _ _ := .refl _
  setGauges _ _ := .refl _
  setLinks _ _ := .refl _
  setCracks _ _ := .refl _
  setStopLine _ _ := .refl _
  setZones _ _ := .refl _
  setTagCounter _ _ := .refl _
  setStopHold _ _ := .refl _
  addEvent _ _ := .refl _
  addEventAt _ _ _ := .refl _
  record := .of_record
  setAuto _ _ _ := ⟨rfl, rfl, id, id⟩

theorem thresholds?_range {on off : Byte} {a b : Nat} (h : thresholds? on off = some (a, b)) :
    1 ≤ a ∧ a ≤ Config.queueCapacity ∧ b < a := by
  unfold thresholds? at h
  split at h
  · cases h
  · next range =>
    simp only [not_or, Nat.not_lt, Option.some.injEq, Prod.mk.injEq] at range h
    omega

theorem Effect.queue_kept {p : PortId} {r : ReqName} {s t : State} (e : Effect p r s t) :
    (s.QueueBounded → t.QueueBounded) ∧ (s.ReadySettled → t.ReadySettled) := by
  obtain h | ⟨x, rfl⟩ | ⟨events, rfl⟩ | ⟨-, mask, rfl⟩ | ⟨-, rfl⟩ | ⟨held, rfl⟩ | ⟨_, _, a, b, n, range, rfl⟩ | rfl :=
    QueueKept.composes.effect e
  · exact ⟨h.bounded, h.settled⟩
  · exact ⟨id, id⟩
  · exact ⟨id, id⟩
  · exact ⟨id, id⟩
  · have kept := QueueKept.composes.restarted s
    have on : s.restarted.queue.on = Config.defaultOn := kept.on
    have off : s.restarted.queue.off = Config.defaultOff := kept.off
    rw [State.reinit_eq]
    refine ⟨fun h => kept.bounded h, fun _ => ⟨?_, fun h => ?_, fun h => ?_⟩⟩
    · simp only [State.restartEvents, State.setQueue_queue, on, off]
      decide
    · exact decide_eq_true (on ▸ h)
    · have h : s.restarted.queue.records.length ≤ Config.defaultOff := off ▸ h
      exact decide_eq_false (Nat.not_le.mpr (Nat.lt_of_le_of_lt h (by decide)))
  · have length : s.queue.records.tail.length ≤ s.queue.records.length := by simp
    refine ⟨fun h => Nat.le_trans length h, fun ⟨range, set, clear⟩ => ⟨range, fun h => ?_, fun h => ?_⟩⟩
    · have : ¬ s.queue.records.tail.length ≤ s.queue.off := Nat.not_le.mpr (Nat.lt_of_lt_of_le range.2.2 h)
      simp only [State.setQueue_queue, Queue.taken, set (Nat.le_trans h length), this, decide_false, Bool.not_false,
        Bool.and_self]
    · have h : s.queue.records.tail.length ≤ s.queue.off := h
      simp only [State.setQueue_queue, Queue.taken, h, decide_true, Bool.not_true, Bool.and_false]
  · obtain ⟨one, top, below⟩ := thresholds?_range range
    refine ⟨id, fun _ => ⟨⟨one, top, below⟩, fun h => if_pos h, fun h => ?_⟩⟩
    have h : s.queue.records.length ≤ b := h
    exact (if_neg (by omega)).trans (if_pos h)
  · exact ⟨id, id⟩

/-- Settles O55: a record made keeps the queue, and so does every move. -/
theorem stepsKeepTheQueue : Obligations.StepsKeepTheQueue := by
  have moved {s t : State} (m : Moves s t) :
      (s.QueueBounded → t.QueueBounded) ∧ (s.ReadySettled → t.ReadySettled) := by
    have kept {s t : State} (h : QueueKept s.queue t.queue) : (s.QueueBounded → t.QueueBounded) ∧ (s.ReadySettled → t.ReadySettled) :=
      ⟨h.bounded, h.settled⟩
    have reset : Queue.reset.Settled := by decide
    cases m with
    | ports | link => exact ⟨id, id⟩
    | reset => exact ⟨fun _ => Nat.zero_le _, fun _ => reset⟩
    | effect _ e => exact e.queue_kept
    | update => exact kept (QueueKept.composes.update s)
    | count _ a => exact kept (QueueKept.composes.referenceCount s a)
    | frame _ link bits =>
      exact kept (QueueKept.composes.trans (QueueKept.composes.setLinks _ _) (QueueKept.composes.strains.takeFrame _ link bits))
  exact fun s t run => ⟨step_keeps (fun _ _ => id) (fun m => (moved m).1) run, step_keeps (fun _ _ => id) (fun m => (moved m).2) run⟩

/-! ### Admission (R150, R152) -/

theorem Body.isSafety_iff (b : Body) : b.isSafety = true ↔ b.kindCode ∈ [0x02#8, 0x03#8, 0x04#8] := by
  cases b <;> simp [Body.isSafety, Body.kindCode]

theorem Record.isSnapshot_iff (r : Record) : r.isSnapshot = true ↔ r.body.kindCode = 0x01#8 := by
  cases h : r.body <;> simp [Record.isSnapshot, Body.kindCode, h]

theorem eraseP_append_cons {l m : List Record} {x : Record} (none : ∀ y ∈ l, y.isSnapshot = false) (snapshot : x.isSnapshot = true) :
    (l ++ x :: m).eraseP Record.isSnapshot = l ++ m := by
  rw [List.eraseP_append_right _ (by simpa using none), List.eraseP_cons_of_pos snapshot]

/-- Settles O52: the three outcomes of an offer. -/
theorem admissionIsByKind : Obligations.AdmissionIsByKind := by
  intro s b r t safety snapshot
  let q : Queue := { s.queue with nextSeq := s.queue.nextSeq + 1#16 }
  have made : t.queue = q.offer r := rfl
  refine ⟨rfl, ?_, fun room => ?_, fun full => ?_, fun before x after full safe records held none => ?_, fun full kept => ?_⟩
  · obtain ⟨-, offer⟩ | ⟨-, -, offer⟩ | ⟨-, offer⟩ := q.offer_cases r <;> rw [made, offer]
  · rw [made, q.offer_of_room room]
    exact ⟨rfl, rfl, by simp [q]⟩
  · have full : ¬ q.records.length < Config.queueCapacity := Nat.not_lt.mpr full
    obtain ⟨room, -⟩ | ⟨-, -, offer⟩ | ⟨-, offer⟩ := q.offer_cases r
    · exact absurd room full
    · rw [made, offer]; exact ⟨rfl, rfl⟩
    · rw [made, offer]; exact ⟨rfl, rfl⟩
  · have found : s.queue.records.any Record.isSnapshot = true :=
      List.any_eq_true.mpr ⟨x, by simp [records], x.isSnapshot_iff.mpr held⟩
    rw [made, q.offer_of_evicting (Nat.not_lt.mpr full) (b.isSafety_iff.mpr safe) found]
    have evicted : q.records.eraseP Record.isSnapshot = before ++ after := by
      rw [show q.records = before ++ x :: after from records]
      exact eraseP_append_cons (fun y mem => by simpa using mt y.isSnapshot_iff.mp (none y mem)) (x.isSnapshot_iff.mpr held)
    simp only [evicted]
  · have dropped : (r.body.isSafety && q.records.any Record.isSnapshot) = false := by
      rw [Bool.and_eq_false_iff]
      refine kept.imp (fun h => ?_) fun h => ?_
      · exact Bool.eq_false_iff.mpr (mt b.isSafety_iff.mp h)
      · exact List.any_eq_false.mpr fun y mem => mt y.isSnapshot_iff.mp (h y mem)
    rw [made, q.offer_of_dropped (Nat.not_lt.mpr full) dropped]

end Sys2Proof.Machine


/-! What a change of a zone's state, a removal, a raise and a clear do to the zone records (chapter 8), as functions of the one record
they change; and what one zone record keeps through them. -/
namespace Sys2Proof.Machine

/-! ### One zone record -/

/-- A zone record without an entry, after the return toward service (R137, R142). -/
def Zone.without (x : Zone) (hold : Bool) (e : Entry) : Zone :=
  let y := { x with entries := x.entries.eraseP fun y => y.tag == e.tag }
  { y with state := if y.hasProtective then y.state else y.state.afterRemoval hold }

/-- The list after a raise, the entry that took it, and whether it is a new source entry (R131, R133). -/
def Zone.takes (x : Zone) (r : Raise) (new spill : Entry) : List Entry × Entry × Bool :=
  match x.entries.find? fun e => e.isOf r.source with
  | some e => (x.entries.map fun y => if y.isOf r.source then y.repeated r else y, e.repeated r, false)
  | none =>
    if x.sourceEntries.length < Config.maxSourceEntries then (x.entries ++ [new], new, true)
    else
      match x.entries.find? fun e => e.kind == .overflow with
      | some e => (x.entries.map fun y => if y.kind = .overflow then y.folded r else y, e.folded r, false)
      | none => (x.entries ++ [spill], spill, false)

section
variable {x : Zone} {r : Raise} {new spill e : Entry}

theorem Zone.takes_of_found (found : (x.entries.find? fun e => e.isOf r.source) = some e) :
    x.takes r new spill = (x.entries.map fun y => if y.isOf r.source then y.repeated r else y, e.repeated r, false) := by
  simp only [Zone.takes, found]

theorem Zone.takes_of_room (unfound : (x.entries.find? fun e => e.isOf r.source) = none)
    (room : x.sourceEntries.length < Config.maxSourceEntries) : x.takes r new spill = (x.entries ++ [new], new, true) := by
  simp only [Zone.takes, unfound, if_pos room]

theorem Zone.takes_of_spilled (unfound : (x.entries.find? fun e => e.isOf r.source) = none)
    (full : ¬ x.sourceEntries.length < Config.maxSourceEntries) (spilled : (x.entries.find? fun e => e.kind == .overflow) = some e) :
    x.takes r new spill
      = (x.entries.map fun y => if y.kind = .overflow then y.folded r else y, e.folded r, false) := by
  simp only [Zone.takes, unfound, if_neg full, spilled]

theorem Zone.takes_of_full (unfound : (x.entries.find? fun e => e.isOf r.source) = none)
    (full : ¬ x.sourceEntries.length < Config.maxSourceEntries) (unspilled : (x.entries.find? fun e => e.kind == .overflow) = none) :
    x.takes r new spill = (x.entries ++ [spill], spill, false) := by
  simp only [Zone.takes, unfound, if_neg full, unspilled]

/-- A raise is a repeat on its source's entry, a new source entry, folded into the overflow entry, or the overflow entry itself. -/
theorem Zone.takes_cases (x : Zone) (r : Raise) (new spill : Entry) :
    (∃ e, (x.entries.find? fun e => e.isOf r.source) = some e
        ∧ x.takes r new spill = (x.entries.map fun y => if y.isOf r.source then y.repeated r else y, e.repeated r, false))
      ∨ ((x.entries.find? fun e => e.isOf r.source) = none ∧ x.sourceEntries.length < Config.maxSourceEntries
        ∧ x.takes r new spill = (x.entries ++ [new], new, true))
      ∨ ((x.entries.find? fun e => e.isOf r.source) = none ∧ ¬ x.sourceEntries.length < Config.maxSourceEntries
        ∧ ∃ e, (x.entries.find? fun e => e.kind == .overflow) = some e
          ∧ x.takes r new spill
            = (x.entries.map fun y => if y.kind = .overflow then y.folded r else y, e.folded r, false))
      ∨ ((x.entries.find? fun e => e.isOf r.source) = none ∧ ¬ x.sourceEntries.length < Config.maxSourceEntries
        ∧ (x.entries.find? fun e => e.kind == .overflow) = none ∧ x.takes r new spill = (x.entries ++ [spill], spill, false)) := by
  cases found : x.entries.find? fun e => e.isOf r.source with
  | some e => exact .inl ⟨e, rfl, Zone.takes_of_found found⟩
  | none =>
    by_cases room : x.sourceEntries.length < Config.maxSourceEntries
    · exact .inr (.inl ⟨rfl, room, Zone.takes_of_room found room⟩)
    · cases spilled : x.entries.find? fun e => e.kind == .overflow with
      | some e => exact .inr (.inr (.inl ⟨rfl, room, e, rfl, Zone.takes_of_spilled found room spilled⟩))
      | none => exact .inr (.inr (.inr ⟨rfl, room, rfl, Zone.takes_of_full found room spilled⟩))

end

/-- A zone record after its list has taken a raise and its state has escalated by the entry's action (R134). -/
def Zone.escalated (x : Zone) (r : Raise) (new spill : Entry) : Zone :=
  { x with
    entries := (x.takes r new spill).1
    state := x.state.escalate (x.takes r new spill).2.1.action.severity }

/-- A zone record after a raise; a new AUTO entry without a condition is removed at once (R131 to R135). -/
def Zone.raised (x : Zone) (hold : Bool) (r : Raise) (new spill : Entry) : Zone :=
  let taken := (x.takes r new spill).2
  if taken.2 && !taken.1.condition && taken.1.method == .auto then (x.escalated r new spill).without hold taken.1
  else x.escalated r new spill

/-- A zone record after the clear of a source (R137). -/
def Zone.clearedOf (x : Zone) (hold : Bool) (src : Source) : Zone :=
  (x.entries.filter fun e => e.isOf src && e.condition && e.method == .auto).foldl (fun y e => y.without hold e)
    { x with entries := x.entries.map fun e => if e.isOf src then e.cleared else e }

/-- A zone record after its part of the boundary notice (R139). -/
def Zone.boundaryCleared (x : Zone) (hold : Bool) : Zone :=
  (x.entries.filter Entry.boundaryDue).foldl (fun y e => y.without hold e) x

/-! ### What the operations do to the zone records -/

theorem State.updZone_zones_trans {s t u : State} {z : Fin 4} {f g : Zone → Zone} (h : t.zones = (s.updZone z f).zones)
    (k : u.zones = (t.updZone z g).zones) : u.zones = (s.updZone z fun x => g (f x)).zones := by
  rw [k, State.updZone, State.setZones_zones, h]
  simp [State.updZone]

theorem State.updZone_zones_self {s : State} {z : Fin 4} {f : Zone → Zone} (h : f s.zones[z] = s.zones[z]) :
    (s.updZone z f).zones = s.zones := by
  rw [State.updZone, State.setZones_zones, h]
  exact Vector.set_getElem_self _

@[simp] theorem State.syncPause_zones (s : State) : s.syncPause.zones = s.zones := by
  unfold State.syncPause
  split
  · split <;> rfl
  · split <;> rfl
  · rfl
  · rfl

theorem State.enterZone_zones (s : State) (z : Fin 4) (st : ZoneState) :
    (s.enterZone z st).zones = (s.updZone z fun x => { x with state := st }).zones := by
  cases st <;> rfl

theorem State.changeZone_zones (s : State) (z : Fin 4) (st : ZoneState) (d : Bool) :
    (s.changeZone z st d).zones = (s.updZone z fun x => { x with state := st }).zones := by
  unfold State.changeZone
  split
  · next same => exact (State.updZone_zones_self (by rw [← same])).symm
  · dsimp only
    split <;> simp [State.enterZone_zones]

theorem State.removeEntry_zones (s : State) (z : Fin 4) (e : Entry) (m : Method) (d : Bool) :
    (s.removeEntry z e m d).zones = (s.updZone z fun x => x.without s.stopHold e).zones := by
  have erased := (State.updZone_same s z fun x : Zone => { x with entries := x.entries.eraseP fun y => y.tag == e.tag })
  unfold State.removeEntry
  dsimp only
  rw [State.changeZone_zones]
  simp only [State.updZone, State.record_zones, State.setZones_zones, Fin.getElem_fin, Vector.getElem_set_self,
    Vector.set_set, Zone.without, State.setZones_stopHold]

theorem State.takeRaise_zones (s : State) (z : Fin 4) (r : Raise) :
    (s.takeRaise z r).1.zones
        = (s.updZone z fun x => { x with entries := (x.takes r (s.newEntry r) (s.newOverflow r)).1 }).zones
      ∧ (s.takeRaise z r).2 = (s.zones[z].takes r (s.newEntry r) (s.newOverflow r)).2 := by
  have taken {l : List Entry} {y : Entry × Bool} (h : s.zones[z].takes r (s.newEntry r) (s.newOverflow r) = (l, y)) :
      (s.updZone z fun x => { x with entries := l }).zones
        = (s.updZone z fun x => { x with entries := (x.takes r (s.newEntry r) (s.newOverflow r)).1 }).zones
      ∧ y = (s.zones[z].takes r (s.newEntry r) (s.newOverflow r)).2 := by
    simp only [State.updZone, State.setZones_zones, h, and_self]
  unfold State.takeRaise
  cases found : s.zones[z].entries.find? fun e => e.isOf r.source with
  | some e => exact taken (Zone.takes_of_found found)
  | none =>
    by_cases room : s.zones[z].sourceEntries.length < Config.maxSourceEntries
    · rw [if_pos room]; exact taken (Zone.takes_of_room found room)
    · rw [if_neg room]
      cases spilled : s.zones[z].entries.find? fun e => e.kind == .overflow with
      | some e => exact taken (Zone.takes_of_spilled found room spilled)
      | none => exact taken (Zone.takes_of_full found room spilled)

theorem State.raiseIn_zones (s : State) (z : Fin 4) (r : Raise) (d : Bool) :
    (s.raiseIn z r d).zones = (s.updZone z fun x => x.raised s.stopHold r (s.newEntry r) (s.newOverflow r)).zones := by
  obtain ⟨zones, taken⟩ := s.takeRaise_zones z r
  have hold : (s.takeRaise z r).1.stopHold = s.stopHold := (Keeps.of_takeRaise s z r).stopHold
  unfold State.raiseIn
  generalize s.takeRaise z r = x at zones taken hold ⊢
  obtain ⟨t, e, fresh⟩ := x
  dsimp only at zones taken hold
  have taken : (s.zones[z.val].takes r (s.newEntry r) (s.newOverflow r)).2 = (e, fresh) := taken.symm
  have changed (b : Body) (v : Event) : (((t.record b).addEvent v).changeZone z (t.zones[z].state.escalate e.action.severity) d).zones
        = (s.updZone z fun x => x.escalated r (s.newEntry r) (s.newOverflow r)).zones := by
    rw [State.changeZone_zones]
    simp only [State.updZone, State.addEvent_zones, State.record_zones, State.setZones_zones, zones, Zone.escalated,
      Fin.getElem_fin, Vector.getElem_set_self, Vector.set_set, taken]
  dsimp only
  split
  · next auto =>
    rw [State.removeEntry_zones, State.updZone_zones_trans (changed _ _) rfl]
    simp only [State.updZone, State.setZones_zones, Zone.raised, Fin.getElem_fin, taken, if_pos auto, State.changeZone_stopHold,
      State.addEvent_stopHold, State.record_stopHold, hold]
  · next kept =>
    rw [changed]
    simp only [State.updZone, State.setZones_zones, Zone.raised, Fin.getElem_fin, taken, if_neg kept]

/-- Removing entries of one zone in turn removes them of its record in turn. -/
theorem State.foldl_removeEntry_zones (l : List Entry) (s : State) (z : Fin 4) (m : Method) (d : Bool) :
    (l.foldl (fun s e => s.removeEntry z e m d) s).zones
      = (s.updZone z fun x => l.foldl (fun y e => y.without s.stopHold e) x).zones := by
  induction l generalizing s with
  | nil => exact (State.updZone_zones_self rfl).symm
  | cons e l ih =>
    rw [List.foldl_cons, ih, State.updZone_zones_trans (s.removeEntry_zones z e m d) rfl, State.removeEntry_stopHold]
    rfl

theorem State.clearIn_zones (s : State) (z : Fin 4) (x : Source) :
    (s.clearIn z x).zones = (s.updZone z fun y => y.clearedOf s.stopHold x).zones := by
  unfold State.clearIn
  dsimp only
  rw [State.foldl_removeEntry_zones]
  simp only [State.updZone, State.setZones_zones, Zone.clearedOf, Fin.getElem_fin, Vector.getElem_set_self, Vector.set_set,
    State.setZones_stopHold]

theorem State.boundaryRemovalIn_zones (s : State) (z : Fin 4) :
    (s.boundaryRemovalIn z).zones = (s.updZone z fun y => y.boundaryCleared s.stopHold).zones := by
  unfold State.boundaryRemovalIn
  rw [State.foldl_removeEntry_zones]
  rfl

end Sys2Proof.Machine


/-! How an invariant of the part is shown to be kept by every step: what must be shown of it, and that this is enough. -/
namespace Sys2Proof.Machine

/-- The channels and the timed seconds of every other source are as they were. -/
structure State.SameTimes (s t : State) : Prop where
  channels : t.channels = s.channels
  frames : ∀ f : Fin 4, t.frames[f].seconds = s.frames[f].seconds
  gauges : ∀ g : Fin 64, t.gauges[g].config = s.gauges[g].config
  cracks : ∀ i : Fin 16, t.cracks[i].config = s.cracks[i].config

namespace State.SameTimes
variable {s t u : State}

theorem of_eq (channels : t.channels = s.channels := by rfl) (frames : t.frames = s.frames := by rfl)
    (gauges : t.gauges = s.gauges := by rfl) (cracks : t.cracks = s.cracks := by rfl) : s.SameTimes t :=
  ⟨channels, fun _ => by rw [frames], fun _ => by rw [gauges], fun _ => by rw [cracks]⟩

theorem of_keeps (h : Keeps s t) : s.SameTimes t := of_eq h.channels h.frames h.gauges h.cracks

theorem updFrame (s : State) (i : Fin 4) {f : FrameRec → FrameRec} (turns : s.frames[i].Turns (f s.frames[i])) :
    s.SameTimes (s.updFrame i f) := by
  refine ⟨rfl, fun j => ?_, fun _ => rfl, fun _ => rfl⟩
  rw [State.updFrame_get]
  split
  · next same => rw [turns.seconds, same]
  · rfl

theorem updGauge (s : State) (g : Fin 64) (f : GaugeRun → GaugeRun) : s.SameTimes (s.updGauge g f) := by
  refine ⟨rfl, fun _ => rfl, fun j => ?_, fun _ => rfl⟩
  rw [State.updGauge_get]
  split
  · next same => rw [same]
  · rfl

theorem updCrack (s : State) (i : Fin 16) {f : Crack → Crack} (turns : s.cracks[i].Turns (f s.cracks[i])) :
    s.SameTimes (s.updCrack i f) := by
  refine ⟨rfl, fun _ => rfl, fun _ => rfl, fun j => ?_⟩
  rw [State.updCrack_get]
  split
  · next same => rw [turns.config, same]
  · rfl

theorem armCaptures (s : State) : s.SameTimes s.armCaptures := by
  refine ⟨rfl, fun _ => rfl, fun g => ?_, fun _ => rfl⟩
  simp only [State.armCaptures, State.setGauges_gauges, Fin.getElem_fin, Vector.getElem_map]
  split <;> rfl

theorem clearLatches (s : State) (inputs : Half) : s.SameTimes (s.clearLatches inputs) := by
  unfold State.clearLatches
  refine ⟨by rw [State.setCracks_channels], fun _ => by rw [State.setCracks_frames], fun _ => by rw [State.setCracks_gauges],
    fun i => ?_⟩
  simp only [State.setCracks_cracks, Fin.getElem_fin, Vector.getElem_ofFn]
  split <;> rfl

end State.SameTimes

/-- What a source asks in a raise it still asks after an operation of zone protection. -/
theorem State.Asks.of_keeps {s t : State} {r : Raise} (h : s.Asks r) (k : Keeps s t) : t.Asks r := by
  cases h with
  | channel c a active other => rw [← k.channels]; exact .channel c a active other
  | frame f a active other => rw [← k.frames]; exact .frame f a active other
  | gauge g a active other => rw [← k.gauges]; exact .gauge g a active other
  | crack i a active other => rw [← k.cracks]; exact .crack i a active other

theorem State.Asks.source_ne_stop {s : State} {r : Raise} (h : s.Asks r) : r.source ≠ .stop := by
  cases h <;> assumption

/-- The requests that store a configuration, before the clears they hand over. -/
inductive Stores : State → State → Prop
  | channel {s : State} {a : ChannelArgs} {c : Fin 8} {ch : Channel} (fields : channelOf? a = some (c, ch))
      (agrees : ch.conflicting = false) (stands : s.moveRefused c ch.zone = false) : Stores s (s.replaceChannel c ch)
  | frame {s : State} {a : FrameArgs} {f : Fin 4} {x : FrameFields} (fields : frameOf? a = some (f, x)) :
      Stores s (s.updFrame f x.stored)
  | gauge {s : State} {a : GaugeArgs} {g : Fin 64} {x : GaugeConfig} (fields : gaugeOf? a = some (g, x)) :
      Stores s (s.setGauges (s.gauges.set g { config := x, run := GaugeRun.started x }))
  | crack {s : State} {a : CrackArgs} {i : Fin 16} {c : Crack} (fields : crackOf? a = some (i, c.config)) :
      Stores s (s.setCracks (s.cracks.set i c))

theorem Stores.zones {s t : State} (e : Stores s t) : t.zones = s.zones ∧ t.stopLine = s.stopLine ∧ t.stopHold = s.stopHold := by
  cases e <;> exact ⟨rfl, rfl, rfl⟩

/-- The effects that move the generator, a zone record, a configuration or an output on a request. -/
inductive Own : State → State → Prop
  | reinit (s : State) : Own s s.reinit
  | writeBlock {s : State} {a : BlockArgs} {i : Fin 64} {b : Block} (block : block? a = some b)
      (free : ¬ (s.gen.executing ∧ s.gen.current = some i)) : Own s (s.writeBlock i b)
  | startIndex (i : Fin 64) (s : State) : Own s (s.setGen { s.gen with startIndex := i })
  | start {s : State} (resting : s.gen.executing = false) (normal : s.allNormal = true) : Own s s.startProgram
  | pause (s : State) : Own s s.afterPause
  | resume (s : State) : Own s s.afterResume
  | stop (m : StopMode) (s : State) : Own s (s.afterStop m)
  | advance (s : State) : Own s s.afterAdvance
  | store {s t : State} (e : Stores s t) : Own s t
  | replaceZone (z : Fin 4) (isolate : Bool) (u r : Half) (s : State) : Own s (s.replaceZone z isolate u r)
  | release {s : State} {z : Fin 4} {e : Entry} (mem : e ∈ s.zones[z].entries) :
      Own s (s.removeEntry z e .manual false)
  | reloadZone {s : State} {z : Fin 4} (unloaded : s.zones[z].state = .unloaded) (bare : s.zones[z].hasProtective = false) :
      Own s (s.changeZone z .reloading false)

/-- What has to be shown of a property of the generator, the channels, the sources' timed seconds, the outputs, the zones and the stop
line. -/
structure Invariant (P : State → Prop) : Prop where
  unread : ∀ {s t : State}, t.gen = s.gen → s.SameTimes t → t.outputs = s.outputs → t.zones = s.zones →
    t.stopLine = s.stopLine → t.stopHold = s.stopHold → P s → P t
  raise : ∀ {s r} own, s.Asks r → P s → P (s.raise r own)
  clear : ∀ s {x}, x ≠ .stop → P s → P (s.clear x)
  sampleStop : ∀ s l, P s → P (s.sampleStop l)
  clearTimerTick : ∀ s z tag, P s → P (s.clearTimerTick z tag)
  update : ∀ s, P s → P s.update
  reset : P State.reset
  own : ∀ {s t}, Own s t → P s → P t

namespace Invariant
variable {P : State → Prop} (h : Invariant P)
include h

theorem still {s t : State} (times : s.SameTimes t := by exact .of_eq) (gen : t.gen = s.gen := by rfl)
    (outputs : t.outputs = s.outputs := by rfl) (zones : t.zones = s.zones := by rfl)
    (stopLine : t.stopLine = s.stopLine := by rfl) (stopHold : t.stopHold = s.stopHold := by rfl) : P s → P t :=
  fun hs => h.unread gen times outputs zones stopLine stopHold hs

theorem hands : Hands fun s t => P s → P t where
  refl _ := id
  trans h k := k ∘ h
  raise own asks := h.raise own asks
  clear s _ other := h.clear s other

theorem watches : Watches fun s t => P s → P t where
  toHands := h.hands
  updCrack s i _ turns := h.still (.updCrack s i turns)

theorem exchanges : Exchanges fun s t => P s → P t where
  toHands := h.hands
  updFrame s i _ turns := h.still (.updFrame s i turns)
  addEventAt _ _ _ := h.still
  updSupervision _ _ _ _ := h.still

theorem strains : Strains fun s t => P s → P t where
  toHands := h.hands
  updGauge s g f _ := h.still (.updGauge s g f)

theorem sampleInputs (s : State) (ck : BitVec 16) (l : Level) (hs : P s) : P (s.sampleInputs ck l) :=
  h.sampleStop _ l (h.hands.foldl (fun s i => h.watches.sampleCrack s i (crackLevel ck i)) (List.finRange 16) s hs)

theorem count (s : State) (a : CountArgs) : P s → P (s.referenceCount a) := by
  have act (t : State) (x : CountAct) : P t → P (t.countAct a x) := by
    cases x
    case sample => exact h.sampleInputs _ _ _
    case watchdog => exact h.exchanges.watchdogTick _ _
    case stale => exact h.strains.staleTick _ _
    case clearTimer => exact h.clearTimerTick _ _ _
  exact h.hands.foldl act _ _ ∘ h.still (s := s)

theorem effect {p : PortId} {r : ReqName} {s t : State} (e : Effect p r s t) : P s → P t := by
  have cracked (x : Vector Crack 16) (times : s.SameTimes (s.setCracks x)) : P s → P (s.setCracks x) := h.still times
  cases e
  case same => exact id
  case clearLatches inputs => exact cracked _ (.clearLatches s inputs)
  case armCaptures => exact h.still (.armCaptures s)
  case clearEvents | replaceMask | stage | arm | disarm | takeRecord | snapshot | resumeAuto | configure | readQueue =>
    exact h.still
  case exchange => exact h.exchanges.exchanged _ _ _ _ _ _
  case trip => exact h.exchanges.tripFrame _ _ _
  case replaceFrame fields => exact h.exchanges.replaceFrame (h.own (.store (.frame fields)))
  case replaceGauge fields => exact h.strains.replaceGauge (h.own (.store (.gauge fields)))
  case replaceCrack fields => exact h.watches.replaceCrack fun c config _ => h.own (.store (.crack (by rw [config]; exact fields)))
  case reinit => exact h.own (.reinit _)
  case writeBlock block free => exact h.own (.writeBlock block free)
  case startIndex => exact h.own (.startIndex _ _)
  case start resting normal => exact h.own (.start resting normal)
  case pause => exact h.own (.pause _)
  case resume => exact h.own (.resume _)
  case stop => exact h.own (.stop _ _)
  case advance => exact h.own (.advance _)
  case replaceChannel fields agrees stands => exact h.own (.store (.channel fields agrees stands))
  case replaceZone => exact h.own (.replaceZone _ _ _ _ _)
  case release clear mem => exact h.own (.release mem)
  case reloadZone unloaded bare => exact h.own (.reloadZone unloaded bare)

/-- Every step keeps the property. -/
theorem step {s t : State} (run : Machine.step s = .next t) : P s → P t := by
  refine step_keeps (P := P) (fun s x => h.still (s := s)) (fun {s t} m => ?_) run
  have ported (u : State) (x : Vector Port 6) (l : List Instr) : P u → P ((u.setPorts x).setPending l) := h.still
  cases m with
  | ports | link => exact h.still
  | reset => exact fun _ => ported _ _ _ h.reset
  | @effect _ _ _ u _ e => exact fun hs => (h.still : P u → _) (h.effect e hs)
  | update => exact h.update _
  | count _ a => exact h.count _ a
  | frame _ link bits =>
    exact fun hs => h.strains.takeFrame _ link bits ((h.still : P _ → _) hs)

end Invariant

/-! ### Properties of the zone records and the stop line alone -/

/-- What has to be shown of a property of the zone records, the stop line and the sources' timed seconds, operation by operation. -/
structure ListInvariant (P : State → Prop) : Prop where
  unread : ∀ {s t : State}, s.SameTimes t → t.zones = s.zones → t.stopLine = s.stopLine → t.stopHold = s.stopHold → P s → P t
  raiseIn : ∀ s z {r : Raise} d, s.Asks r → P s → P (s.raiseIn z r d)
  clearIn : ∀ s z {x : Source}, x ≠ .stop → P s → P (s.clearIn z x)
  removeEntry : ∀ s z e m d, P s → P (s.removeEntry z e m d)
  unload : ∀ s (z : Fin 4) d, s.zones[z].state = .unloading → P s → P (s.changeZone z .unloaded d)
  resume : ∀ s (z : Fin 4) d, s.zones[z].state = .reloading → P s → P (s.changeZone z .normal d)
  reload : ∀ s (z : Fin 4) d, s.zones[z].state = .unloaded → s.zones[z].hasProtective = false → P s →
    P (s.changeZone z .reloading d)
  configure : ∀ s (z : Fin 4) i u r, P s → P (s.updZone z fun x => { x with isolate := i, unloadRate := u, reloadRate := r })
  tick : ∀ s (z : Fin 4) {tag e}, s.entry? z tag = some e → e.due = false → e.timing = true → P s → P (s.updZone z fun x =>
    { x with entries := x.entries.map fun y => if y.tag = tag then { y with timer := y.timer - 1#32 } else y })
  sampleStop : ∀ s l, P s → P (s.sampleStop l)
  stored : ∀ {s t : State}, Stores s t → P s → P t
  reset : P State.reset
  reinit : ∀ s : State, P s.reinit

namespace ListInvariant
variable {P : State → Prop} (h : ListInvariant P)
include h

theorem still {s t : State} (times : s.SameTimes t := by exact .of_eq) (zones : t.zones = s.zones := by rfl)
    (stopLine : t.stopLine = s.stopLine := by rfl) (stopHold : t.stopHold = s.stopHold := by rfl) : P s → P t :=
  h.unread times zones stopLine stopHold

theorem generates : Generates fun s t => P s → P t where
  refl _ := id
  trans h k := k ∘ h
  setGen _ _ := h.still
  addEvent _ _ := h.still
  record _ _ := h.still
  setActiveSet _ _ := h.still
  setCommit _ _ := h.still

theorem raise {s : State} {r : Raise} (own : List (Fin 4)) (d : Bool) (asks : s.Asks r) (hs : P s) : P (s.raise r own d) := by
  unfold State.raise
  generalize placement r.action own = l
  induction l generalizing s with
  | nil => exact hs
  | cons z l ih => exact ih (asks.of_keeps (.of_raiseIn s z r d)) (h.raiseIn s z d asks hs)

theorem strains : Strains fun s t => P s → P t where
  refl _ := id
  trans h k := k ∘ h
  raise own asks := h.raise own _ asks
  clear s _ other := h.generates.foldl (fun _ _ => h.clearIn _ _ other) _ _
  updGauge s g f _ := h.still (.updGauge s g f)

theorem arrive (s : State) (d : Int) : P s → P (s.arrive d) := by
  refine h.generates.foldl (fun s z => ?_) _ _
  unfold State.arriveIn
  split
  · next ready => exact h.unload _ _ _ ready.1
  · split
    · next ready => exact h.resume _ _ _ ready.1
    · exact id

theorem boundaryNotice (s : State) : P s → P s.boundaryNotice := by
  have removals : P s → P s.boundaryRemovals :=
    h.generates.foldl (fun _ _ => h.generates.foldl (fun _ _ => h.removeEntry _ _ _ _ _) _ _) _ _
  have closed (s : State) : P s → P s.closeCycles :=
    h.strains.closeCycles (fun own asks => h.raise own _ asks) s
  have snapped (s : State) : P s → P s.autoSnapshot := by
    unfold State.autoSnapshot
    split
    · exact id
    · split
      · exact id
      · split <;> exact h.still
  exact h.generates.syncPause _ ∘ snapped _ ∘ closed _ ∘ removals

theorem update (s : State) : P s → P s.update := by
  have reported : P s → P (s.updateSetpoints.arrive s.updateDemand) :=
    h.arrive _ _ ∘ h.still ∘ h.generates.updateGenerator s
  unfold State.update
  dsimp only
  split
  · exact h.boundaryNotice _ ∘ reported
  · exact reported

theorem clearTimerTick (s : State) (z : Fin 4) (tag : Half) : P s → P (s.clearTimerTick z tag) := by
  unfold State.clearTimerTick
  split
  · exact id
  · next found =>
    split
    · exact h.removeEntry _ _ _ _ _
    · next left =>
      split
      · next timing => exact h.tick _ _ found (by simpa using left) timing
      · exact id

theorem own {s t : State} (e : Own s t) : P s → P t := by
  cases e
  case reinit => exact fun _ => h.reinit s
  case writeBlock | startIndex => exact h.still
  case store e => exact h.stored e
  case start => exact h.generates.startProgram _
  case pause => exact h.generates.afterPause _
  case resume => exact h.generates.afterResume _
  case stop => exact h.generates.afterStop _ _
  case advance => exact h.generates.afterAdvance _
  case release => exact h.removeEntry _ _ _ _ _
  case reloadZone unloaded bare => exact h.reload _ _ _ unloaded bare
  case replaceZone =>
    unfold State.replaceZone
    dsimp only
    split
    · exact h.configure _ _ _ _ _
    · exact h.generates.syncPause _ ∘ h.configure _ _ _ _ _

theorem invariant : Invariant P where
  unread _ times _ := h.unread times
  raise := h.strains.raise
  clear := h.strains.clear
  sampleStop := h.sampleStop
  clearTimerTick := h.clearTimerTick
  update := h.update
  reset := h.reset
  own := h.own

end ListInvariant

end Sys2Proof.Machine


/-! The zones as protected as their entries ask, and DUMPED while STOPn is qualified low (sections 8.3, 8.6 and 7.6): what one zone record
keeps through a raise, a removal and a clear, and from it what every step keeps. -/
namespace Sys2Proof.Machine

/-! ### Escalation (R130, R134) -/

/-- A zone state is at least as protected as a severity asks. -/
def ZoneState.Guards (st : ZoneState) (n : Nat) : Prop :=
  (1 ≤ n → st ≠ .normal ∧ st ≠ .reloading) ∧ (2 ≤ n → st ≠ .held) ∧ (3 ≤ n → st = .dumped)

theorem ZoneState.Guards.of_le {st : ZoneState} {m n : Nat} (h : st.Guards n) (le : m ≤ n) : st.Guards m :=
  ⟨fun a => h.1 (Nat.le_trans a le), fun a => h.2.1 (Nat.le_trans a le), fun a => h.2.2 (Nat.le_trans a le)⟩

theorem ZoneState.guards_zero (st : ZoneState) : st.Guards 0 := by simp [ZoneState.Guards]

theorem ZoneState.guards_dumped (n : Nat) : ZoneState.dumped.Guards n := by simp [ZoneState.Guards]

@[simp] theorem ZoneState.escalate_dumped (n : Nat) : ZoneState.dumped.escalate n = .dumped := by
  match n with
  | 0 | 1 | 2 | _ + 3 => rfl

/-- An escalation by a severity of three or more enters DUMPED. -/
theorem ZoneState.escalate_of_three_le (st : ZoneState) (n : Nat) : st.escalate (n + 3) = .dumped := by
  cases st <;> rfl

theorem ZoneState.guards_escalate (st : ZoneState) (n : Nat) : (st.escalate n).Guards n := by
  match n with
  | 0 => exact guards_zero _
  | 1 | 2 => cases st <;> simp [ZoneState.Guards, ZoneState.escalate]
  | n + 3 => rw [escalate_of_three_le]; exact guards_dumped _

/-- An escalation takes no protection away. -/
theorem ZoneState.Guards.escalate {st : ZoneState} {m : Nat} (h : st.Guards m) (n : Nat) : (st.escalate n).Guards m := by
  match n with
  | 0 => exact h
  | 1 | 2 => cases st <;> simp_all [ZoneState.Guards, ZoneState.escalate]
  | n + 3 => rw [escalate_of_three_le]; exact guards_dumped _

/-! ### The entries of a list -/

theorem Entry.repeated_isOf (e : Entry) (r : Raise) (x : Source) : (e.repeated r).isOf x = e.isOf x := rfl

theorem Entry.isOf_of_overflow {e : Entry} (h : e.kind = .overflow) (x : Source) : e.isOf x = false := by
  simp [Entry.isOf, h]

theorem Entry.severity_folded (e : Entry) (r : Raise) :
    (e.folded r).action.severity = max e.action.severity r.action.severity := by
  simp only [Entry.folded]
  split <;> omega

/-- What holds of every entry of a list, of a repeat and of a folding of one, and of the two new entries, holds after the list has
taken a raise. -/
theorem Zone.takes_forall {x : Zone} {r : Raise} {new spill : Entry} {Q : Entry → Prop} (old : ∀ e ∈ x.entries, Q e)
    (repeated : ∀ e, Q e → Q (e.repeated r)) (folded : ∀ e, e.kind = .overflow → Q e → Q (e.folded r)) (first : Q new)
    (last : Q spill) : ∀ e ∈ (x.takes r new spill).1, Q e := by
  obtain ⟨e, -, h⟩ | ⟨-, -, h⟩ | ⟨-, -, e, -, h⟩ | ⟨-, -, -, h⟩ := x.takes_cases r new spill <;> rw [h]
  · simp only [List.mem_map, forall_exists_index, and_imp, forall_apply_eq_imp_iff₂]
    intro y mem
    split
    · exact repeated y (old y mem)
    · exact old y mem
  · simpa [or_imp, forall_and] using ⟨old, first⟩
  · simp only [List.mem_map, forall_exists_index, and_imp, forall_apply_eq_imp_iff₂]
    intro y mem
    split
    · next spilled => exact folded y spilled (old y mem)
    · exact old y mem
  · simpa [or_imp, forall_and] using ⟨old, last⟩

theorem Zone.mem_without {x : Zone} {hold : Bool} {e y : Entry} (h : y ∈ (x.without hold e).entries) : y ∈ x.entries :=
  List.mem_of_mem_eraseP h

/-- A removal that moves the state leaves no protective entry. -/
theorem Zone.without_state (x : Zone) (hold : Bool) (e : Entry) :
    (x.without hold e).state = x.state
      ∨ (x.without hold e).hasProtective = false ∧ (x.without hold e).state = x.state.afterRemoval hold := by
  simp only [Zone.without]
  split
  · exact .inl rfl
  · next bare => exact .inr ⟨by simpa [Zone.hasProtective] using bare, rfl⟩

theorem Zone.severity_of_bare {x : Zone} (bare : x.hasProtective = false) {e : Entry} (mem : e ∈ x.entries) :
    e.action.severity = 0 := by
  simpa [Entry.protective] using List.any_eq_false.mp bare e mem

/-! ### Properties of each zone record -/

/-- What has to be shown of a property of one zone record under a STOP hold. -/
structure ZoneInvariant (Q : Bool → Zone → Prop) : Prop where
  without : ∀ {hold x} e, Q hold x → Q hold (x.without hold e)
  escalated : ∀ {hold x r new spill}, r.source ≠ .stop → new.source = r.source → new.action = r.action → spill.kind = .overflow →
    spill.action = r.action → Q hold x → Q hold (x.escalated r new spill)
  mapped : ∀ {hold x} {f : Entry → Entry}, (∀ e, (f e).kind = e.kind ∧ (f e).source = e.source ∧ (f e).action = e.action) →
    Q hold x → Q hold { x with entries := x.entries.map f }
  unload : ∀ {hold x}, x.state = .unloading → Q hold x → Q hold { x with state := .unloaded }
  resume : ∀ {hold x}, x.state = .reloading → Q hold x → Q hold { x with state := .normal }
  reload : ∀ {hold x}, x.state = .unloaded → x.hasProtective = false → Q hold x → Q hold { x with state := .reloading }
  configure : ∀ {hold x} i u r, Q hold x → Q hold { x with isolate := i, unloadRate := u, reloadRate := r }

namespace ZoneInvariant
variable {Q : Bool → Zone → Prop} (h : ZoneInvariant Q)
include h

theorem raised {hold : Bool} {x : Zone} {r : Raise} {new spill : Entry} (other : r.source ≠ .stop) (source : new.source = r.source)
    (action : new.action = r.action) (kind : spill.kind = .overflow) (spilled : spill.action = r.action) (hx : Q hold x) :
    Q hold (x.raised hold r new spill) := by
  have escalated := h.escalated other source action kind spilled hx
  unfold Zone.raised
  dsimp only
  split
  · exact h.without _ escalated
  · exact escalated

theorem foldl_without {hold : Bool} (l : List Entry) {x : Zone} (hx : Q hold x) :
    Q hold (l.foldl (fun y e => y.without hold e) x) := by
  induction l generalizing x with
  | nil => exact hx
  | cons e l ih => exact ih (h.without e hx)

theorem clearedOf {hold : Bool} {x : Zone} (src : Source) (hx : Q hold x) : Q hold (x.clearedOf hold src) := by
  refine h.foldl_without _ (h.mapped (fun e => ?_) hx)
  split <;> exact ⟨rfl, rfl, rfl⟩

end ZoneInvariant

/-- The property holds of every zone record. -/
def State.ZonesAll (Q : Bool → Zone → Prop) (s : State) : Prop := ∀ z : Fin 4, Q s.stopHold s.zones[z]

theorem State.ZonesAll.of_updZone {Q : Bool → Zone → Prop} {s t : State} {z : Fin 4} {f : Zone → Zone} (hs : s.ZonesAll Q)
    (zones : t.zones = (s.updZone z f).zones) (hold : t.stopHold = s.stopHold) (hf : Q s.stopHold (f s.zones[z])) :
    t.ZonesAll Q := by
  intro w
  rw [zones, hold, State.updZone_get]
  split
  · exact hf
  · exact hs w

/-! ### The zone records REINIT leaves (R15) -/

theorem State.restartZone_zones (s : State) (z : Fin 4) :
    (s.restartZone z).zones
      = (s.updZone z fun x => { x with entries := x.entries ++ [restartEntry z s.nextTag s.stamp s.gen.cycles] }).zones := rfl

theorem State.restartRecords_zones (s : State) (z : Fin 4) (x : ZoneState) : (s.restartRecords z x).zones = s.zones := by
  unfold State.restartRecords
  dsimp only
  split <;> rfl

theorem State.foldl_restartRecords_zones (f : Fin 4 → ZoneState) (l : List (Fin 4)) (t : State) :
    (l.foldl (fun t z => t.restartRecords z (f z)) t).zones = t.zones := by
  induction l generalizing t with
  | nil => rfl
  | cons z l ih => rw [List.foldl_cons, ih, State.restartRecords_zones]

theorem State.reinit_zones_eq (s : State) : s.reinit.zones = (allZones.foldl State.restartZone s.defaults).zones :=
  State.foldl_restartRecords_zones (fun z => s.zones[z].state) _ _

/-- REINIT leaves each zone DUMPED with its RESTART entry alone. -/
theorem State.reinit_zones (s : State) (z : Fin 4) :
    ∃ tag, s.reinit.zones[z] = Zone.dumpedWith [restartEntry z tag s.stamp s.gen.cycles] := by
  have bare (w : Fin 4) : s.defaults.zones[w] = Zone.dumpedWith [] := by
    simp [State.defaults]
  rw [State.reinit_zones_eq]
  simp only [allZones, List.foldl_cons, List.foldl_nil, State.restartZone_zones, State.updZone_get]
  match z with
  | 0 | 1 | 2 | 3 => exact ⟨_, by simp [bare]; rfl⟩

/-- REINIT's steps 3 to 5 write the zones, the tag counter, the queue and the ports. -/
theorem State.restarted_eq (s : State) :
    s.restarted = { s.defaults with
      zones := s.restarted.zones, tagCounter := s.restarted.tagCounter, queue := s.restarted.queue } := by
  have chains : Chains fun s t : State =>
      t = { s with zones := t.zones, tagCounter := t.tagCounter, queue := t.queue } :=
    ⟨fun _ => rfl, fun h k => by rw [k, h]⟩
  refine chains.trans (chains.foldl (fun s z => rfl) allZones s.defaults) (chains.foldl (fun s z => ?_) allZones _)
  unfold State.restartRecords
  dsimp only
  split <;> rfl

theorem State.reinit_stopHold (s : State) : s.reinit.stopHold = false := by
  rw [State.reinit_eq, State.restarted_eq]; rfl

theorem State.reinit_stopLine (s : State) : s.reinit.stopLine = StopLine.reset := by
  rw [State.reinit_eq, State.restarted_eq]; rfl

/-! ### From one zone record to the part -/

/-- The conditions on a zone property, with what a sample of STOPn does to it, make an invariant of the zones. -/
theorem ZoneInvariant.lists {Q : Bool → Zone → Prop} (h : ZoneInvariant Q) {L : StopLine → Bool → Prop}
    (sampleStop : ∀ (s : State) (l : Level), L s.stopLine s.stopHold ∧ s.ZonesAll Q →
      L (s.sampleStop l).stopLine (s.sampleStop l).stopHold ∧ (s.sampleStop l).ZonesAll Q)
    (line : L StopLine.reset false)
    (restarted : ∀ (z : Fin 4) tag stamp cycles, Q false (Zone.dumpedWith [restartEntry z tag stamp cycles])) :
    ListInvariant fun s => L s.stopLine s.stopHold ∧ s.ZonesAll Q where
  unread _ zones stopLine stopHold hs := by
    simpa only [State.ZonesAll, zones, stopLine, stopHold] using hs
  raiseIn s z r d asks hs := by
    have kept := Keeps.of_raiseIn s z r d
    refine ⟨by rw [kept.stopLine, kept.stopHold]; exact hs.1, hs.2.of_updZone (s.raiseIn_zones z r d) kept.stopHold ?_⟩
    exact h.raised asks.source_ne_stop rfl rfl rfl rfl (hs.2 z)
  clearIn s z x _ hs := by
    have kept := Keeps.of_clearIn s z x
    refine ⟨by rw [kept.stopLine, kept.stopHold]; exact hs.1, hs.2.of_updZone (s.clearIn_zones z x) kept.stopHold ?_⟩
    exact h.clearedOf x (hs.2 z)
  removeEntry s z e m d hs := by
    have kept := Keeps.of_removeEntry s z e m d
    refine ⟨by rw [kept.stopLine, kept.stopHold]; exact hs.1, hs.2.of_updZone (s.removeEntry_zones z e m d) kept.stopHold ?_⟩
    exact h.without e (hs.2 z)
  unload s z d ready hs := by
    have kept := Keeps.of_changeZone s z .unloaded d
    refine ⟨by rw [kept.stopLine, kept.stopHold]; exact hs.1, hs.2.of_updZone (s.changeZone_zones z _ d) kept.stopHold ?_⟩
    exact h.unload ready (hs.2 z)
  resume s z d ready hs := by
    have kept := Keeps.of_changeZone s z .normal d
    refine ⟨by rw [kept.stopLine, kept.stopHold]; exact hs.1, hs.2.of_updZone (s.changeZone_zones z _ d) kept.stopHold ?_⟩
    exact h.resume ready (hs.2 z)
  reload s z d unloaded bare hs := by
    have kept := Keeps.of_changeZone s z .reloading d
    refine ⟨by rw [kept.stopLine, kept.stopHold]; exact hs.1, hs.2.of_updZone (s.changeZone_zones z _ d) kept.stopHold ?_⟩
    exact h.reload unloaded bare (hs.2 z)
  configure s z i u r hs := ⟨hs.1, hs.2.of_updZone rfl rfl (h.configure i u r (hs.2 z))⟩
  tick s z tag _ _ _ _ hs := by
    refine ⟨hs.1, hs.2.of_updZone rfl rfl (h.mapped (fun e => ?_) (hs.2 z))⟩
    split <;> exact ⟨rfl, rfl, rfl⟩
  sampleStop := sampleStop
  stored e hs := by
    obtain ⟨zones, stopLine, stopHold⟩ := e.zones
    simpa only [State.ZonesAll, zones, stopLine, stopHold] using hs
  reset := by
    refine ⟨line, fun z => ?_⟩
    have reset : State.reset.zones[z] = Zone.reset z := Vector.getElem_ofFn _
    rw [reset]
    exact restarted _ _ _ _
  reinit s := by
    refine ⟨by rw [s.reinit_stopLine, s.reinit_stopHold]; exact line, fun z => ?_⟩
    obtain ⟨tag, zone⟩ := s.reinit_zones z
    rw [zone, s.reinit_stopHold]
    exact restarted _ _ _ _

/-! ### Zones as protected as their entries ask -/

/-- A zone record stands at least as protected as each entry of its list asks. -/
def Zone.Protected (x : Zone) : Prop := ∀ e ∈ x.entries, x.state.Guards e.action.severity

theorem Zone.Protected.of_guards {x y : Zone} (hx : x.Protected) (entries : y.entries = x.entries)
    (state : ∀ n, x.state.Guards n → y.state.Guards n) : y.Protected := by
  intro e mem
  exact state _ (hx e (entries ▸ mem))

theorem Zone.Protected.of_bare {x : Zone} (bare : x.hasProtective = false) : x.Protected := by
  intro e mem
  rw [Zone.severity_of_bare bare mem]
  exact ZoneState.guards_zero _

theorem Zone.Protected.without {x : Zone} (hx : x.Protected) (hold : Bool) (e : Entry) : (x.without hold e).Protected := by
  obtain state | ⟨bare, -⟩ := x.without_state hold e
  · intro y mem
    rw [state]
    exact hx y (Zone.mem_without mem)
  · exact .of_bare bare

theorem Zone.Protected.escalated {x : Zone} (hx : x.Protected) {r : Raise} {new spill : Entry} (action : new.action = r.action)
    (spilled : spill.action = r.action) : (x.escalated r new spill).Protected := by
  let n := (x.takes r new spill).2.1.action.severity
  have taken : n = (x.takes r new spill).2.1.action.severity := rfl
  have old : ∀ e ∈ x.entries, (x.state.escalate n).Guards e.action.severity := fun e mem => (hx e mem).escalate n
  have own : (x.state.escalate n).Guards n := x.state.guards_escalate n
  have covers : r.action.severity ≤ n ∨ (x.takes r new spill).1 = x.entries.map fun y => if y.isOf r.source then y.repeated r else y := by
    obtain ⟨e, -, h⟩ | ⟨-, -, h⟩ | ⟨-, -, e, -, h⟩ | ⟨-, -, -, h⟩ := x.takes_cases r new spill <;> rw [taken, h]
    · exact .inr rfl
    · exact .inl (Nat.le_of_eq (by rw [action]))
    · exact .inl (by rw [Entry.severity_folded]; omega)
    · exact .inl (Nat.le_of_eq (by rw [spilled]))
  obtain covers | repeats := covers
  · have raised : (x.state.escalate n).Guards r.action.severity := own.of_le covers
    refine Zone.takes_forall (Q := fun e => (x.state.escalate n).Guards e.action.severity) old (fun _ => id) (fun e _ he => ?_)
      (by rwa [action]) (by rwa [spilled])
    rw [Entry.severity_folded]
    obtain h | h := Nat.le_total e.action.severity r.action.severity
    · rwa [Nat.max_eq_right h]
    · rwa [Nat.max_eq_left h]
  · intro e mem
    simp only [Zone.escalated, repeats, List.mem_map] at mem
    obtain ⟨y, mem, rfl⟩ := mem
    split
    · exact old y mem
    · exact old y mem

theorem Zone.Protected.invariant : ZoneInvariant fun _ => Zone.Protected where
  without e hx := hx.without _ e
  escalated _ _ action _ spilled hx := hx.escalated action spilled
  mapped same hx := by
    simp only [Zone.Protected, List.mem_map, forall_exists_index, and_imp, forall_apply_eq_imp_iff₂]
    intro e mem
    rw [(same e).2.2]
    exact hx e mem
  unload state hx := hx.of_guards rfl fun n h => by simp_all [ZoneState.Guards]
  resume state hx := hx.of_guards rfl fun n h => by
    have zero : n = 0 := by
      refine Classical.byContradiction fun positive => ?_
      exact (h.1 (by omega)).2 state
    rw [zero]
    exact ZoneState.guards_zero _
  reload _ bare _ := .of_bare bare
  configure _ _ _ hx := hx.of_guards rfl fun _ => id

/-! ### A sample of STOPn (R123, R143) -/

/-- The qualifier that one sample leaves believes the level it did. -/
@[simp] theorem Qualifier.sampled_level (q : Qualifier) (l : Level) : (q.sampled l).level = q.level := by
  unfold Qualifier.sampled
  split <;> rfl

/-- The line's record after a sample (R116, R123). -/
def StopLine.after (x : StopLine) (l : Level) : StopLine :=
  if (x.qualifier.sampled l).qualifies Config.stopSamples l then
    { qualifier := { x.qualifier.sampled l with level := some l }, condition := l == .low }
  else { x with qualifier := x.qualifier.sampled l }

/-- A sample of STOPn replaces the line's record, and a qualification at LOW raises STOP, at HIGH from LOW clears it. -/
theorem State.sampleStop_cases (s : State) (l : Level) :
    (s.sampleStop l = s.setStopLine (s.stopLine.after l)
        ∧ ((s.stopLine.after l).qualifier.level = s.stopLine.qualifier.level
            ∧ (s.stopLine.after l).condition = s.stopLine.condition
          ∨ (s.stopLine.after l).qualifier.level = some .high ∧ (s.stopLine.after l).condition = false
            ∧ s.stopLine.qualifier.level ≠ some .low))
      ∨ (s.sampleStop l = (s.setStopLine (s.stopLine.after l)).raiseStop
        ∧ (s.stopLine.after l).qualifier.level = some .low ∧ (s.stopLine.after l).condition = true)
      ∨ (s.sampleStop l = (s.setStopLine (s.stopLine.after l)).clearStop
        ∧ (s.stopLine.after l).qualifier.level = some .high ∧ (s.stopLine.after l).condition = false) := by
  by_cases qualifies : (s.stopLine.qualifier.sampled l).qualifies Config.stopSamples l = true
  · have after : s.stopLine.after l
        = { qualifier := { s.stopLine.qualifier.sampled l with level := some l }, condition := l == .low } := if_pos qualifies
    rw [after]
    unfold State.sampleStop
    dsimp only
    rw [if_pos qualifies]
    cases l with
    | low => exact .inr (.inl ⟨rfl, rfl, rfl⟩)
    | high =>
      by_cases low : s.stopLine.qualifier.level = some .low
      · exact .inr (.inr ⟨if_pos low, rfl, rfl⟩)
      · exact .inl ⟨if_neg low, .inr ⟨rfl, rfl, low⟩⟩
  · have after : s.stopLine.after l = { s.stopLine with qualifier := s.stopLine.qualifier.sampled l } := if_neg qualifies
    refine .inl ⟨?_, .inl ⟨by simp [after], by rw [after]⟩⟩
    rw [after]
    exact if_neg qualifies

theorem State.clear_zonesAll {Q : Bool → Zone → Prop} (h : ZoneInvariant Q) {s : State} (x : Source) (hs : s.ZonesAll Q) :
    (s.clear x).ZonesAll Q := by
  have chains : Chains fun s t : State => s.ZonesAll Q → t.ZonesAll Q := ⟨fun _ => id, fun h k => k ∘ h⟩
  refine chains.foldl (fun s z hs => ?_) allZones s hs
  exact hs.of_updZone (s.clearIn_zones z x) (Keeps.of_clearIn s z x).stopHold (h.clearedOf x (hs z))

theorem State.ZonesAll.setStopHold {Q : Bool → Zone → Prop} {s : State} {b : Bool} (hs : s.ZonesAll Q)
    (h : ∀ x, Q s.stopHold x → Q b x) : (s.setStopHold b).ZonesAll Q := fun z => h _ (hs z)

/-- A property that bare zones have whatever their state survives the end of a STOP. -/
theorem State.clearStop_zonesAll {Q : Bool → Zone → Prop} (h : ZoneInvariant Q) {s : State} (hs : s.ZonesAll Q)
    (released : ∀ x, Q s.stopHold x → Q false x)
    (unload : ∀ x, x.hasProtective = false → Q false x → Q false { x with state := .unloaded }) :
    s.clearStop.ZonesAll Q ∧ s.clearStop.stopHold = false := by
  have chains : Chains fun s t : State => s.ZonesAll Q ∧ s.stopHold = false → t.ZonesAll Q ∧ t.stopHold = false :=
    ⟨fun _ => id, fun h k => k ∘ h⟩
  have cleared := State.clear_zonesAll h .stop hs
  have start : ((s.clear .stop).setStopHold false).ZonesAll Q :=
    cleared.setStopHold fun x hx => released x (by rwa [State.clear_stopHold] at hx)
  unfold State.clearStop
  refine chains.foldl (fun s z hs => ?_) allZones _ ⟨start, rfl⟩
  · split
    · next bare =>
      have hold : (s.changeZone z .unloaded false).stopHold = s.stopHold := by simp
      have zone : Q false s.zones[z] := by
        have zone := hs.1 z
        rwa [hs.2] at zone
      refine ⟨hs.1.of_updZone (s.changeZone_zones z .unloaded false) hold ?_, hold.trans hs.2⟩
      rw [hs.2]
      exact unload _ bare.2 zone
    · exact hs

/-- A raise and a clear of STOP protect as any other. -/
theorem State.sampleStop_protected (s : State) (l : Level) (hs : s.ZonesAll fun _ => Zone.Protected) :
    (s.sampleStop l).ZonesAll fun _ => Zone.Protected := by
  have chains : Chains fun s t : State => (s.ZonesAll fun _ => Zone.Protected) → t.ZonesAll fun _ => Zone.Protected :=
    ⟨fun _ => id, fun h k => k ∘ h⟩
  have raised (r : Raise) (s : State) (z : Fin 4) (hs : s.ZonesAll fun _ => Zone.Protected) :
      (s.raiseIn z r false).ZonesAll fun _ => Zone.Protected := by
    refine hs.of_updZone (s.raiseIn_zones z r false) (Keeps.of_raiseIn s z r false).stopHold ?_
    have escalated := (hs z).escalated (r := r) (new := s.newEntry r) (spill := s.newOverflow r) rfl rfl
    unfold Zone.raised
    dsimp only
    split
    · exact escalated.without _ _
    · exact escalated
  obtain ⟨h, -⟩ | ⟨h, -⟩ | ⟨h, -⟩ := s.sampleStop_cases l <;> rw [h]
  · exact hs
  · exact chains.foldl (fun s z => raised _ s z) _ ((s.setStopLine _).setStopHold true) hs
  · have line : (s.setStopLine (s.stopLine.after l)).ZonesAll fun _ => Zone.Protected := hs
    exact (State.clearStop_zonesAll Zone.Protected.invariant line (fun _ => id) fun x bare _ => Zone.Protected.of_bare bare).1

/-- The zones as protected as their entries ask are an invariant of the zones. -/
theorem zonesProtected_invariant : Invariant State.ZonesProtected := by
  have lists : ListInvariant fun s => True ∧ s.ZonesAll fun _ => Zone.Protected :=
    Zone.Protected.invariant.lists (L := fun _ _ => True) (fun s l hs => ⟨trivial, s.sampleStop_protected l hs.2⟩) trivial
      fun _ _ _ _ _ _ => ZoneState.guards_dumped _
  have same : (fun s : State => True ∧ s.ZonesAll fun _ => Zone.Protected) = State.ZonesProtected :=
    funext fun s => propext ⟨fun h => h.2, fun h => ⟨trivial, h⟩⟩
  exact same ▸ lists.invariant

/-! ### Every zone DUMPED while STOPn is qualified low -/

/-- Each STOP entry of a zone's list dumps. -/
def Zone.StopDumps (x : Zone) : Prop := ∀ e ∈ x.entries, e.isOf .stop = true → e.action.severity = 3

/-- Under the STOP hold a zone is DUMPED, and its STOP entries dump. -/
def Zone.Obeys (hold : Bool) (x : Zone) : Prop := (hold = true → x.state = .dumped) ∧ x.StopDumps

theorem Zone.StopDumps.takes {x : Zone} (hx : x.StopDumps) {r : Raise} {new spill : Entry}
    (new_dumps : new.isOf .stop = true → new.action.severity = 3) (kind : spill.kind = .overflow) :
    ∀ e ∈ (x.takes r new spill).1, e.isOf .stop = true → e.action.severity = 3 :=
  Zone.takes_forall hx (fun _ => id)
    (fun e overflow _ stop => by rw [Entry.isOf_of_overflow (e := e.folded r) overflow] at stop; cases stop) new_dumps
    fun stop => by rw [Entry.isOf_of_overflow kind] at stop; cases stop

theorem Zone.Obeys.without {hold : Bool} {x : Zone} (hx : x.Obeys hold) (e : Entry) : (x.without hold e).Obeys hold := by
  refine ⟨fun held => ?_, fun y mem => hx.2 y (Zone.mem_without mem)⟩
  obtain state | ⟨-, state⟩ := x.without_state hold e <;> rw [state, hx.1 held]
  rw [held]; rfl

theorem Zone.Obeys.invariant : ZoneInvariant Zone.Obeys where
  without e hx := hx.without e
  escalated other source _ kind _ hx := by
    refine ⟨fun held => ?_, hx.2.takes (fun stop => ?_) kind⟩
    · change ZoneState.escalate _ _ = _
      rw [hx.1 held, ZoneState.escalate_dumped]
    · simp only [Entry.isOf, source, Bool.and_eq_true, beq_iff_eq] at stop
      exact absurd stop.2 other
  mapped same hx := by
    refine ⟨hx.1, ?_⟩
    simp only [Zone.StopDumps, List.mem_map, forall_exists_index, and_imp, forall_apply_eq_imp_iff₂]
    intro e mem stop
    rw [(same e).2.2]
    exact hx.2 e mem (by simpa [Entry.isOf, same e] using stop)
  unload state hx := ⟨fun held => by simp [hx.1 held] at state, hx.2⟩
  resume state hx := ⟨fun held => by simp [hx.1 held] at state, hx.2⟩
  reload state _ hx := ⟨fun held => by simp [hx.1 held] at state, hx.2⟩
  configure _ _ _ hx := hx

/-- The STOP raise dumps a zone and leaves it so. -/
theorem Zone.StopDumps.raised {x : Zone} (hx : x.StopDumps) {r : Raise} {new spill : Entry} (stop : r.source = .stop)
    (dump : r.action.severity = 3) (new_action : new.action = r.action) (kind : spill.kind = .overflow)
    (spilled : spill.action = r.action) : (x.raised true r new spill).Obeys true := by
  have severity : (x.takes r new spill).2.1.action.severity = 3 := by
    have bound (a : Action) : a.severity ≤ 3 := by cases a <;> decide
    obtain ⟨e, found, h⟩ | ⟨-, -, h⟩ | ⟨-, -, e, -, h⟩ | ⟨-, -, -, h⟩ := x.takes_cases r new spill <;> rw [h]
    · exact hx e (List.mem_of_find?_eq_some found) (by have := List.find?_some found; rwa [stop] at this)
    · rw [new_action, dump]
    · rw [Entry.severity_folded, dump, Nat.max_eq_right (bound _)]
    · rw [spilled, dump]
  have escalated : (x.escalated r new spill).Obeys true := by
    refine ⟨fun _ => ?_, hx.takes (fun _ => by rw [new_action, dump]) kind⟩
    change ZoneState.escalate _ _ = _
    rw [severity]
    exact x.state.escalate_of_three_le 0
  unfold Zone.raised
  dsimp only
  split
  · exact escalated.without _
  · exact escalated

/-- What each step of a fold establishes and no step takes away holds at its end. -/
theorem foldl_establishes {α : Type} {f : State → α → State} {I : State → Prop} {D : α → State → Prop}
    (keep : ∀ s a, I s → I (f s a)) (establish : ∀ s a, I s → D a (f s a)) (stay : ∀ s a b, I s → D b s → D b (f s a))
    (l : List α) {s : State} (hs : I s) : I (l.foldl f s) ∧ ∀ a, a ∈ l ∨ D a s → D a (l.foldl f s) := by
  induction l generalizing s with
  | nil => exact ⟨hs, fun a h => h.resolve_left (by simp)⟩
  | cons a l ih =>
    refine ⟨(ih (keep s a hs)).1, fun b h => (ih (keep s a hs)).2 b ?_⟩
    rcases h with h | h
    · rcases List.mem_cons.mp h with rfl | h
      · exact .inr (establish s _ hs)
      · exact .inl h
    · exact .inr (stay s a b hs h)

/-- The STOP raise leaves every zone DUMPED under the STOP hold. -/
theorem State.raiseStop_obeys {s : State} (hs : ∀ z : Fin 4, s.zones[z].StopDumps) :
    s.raiseStop.stopHold = true ∧ s.raiseStop.ZonesAll Zone.Obeys := by
  let r : Raise := { source := .stop, action := .dumpAll, method := .manual, seconds := Config.defaultSeconds, active := true }
  have zone (s : State) (z w : Fin 4) : (s.raiseIn z r false).zones[w]
      = if z = w then s.zones[z].raised s.stopHold r (s.newEntry r) (s.newOverflow r) else s.zones[w] := by
    rw [s.raiseIn_zones z r false, State.updZone_get]
  have raised (s : State) (z : Fin 4) (hold : s.stopHold = true) (hz : s.zones[z].StopDumps) :
      (s.zones[z].raised s.stopHold r (s.newEntry r) (s.newOverflow r)).Obeys true := by
    rw [hold]; exact hz.raised rfl rfl rfl rfl rfl
  obtain ⟨⟨hold, -⟩, obeys⟩ := foldl_establishes (f := fun s z => s.raiseIn z r false)
    (I := fun s => s.stopHold = true ∧ ∀ z : Fin 4, s.zones[z].StopDumps) (D := fun z s => s.zones[z].Obeys true)
    (fun s z h => ⟨(Keeps.of_raiseIn s z r false).stopHold.trans h.1, fun w => by
      rw [zone]; split
      · exact (raised s z h.1 (h.2 z)).2
      · exact h.2 w⟩)
    (fun s z h => by rw [zone, if_pos rfl]; exact raised s z h.1 (h.2 z))
    (fun s z w h obeys => by
      rw [zone]; split
      · exact raised s z h.1 (h.2 z)
      · exact obeys)
    allZones (s := s.setStopHold true) ⟨rfl, hs⟩
  have hold : s.raiseStop.stopHold = true := hold
  refine ⟨hold, fun z => ?_⟩
  rw [hold]
  exact obeys z (.inl (by revert z; decide))

/-- The STOP condition is the line's qualified LOW, and the STOP hold goes with it. -/
def StopLine.Held (x : StopLine) (hold : Bool) : Prop :=
  x.condition = decide (x.qualifier.level = some .low) ∧ hold = x.condition

theorem State.stopObeyed_iff (s : State) :
    s.StopObeyed ↔ s.stopLine.Held s.stopHold ∧ s.ZonesAll Zone.Obeys := by
  constructor
  · rintro ⟨line, hold, dumped, dumps⟩
    exact ⟨⟨line, hold⟩, fun z => ⟨fun h => dumped (hold ▸ h) z, dumps z⟩⟩
  · rintro ⟨⟨line, hold⟩, zones⟩
    exact ⟨line, hold, fun h z => (zones z).1 (hold ▸ h), fun z => (zones z).2⟩

theorem State.sampleStop_obeys (s : State) (l : Level) (hs : s.stopLine.Held s.stopHold ∧ s.ZonesAll Zone.Obeys) :
    (s.sampleStop l).stopLine.Held (s.sampleStop l).stopHold ∧ (s.sampleStop l).ZonesAll Zone.Obeys := by
  obtain ⟨⟨line, hold⟩, zones⟩ := hs
  have line_kept (t : State) : t.raiseStop.stopLine = t.stopLine ∧ t.clearStop.stopLine = t.stopLine := by
    refine ⟨by simp [State.raiseStop], ?_⟩
    have chains : Chains fun s t : State => t.stopLine = s.stopLine := ⟨fun _ => rfl, fun h k => k.trans h⟩
    refine chains.trans (t := (t.clear .stop).setStopHold false) (by simp) (chains.foldl (fun s z => ?_) allZones _)
    split <;> simp
  obtain ⟨h, ⟨level, condition⟩ | ⟨level, condition, high⟩⟩ | ⟨h, level, condition⟩ | ⟨h, level, condition⟩ :=
    s.sampleStop_cases l <;> rw [h]
  · exact ⟨⟨by simp only [State.setStopLine_stopLine, level, condition, line], by simpa [condition] using hold⟩, zones⟩
  · have released : s.stopHold = false := by rw [hold, line, decide_eq_false high]
    exact ⟨⟨by simp [level, condition], by simp [condition, released]⟩, zones⟩
  · obtain ⟨held, obeys⟩ := State.raiseStop_obeys (s := s.setStopLine (s.stopLine.after l)) fun z => (zones z).2
    refine ⟨⟨?_, ?_⟩, obeys⟩ <;> simp [(line_kept _).1, level, condition, held]
  · have lined : (s.setStopLine (s.stopLine.after l)).ZonesAll Zone.Obeys := zones
    obtain ⟨obeys, released⟩ := State.clearStop_zonesAll Zone.Obeys.invariant lined (fun x hx => ⟨nofun, hx.2⟩)
      fun x _ hx => ⟨nofun, hx.2⟩
    refine ⟨⟨?_, ?_⟩, obeys⟩ <;> simp [(line_kept _).2, level, condition, released]

theorem stopObeyed_invariant : Invariant State.StopObeyed := by
  have lists : ListInvariant fun s => s.stopLine.Held s.stopHold ∧ s.ZonesAll Zone.Obeys :=
    Zone.Obeys.invariant.lists (fun s l hs => s.sampleStop_obeys l hs) ⟨rfl, rfl⟩ fun z tag stamp cycles =>
      ⟨nofun, fun e mem stop => by simp_all [Zone.dumpedWith, restartEntry, Entry.isOf]⟩
  have same : (fun s : State => s.stopLine.Held s.stopHold ∧ s.ZonesAll Zone.Obeys) = State.StopObeyed :=
    funext fun s => propext s.stopObeyed_iff.symm
  exact same ▸ lists.invariant

/-- Settles O57: STOPn qualified low is the STOP condition, under which every zone is DUMPED. -/
theorem stepsObeyTheStopLine : Obligations.StepsObeyTheStopLine := by
  intro s t run hs
  have ht : t.StopObeyed := stopObeyed_invariant.step run hs
  refine ⟨ht, fun low z => ?_⟩
  obtain ⟨line, -, dumped, -⟩ := ht
  simp only [State.dumpAsserted, beq_iff_eq]
  exact dumped (by rw [line, low]; rfl) z

end Sys2Proof.Machine


/-! The alarm lists stay lawful (sections 8.2 and 8.3): a free tag is always found, a raise keeps one entry a source and no tag twice, and
a removal or a clear takes nothing of it away. -/
namespace Sys2Proof.Machine

/-! ### A free tag (R132) -/

/-- The tag after k tries is the one after one try less, from the next tag. -/
theorem repeat_succTag_succ (k : Nat) (t : Half) : Nat.repeat succTag (k + 1) t = Nat.repeat succTag k (succTag t) := by
  induction k with
  | zero => rfl
  | succ k ih => exact congrArg succTag ih

/-- A tag found within the tries is free. -/
theorem freeTag_free {used : List Half} {n : Nat} {t : Half}
    (found : ∃ k, k < n ∧ Nat.repeat succTag k t ≠ 0#16 ∧ Nat.repeat succTag k t ∉ used) :
    freeTag used n t ≠ 0#16 ∧ freeTag used n t ∉ used := by
  induction n generalizing t with
  | zero => obtain ⟨k, lt, -⟩ := found; omega
  | succ n ih =>
    rw [freeTag]
    split
    · next taken =>
      obtain ⟨k, lt, free⟩ := found
      cases k with
      | zero => exact absurd taken (not_or.mpr free)
      | succ k => exact ih ⟨k, by omega, by rwa [repeat_succTag_succ] at free⟩
    · next free => exact not_or.mp free

theorem succTag_toNat {t : Half} (h : t ≠ 0#16) : (succTag t).toNat = t.toNat % 65535 + 1 := by
  have positive : t.toNat ≠ 0 := fun zero => h (BitVec.eq_of_toNat_eq zero)
  unfold succTag
  split
  · next top => simp [top]
  · next below =>
    have : t.toNat ≠ 65535 := fun top => below (BitVec.eq_of_toNat_eq top)
    rw [BitVec.toNat_add]
    simp only [BitVec.toNat_ofNat]
    omega

theorem repeat_succTag_toNat {t : Half} (h : t ≠ 0#16) (k : Nat) :
    (Nat.repeat succTag k t).toNat = (t.toNat - 1 + k) % 65535 + 1 := by
  have positive : t.toNat ≠ 0 := fun zero => h (BitVec.eq_of_toNat_eq zero)
  induction k with
  | zero =>
    change t.toNat = _
    omega
  | succ k ih =>
    have nonzero : Nat.repeat succTag k t ≠ 0#16 := fun zero => by rw [zero] at ih; simp at ih
    rw [Nat.repeat, succTag_toNat nonzero, ih]
    omega

/-- The tags tried one after another are distinct. -/
theorem repeat_succTag_inj {t : Half} {i j : Nat} (hi : i < 65535) (hj : j < 65535)
    (same : Nat.repeat succTag i t = Nat.repeat succTag j t) : i = j := by
  have same : (Nat.repeat succTag i t).toNat = (Nat.repeat succTag j t).toNat := congrArg _ same
  by_cases zero : t = 0#16
  · have first : (Nat.repeat succTag 0 t).toNat = 0 := by rw [zero]; rfl
    have next (k : Nat) : (Nat.repeat succTag (k + 1) t).toNat = k % 65535 + 1 := by
      rw [repeat_succTag_succ, repeat_succTag_toNat (by rw [zero]; decide), zero,
        show (succTag 0#16).toNat = 1 from rfl, Nat.sub_self, Nat.zero_add]
    cases i with
    | zero => cases j with
      | zero => rfl
      | succ j => rw [next, first] at same; omega
    | succ i => cases j with
      | zero => rw [next, first] at same; omega
      | succ j => rw [next, next] at same; omega
  · rw [repeat_succTag_toNat zero, repeat_succTag_toNat zero] at same
    omega

/-- One more try than there are tags in use, and one for tag 0, finds a free tag. -/
theorem freeTag_of_length {used : List Half} (h : used.length + 2 ≤ 65535) (t : Half) :
    freeTag used (used.length + 2) t ≠ 0#16 ∧ freeTag used (used.length + 2) t ∉ used := by
  apply freeTag_free
  refine Classical.byContradiction fun none => ?_
  have tried (x : Half) (mem : x ∈ (List.range (used.length + 2)).map fun k => Nat.repeat succTag k t) : x ∈ 0#16 :: used := by
    obtain ⟨k, lt, rfl⟩ := List.mem_map.mp mem
    refine Classical.byContradiction fun free => none ⟨k, List.mem_range.mp lt, ?_⟩
    exact not_or.mp fun taken => free (List.mem_cons.mpr taken)
  have distinct : ((List.range (used.length + 2)).map fun k => Nat.repeat succTag k t).Nodup := by
    refine List.pairwise_map.mpr (List.pairwise_lt_range.imp_of_mem fun {i j} hi hj lt same => ?_)
    have := List.mem_range.mp hi
    have := List.mem_range.mp hj
    exact Nat.ne_of_lt lt (repeat_succTag_inj (by omega) (by omega) same)
  have length := distinct.length_le_of_subset fun {x} mem => tried x mem
  simp only [List.length_map, List.length_range, List.length_cons] at length
  omega

/-! ### The tags of the four lists -/

/-- The tags of a zone's list. -/
def Zone.tags (x : Zone) : List Half := x.entries.map Entry.tag

theorem State.mem_usedTags {s : State} {t : Half} : t ∈ s.usedTags ↔ ∃ z : Fin 4, t ∈ s.zones[z].tags := by
  simp only [State.usedTags, List.mem_flatMap, Vector.mem_toList_iff, Zone.tags]
  constructor
  · rintro ⟨x, mem, tag⟩
    obtain ⟨i, lt, rfl⟩ := Vector.getElem_of_mem mem
    exact ⟨⟨i, lt⟩, tag⟩
  · rintro ⟨z, tag⟩
    exact ⟨_, Vector.getElem_mem z.isLt, tag⟩

/-- Two zones' lists hold no tag together. -/
def Zone.Apart (x y : Zone) : Prop := ∀ ⦃t⦄, t ∈ x.tags → t ∉ y.tags

theorem Zone.Apart.symm {x y : Zone} (h : x.Apart y) : y.Apart x := fun _ theirs mine => h mine theirs

theorem State.usedTags_nodup {s : State} :
    s.usedTags.Nodup ↔ (∀ z : Fin 4, s.zones[z].tags.Nodup) ∧ ∀ z w : Fin 4, z < w → s.zones[z].Apart s.zones[w] := by
  rw [State.usedTags, List.Nodup, List.pairwise_flatMap, List.pairwise_iff_getElem]
  refine and_congr ⟨fun h z => h _ (by simp), fun h x mem => ?_⟩ ⟨fun h z w lt => ?_, fun h i j hi hj lt => ?_⟩
  · obtain ⟨i, lt, rfl⟩ := Vector.getElem_of_mem (Vector.mem_toList_iff.mp mem)
    exact h ⟨i, lt⟩
  · exact fun t mine theirs => h z.val w.val (by simp) (by simp) lt t mine t theirs rfl
  · simp only [Vector.length_toList] at hi hj
    exact fun t mine u theirs same => h ⟨i, hi⟩ ⟨j, hj⟩ lt mine (same ▸ theirs)

/-! ### One lawful list (R131, R133) -/

/-- One entry a source, at most 12 source entries and one overflow entry. -/
def Zone.Lawful (x : Zone) : Prop :=
  x.sourceEntries.length ≤ Config.maxSourceEntries ∧ (x.sourceEntries.map Entry.source).Nodup
    ∧ (x.entries.filter fun e => e.kind == .overflow).length ≤ 1

theorem Zone.Lawful.length_le {x : Zone} (hx : x.Lawful) : x.entries.length ≤ 13 := by
  have split := List.length_eq_countP_add_countP (fun e : Entry => e.kind == .source) (l := x.entries)
  have rest : (x.entries.filter fun e => ¬ (e.kind == .source) = true) = x.entries.filter fun e => e.kind == .overflow := by
    refine List.filter_congr fun e _ => ?_
    cases e.kind <;> rfl
  rw [List.countP_eq_length_filter, List.countP_eq_length_filter] at split
  have sources : (x.entries.filter fun e => e.kind == .source).length ≤ 12 := hx.1
  have spilled := hx.2.2
  rw [rest] at split
  omega

/-- One list after an operation, by the tags in use before it: lawful, its tags distinct, each one it had or a free one. -/
structure Zone.Becomes (used : List Half) (x y : Zone) : Prop where
  lawful : y.Lawful
  nodup : y.tags.Nodup
  tags : ∀ t ∈ y.tags, t ∈ x.tags ∨ t ≠ 0#16 ∧ t ∉ used

theorem Zone.Becomes.of_sublist {used : List Half} {x y w : Zone} (h : x.Becomes used y) (sub : List.Sublist w.entries y.entries) :
    x.Becomes used w where
  lawful := by
    obtain ⟨sources, distinct, spilled⟩ := h.lawful
    exact ⟨Nat.le_trans (sub.filter _).length_le sources, distinct.sublist ((sub.filter _).map _),
      Nat.le_trans (sub.filter _).length_le spilled⟩
  nodup := h.nodup.sublist (sub.map _)
  tags t mem := h.tags t ((sub.map Entry.tag).subset mem)

/-- A change of entries that keeps their tags, kinds and, of the source entries, sources. -/
theorem Zone.Becomes.of_map {used : List Half} {x y : Zone} (h : x.Becomes used y) {f : Entry → Entry}
    (same : ∀ e, (f e).tag = e.tag ∧ (f e).kind = e.kind ∧ (e.kind = .source → (f e).source = e.source)) :
    x.Becomes used { y with entries := y.entries.map f } := by
  have kind (k : EntryKind) : ((y.entries.map f).filter fun e => e.kind == k) = (y.entries.filter fun e => e.kind == k).map f := by
    rw [List.filter_map]
    congr 2
    funext e
    simp [same e]
  have sources : ((y.entries.map f).filter fun e => e.kind == .source).map Entry.source
      = (y.entries.filter fun e => e.kind == .source).map Entry.source := by
    rw [kind, List.map_map]
    refine List.map_congr_left fun e mem => (same e).2.2 ?_
    simpa using (List.mem_filter.mp mem).2
  have tags : (y.entries.map f).map Entry.tag = y.entries.map Entry.tag := by
    rw [List.map_map]
    exact List.map_congr_left fun e _ => (same e).1
  obtain ⟨count, distinct, spilled⟩ := h.lawful
  refine ⟨⟨?_, ?_, ?_⟩, ?_, ?_⟩
  · simpa only [Zone.sourceEntries, kind, List.length_map] using count
  · simpa only [Zone.sourceEntries, sources] using distinct
  · simpa only [kind, List.length_map] using spilled
  · simpa only [Zone.tags, tags] using h.nodup
  · simpa only [Zone.tags, tags] using h.tags

/-- Of two members of a list with one value, where the list holds no value twice, there is one. -/
theorem inj_of_nodup_map {α β : Type} {f : α → β} {l : List α} (nodup : (l.map f).Nodup) {x y : α} (hx : x ∈ l) (hy : y ∈ l)
    (same : f x = f y) : x = y := by
  induction l with
  | nil => exact absurd hx List.not_mem_nil
  | cons a l ih =>
    obtain ⟨fresh, nodup⟩ := List.nodup_cons.mp nodup
    obtain first | inx := List.mem_cons.mp hx <;> obtain second | iny := List.mem_cons.mp hy
    · exact first.trans second.symm
    · exact absurd (List.mem_map.mpr ⟨y, iny, by rw [← same, first]⟩) fresh
    · exact absurd (List.mem_map.mpr ⟨x, inx, by rw [same, second]⟩) fresh
    · exact ih nodup inx iny

theorem nodup_middle {α : Type} {l l' : List α} {a : α} : (l ++ a :: l').Nodup ↔ (a :: (l ++ l')).Nodup :=
  List.pairwise_middle Ne.symm

theorem nodup_concat {α : Type} {l : List α} {a : α} (nodup : l.Nodup) (fresh : a ∉ l) : (l ++ [a]).Nodup := by
  refine List.nodup_append.mpr ⟨nodup, by simp, fun x mem y last same => fresh ?_⟩
  rwa [← List.mem_singleton.mp last, ← same]

theorem Zone.Becomes.of_append {used : List Half} {x : Zone} (lawful : x.Lawful) (nodup : x.tags.Nodup) {e : Entry}
    (inUse : ∀ t ∈ x.tags, t ∈ used) (free : e.tag ≠ 0#16 ∧ e.tag ∉ used)
    (room : e.kind = .source → x.sourceEntries.length < Config.maxSourceEntries ∧ e.source ∉ x.sourceEntries.map Entry.source)
    (spill : e.kind = .overflow → (x.entries.filter fun e => e.kind == .overflow) = []) :
    x.Becomes used { x with entries := x.entries ++ [e] } := by
  obtain ⟨count, distinct, spilled⟩ := lawful
  have tags : (x.entries ++ [e]).map Entry.tag = x.tags ++ [e.tag] := by simp [Zone.tags]
  have tags_nodup : ((x.entries ++ [e]).map Entry.tag).Nodup := by
    rw [tags]
    exact nodup_concat nodup fun mem => free.2 (inUse _ mem)
  refine ⟨?_, tags_nodup, fun t mem => ?_⟩
  · cases kind : e.kind with
    | source =>
      obtain ⟨less, unlisted⟩ := room kind
      have sources : ((x.entries ++ [e]).filter fun e => e.kind == .source) = x.sourceEntries ++ [e] := by
        simp [Zone.sourceEntries, kind]
      refine ⟨?_, ?_, ?_⟩
      · simp only [Zone.sourceEntries, sources, List.length_append, List.length_singleton]; exact less
      · simp only [Zone.sourceEntries, sources, List.map_append, List.map_singleton]
        exact nodup_concat distinct unlisted
      · simpa [kind] using spilled
    | overflow =>
      have none := spill kind
      refine ⟨by simpa [Zone.sourceEntries, kind] using count, by simpa [Zone.sourceEntries, kind] using distinct, ?_⟩
      simp only [List.filter_append, none]
      simp [kind]
  · rw [Zone.tags, tags, List.mem_append, List.mem_singleton] at mem
    exact mem.imp id fun h => by rwa [h]

theorem Zone.Becomes.of_takes {used : List Half} {x : Zone} (lawful : x.Lawful) (nodup : x.tags.Nodup) {r : Raise} {new spill : Entry}
    (inUse : ∀ t ∈ x.tags, t ∈ used) (free : new.tag ≠ 0#16 ∧ new.tag ∉ used) (tag : spill.tag = new.tag)
    (source : new.source = r.source) (kind : new.kind = .source) (overflow : spill.kind = .overflow) :
    x.Becomes used { x with entries := (x.takes r new spill).1 } := by
  have self : x.Becomes used x := ⟨lawful, nodup, fun _ => .inl⟩
  obtain ⟨e, -, h⟩ | ⟨unfound, room, h⟩ | ⟨-, -, e, -, h⟩ | ⟨-, -, unspilled, h⟩ := x.takes_cases r new spill <;> rw [h]
  · refine self.of_map fun e => ?_
    split <;> exact ⟨rfl, rfl, fun _ => rfl⟩
  · refine .of_append lawful nodup inUse free (fun _ => ⟨room, fun mem => ?_⟩) (by rw [kind]; nofun)
    obtain ⟨e, mem, same⟩ := List.mem_map.mp mem
    obtain ⟨mem, source_entry⟩ := List.mem_filter.mp mem
    have := List.find?_eq_none.mp unfound e mem
    simp_all [Entry.isOf]
  · refine self.of_map fun e => ?_
    split
    · next overflow => exact ⟨rfl, rfl, by rw [overflow]; nofun⟩
    · exact ⟨rfl, rfl, fun _ => rfl⟩
  · refine .of_append lawful nodup inUse (by rwa [tag]) (by rw [overflow]; nofun) fun _ => ?_
    exact List.filter_eq_nil_iff.mpr (List.find?_eq_none.mp unspilled)

/-! ### The four lists -/

theorem State.listsLawful_iff (s : State) :
    s.ListsLawful ↔ (∀ z : Fin 4, s.zones[z].Lawful ∧ s.zones[z].tags.Nodup ∧ 0#16 ∉ s.zones[z].tags)
      ∧ ∀ z w : Fin 4, z ≠ w → s.zones[z].Apart s.zones[w] := by
  simp only [State.ListsLawful, State.usedTags_nodup, State.mem_usedTags, not_exists]
  constructor
  · rintro ⟨lawful, ⟨nodup, disjoint⟩, nonzero⟩
    refine ⟨fun z => ⟨lawful z, nodup z, nonzero z⟩, fun z w other => ?_⟩
    obtain lt | lt := Nat.lt_or_gt_of_ne (Fin.val_ne_of_ne other)
    · exact disjoint z w lt
    · exact (disjoint w z lt).symm
  · rintro ⟨zones, disjoint⟩
    exact ⟨fun z => (zones z).1, ⟨fun z => (zones z).2.1, fun z w lt => disjoint z w (Fin.ne_of_lt lt)⟩, fun z => (zones z).2.2⟩

/-- A change of one list by an operation keeps the lists lawful. -/
theorem State.ListsLawful.of_updZone {s t : State} {z : Fin 4} {f : Zone → Zone} (hs : s.ListsLawful)
    (zones : t.zones = (s.updZone z f).zones) (becomes : s.zones[z].Becomes s.usedTags (f s.zones[z])) : t.ListsLawful := by
  rw [State.listsLawful_iff] at hs ⊢
  obtain ⟨lawful, disjoint⟩ := hs
  have apart (w : Fin 4) (other : z ≠ w) : (f s.zones[z]).Apart s.zones[w] := by
    intro tag mine theirs
    obtain had | ⟨-, free⟩ := becomes.tags tag mine
    · exact disjoint z w other had theirs
    · exact free (State.mem_usedTags.mpr ⟨w, theirs⟩)
  refine ⟨fun w => ?_, fun w v other => ?_⟩
  · rw [zones, State.updZone_get]
    split
    · refine ⟨becomes.lawful, becomes.nodup, fun zero => ?_⟩
      obtain had | ⟨nonzero, -⟩ := becomes.tags _ zero
      · exact (lawful z).2.2 had
      · exact nonzero rfl
    · exact lawful w
  · rw [zones, State.updZone_get, State.updZone_get]
    split
    · next same =>
      rw [if_neg fun h => other (same.symm.trans h)]
      exact apart v fun h => other (same.symm.trans h)
    · split
      · next same => exact (apart w fun h => other (h.symm.trans same)).symm
      · exact disjoint w v other

theorem State.ListsLawful.becomes_self {s : State} (hs : s.ListsLawful) (z : Fin 4) :
    s.zones[z].Becomes s.usedTags s.zones[z] :=
  ⟨((s.listsLawful_iff.mp hs).1 z).1, ((s.listsLawful_iff.mp hs).1 z).2.1, fun _ => .inl⟩

theorem State.tags_used {s : State} {z : Fin 4} {t : Half} (h : t ∈ s.zones[z].tags) : t ∈ s.usedTags :=
  State.mem_usedTags.mpr ⟨z, h⟩

theorem length_flatMap_le {α β : Type} {f : α → List β} {n : Nat} {l : List α} (h : ∀ x ∈ l, (f x).length ≤ n) :
    (l.flatMap f).length ≤ n * l.length := by
  induction l with
  | nil => exact Nat.zero_le _
  | cons x l ih =>
    have head := h x (by simp)
    have tail := ih fun y mem => h y (by simp [mem])
    rw [List.flatMap_cons, List.length_append, List.length_cons, Nat.mul_succ]
    omega

theorem State.ListsLawful.usedTags_length {s : State} (hs : s.ListsLawful) : s.usedTags.length ≤ 52 := by
  have four : s.zones.toList.length = 4 := Vector.length_toList
  refine Nat.le_trans (length_flatMap_le (n := 13) fun x mem => ?_) (by omega)
  obtain ⟨i, lt, rfl⟩ := Vector.getElem_of_mem (Vector.mem_toList_iff.mp mem)
  simpa using (hs.becomes_self ⟨i, lt⟩).lawful.length_le

/-- The tag the next new entry takes is free. -/
theorem State.ListsLawful.nextTag_free {s : State} (hs : s.ListsLawful) : s.nextTag ≠ 0#16 ∧ s.nextTag ∉ s.usedTags :=
  freeTag_of_length (by have := hs.usedTags_length; omega) _

theorem Zone.without_entries_sublist (x : Zone) (hold : Bool) (e : Entry) : (x.without hold e).entries.Sublist x.entries :=
  List.eraseP_sublist

theorem Zone.foldl_without_sublist (l : List Entry) (hold : Bool) (x : Zone) :
    (l.foldl (fun y e => y.without hold e) x).entries.Sublist x.entries := by
  induction l generalizing x with
  | nil => exact List.Sublist.refl _
  | cons e l ih => exact (ih _).trans (x.without_entries_sublist hold e)

theorem State.ListsLawful.raiseIn {s : State} (hs : s.ListsLawful) (z : Fin 4) (r : Raise) (d : Bool) :
    (s.raiseIn z r d).ListsLawful := by
  refine hs.of_updZone (s.raiseIn_zones z r d) ?_
  have taken : s.zones[z].Becomes s.usedTags (s.zones[z].escalated r (s.newEntry r) (s.newOverflow r)) :=
    (Zone.Becomes.of_takes (hs.becomes_self z).lawful (hs.becomes_self z).nodup (fun _ => State.tags_used)
      (new := s.newEntry r) (spill := s.newOverflow r) hs.nextTag_free rfl rfl rfl rfl).of_sublist (List.Sublist.refl _)
  unfold Zone.raised
  dsimp only
  split
  · exact taken.of_sublist (Zone.without_entries_sublist _ _ _)
  · exact taken

theorem State.ListsLawful.clearIn {s : State} (hs : s.ListsLawful) (z : Fin 4) (x : Source) : (s.clearIn z x).ListsLawful := by
  refine hs.of_updZone (s.clearIn_zones z x) ?_
  refine ((hs.becomes_self z).of_map fun e => ?_).of_sublist (Zone.foldl_without_sublist _ _ _)
  split <;> exact ⟨rfl, rfl, fun _ => rfl⟩

theorem State.ListsLawful.of_eq {s t : State} (hs : s.ListsLawful) (zones : t.zones = s.zones) : t.ListsLawful := by
  simpa only [State.ListsLawful, State.usedTags, zones] using hs

theorem State.ListsLawful.clear {s : State} (hs : s.ListsLawful) (x : Source) : (s.clear x).ListsLawful := by
  have chains : Chains fun s t : State => s.ListsLawful → t.ListsLawful := ⟨fun _ => id, fun h k => k ∘ h⟩
  exact chains.foldl (fun s z hs => State.ListsLawful.clearIn hs z x) allZones s hs

theorem State.ListsLawful.changeZone {s : State} (hs : s.ListsLawful) (z : Fin 4) (st : ZoneState) (d : Bool) :
    (s.changeZone z st d).ListsLawful :=
  hs.of_updZone (s.changeZone_zones z st d) ((hs.becomes_self z).of_sublist (List.Sublist.refl _))

theorem State.ListsLawful.sampleStop {s : State} (hs : s.ListsLawful) (l : Level) : (s.sampleStop l).ListsLawful := by
  have chains : Chains fun s t : State => s.ListsLawful → t.ListsLawful := ⟨fun _ => id, fun h k => k ∘ h⟩
  have lined : (s.setStopLine (s.stopLine.after l)).ListsLawful := hs
  obtain ⟨h, -⟩ | ⟨h, -⟩ | ⟨h, -⟩ := s.sampleStop_cases l <;> rw [h]
  · exact lined
  · exact chains.foldl (fun s z hs => hs.raiseIn z _ _) _ ((s.setStopLine (s.stopLine.after l)).setStopHold true) hs
  · have cleared : (((s.setStopLine (s.stopLine.after l)).clear .stop).setStopHold false).ListsLawful :=
      (lined.clear .stop).of_eq (State.setStopHold_zones _ _)
    unfold State.clearStop
    refine chains.foldl (fun s z hs => ?_) allZones _ cleared
    split
    · exact hs.changeZone _ _ _
    · exact hs

/-- A RESTART entry comes into an empty list under a free tag. -/
theorem State.ListsLawful.restartZone {s : State} (hs : s.ListsLawful) {z : Fin 4} (empty : s.zones[z].entries = []) :
    (s.restartZone z).ListsLawful := by
  refine hs.of_updZone (s.restartZone_zones z) ?_
  refine .of_append (hs.becomes_self z).lawful (hs.becomes_self z).nodup (fun _ => State.tags_used) hs.nextTag_free
    (fun _ => ?_) (fun _ => by rw [empty]; rfl)
  rw [Zone.sourceEntries, empty]
  exact ⟨by decide, by simp⟩

theorem State.ListsLawful.restartZones {l : List (Fin 4)} (distinct : l.Nodup) {s : State} (hs : s.ListsLawful)
    (empty : ∀ z ∈ l, s.zones[z].entries = []) : (l.foldl State.restartZone s).ListsLawful := by
  induction l generalizing s with
  | nil => exact hs
  | cons z l ih =>
    obtain ⟨fresh, distinct⟩ := List.nodup_cons.mp distinct
    refine ih distinct (hs.restartZone (empty z (by simp))) fun w mem => ?_
    rw [State.restartZone_zones, State.updZone_get, if_neg (by rintro rfl; exact fresh mem)]
    exact empty w (by simp [mem])

theorem State.ListsLawful.of_empty {s : State} (empty : ∀ z : Fin 4, s.zones[z].entries = []) : s.ListsLawful := by
  rw [State.listsLawful_iff]
  have tags (z : Fin 4) : s.zones[z].tags = [] := by rw [Zone.tags, empty]; rfl
  have lawful (z : Fin 4) : s.zones[z].Lawful := by
    rw [Zone.Lawful, Zone.sourceEntries, empty]
    exact ⟨Nat.zero_le _, List.nodup_nil, Nat.zero_le _⟩
  refine ⟨fun z => ⟨lawful z, ?_, ?_⟩, fun z w _ t mine => ?_⟩
  · rw [tags]; exact List.nodup_nil
  · rw [tags]; exact List.not_mem_nil
  · rw [tags] at mine; exact absurd mine List.not_mem_nil

theorem State.reinit_listsLawful (s : State) : s.reinit.ListsLawful := by
  have start : s.defaults.ListsLawful := .of_empty fun z => by simp [State.defaults, Zone.dumpedWith]
  have entered : (allZones.foldl State.restartZone s.defaults).ListsLawful :=
    .restartZones (by decide) start fun z _ => by simp [State.defaults, Zone.dumpedWith]
  exact entered.of_eq s.reinit_zones_eq

theorem listsLawful_invariant : ListInvariant State.ListsLawful where
  unread _ zones _ _ hs := hs.of_eq zones
  raiseIn _ z r d _ hs := hs.raiseIn z r d
  clearIn _ z x _ hs := hs.clearIn z x
  removeEntry s z e m d hs :=
    hs.of_updZone (s.removeEntry_zones z e m d) ((hs.becomes_self z).of_sublist (Zone.without_entries_sublist _ _ _))
  unload _ z d _ hs := hs.changeZone z _ d
  resume _ z d _ hs := hs.changeZone z _ d
  reload _ z d _ _ hs := hs.changeZone z _ d
  configure _ z _ _ _ hs := hs.of_updZone rfl ((hs.becomes_self z).of_sublist (List.Sublist.refl _))
  tick _ z tag _ _ _ _ hs := by
    refine hs.of_updZone rfl ((hs.becomes_self z).of_map fun e => ?_)
    split <;> exact ⟨rfl, rfl, fun _ => rfl⟩
  sampleStop _ l hs := hs.sampleStop l
  stored e hs := hs.of_eq e.zones.1
  reset := by decide +kernel
  reinit s := s.reinit_listsLawful

/-- Settles O56: a raise, a clear and a removal keep the lists lawful and the zones protected. -/
theorem stepsKeepTheAlarmLists : Obligations.StepsKeepTheAlarmLists :=
  fun _ _ run => ⟨listsLawful_invariant.invariant.step run, zonesProtected_invariant.step run⟩

end Sys2Proof.Machine


/-! Each channel's setpoint within its force window (sections 3.8 and 4.1): limiting and slewing stay between two values, an update's
stages stay in the window, and so does every step. -/
namespace Sys2Proof.Machine

/-! ### Limits and slewing (R46 to R48) -/

theorem half_toInt {x : Int} (low : -32768 ≤ x) (high : x ≤ 32767) : (half x).toInt = x := by
  rw [half, BitVec.toInt_ofInt]
  exact Int.bmod_eq_of_le (by simpa using low) (by simpa using Int.lt_add_one_iff.mpr high)

theorem toInt_half_range (x : Half) : -32768 ≤ x.toInt ∧ x.toInt ≤ 32767 := by
  have := BitVec.le_toInt x
  have := BitVec.toInt_lt (x := x)
  simp only [Nat.add_one_sub_one] at *
  omega

theorem limit_between {lo hi : Half} (h : lo.toInt ≤ hi.toInt) (x : Half) :
    lo.toInt ≤ (limit x lo hi).toInt ∧ (limit x lo hi).toInt ≤ hi.toInt := by
  unfold limit
  split
  · omega
  · split <;> omega

/-- A value moved toward a goal stays between bounds that hold both. -/
theorem moveToward_between {lo hi : Int} {prev goal : Half} (rate : Nat) (hp : lo ≤ prev.toInt ∧ prev.toInt ≤ hi)
    (hg : lo ≤ goal.toInt ∧ goal.toInt ≤ hi) :
    lo ≤ (moveToward prev goal rate).toInt ∧ (moveToward prev goal rate).toInt ≤ hi := by
  have := toInt_half_range prev
  have := toInt_half_range goal
  unfold moveToward
  split
  · exact hg
  · split
    · rw [half_toInt] <;> omega
    · rw [half_toInt] <;> omega

theorem slewed_between {lo hi : Int} {prev target : Half} (rmax : Half) (hp : lo ≤ prev.toInt ∧ prev.toInt ≤ hi)
    (ht : lo ≤ target.toInt ∧ target.toInt ≤ hi) :
    lo ≤ (slewed prev target rmax).1.toInt ∧ (slewed prev target rmax).1.toInt ≤ hi := by
  unfold slewed
  split
  · exact ht
  · exact moveToward_between _ hp ht

/-! ### One channel -/

/-- UL lies in the force window; the setpoint does too outside DUMPED, and stands at UL in DUMPED. -/
def Channel.Bounds (ch : Channel) (st : ZoneState) (x : Half) : Prop :=
  (ch.fmin.toInt ≤ ch.ul.toInt ∧ ch.ul.toInt ≤ ch.fmax.toInt)
    ∧ (st = .dumped → x = ch.ul) ∧ (st ≠ .dumped → ch.fmin.toInt ≤ x.toInt ∧ x.toInt ≤ ch.fmax.toInt)

theorem State.setpointsBound_iff (s : State) :
    s.SetpointsBound ↔ ∀ c : Fin 8, s.channels[c].Bounds (s.channelZone c) s.outputs[c].setpoint := Iff.rfl

/-- In every zone state the setpoint lies in the window. -/
theorem Channel.Bounds.window {ch : Channel} {st : ZoneState} {x : Half} (h : ch.Bounds st x) :
    ch.fmin.toInt ≤ x.toInt ∧ x.toInt ≤ ch.fmax.toInt := by
  by_cases dumped : st = .dumped
  · rw [h.2.1 dumped]; exact h.1
  · exact h.2.2 dumped

theorem Channel.Bounds.ul {ch : Channel} {st : ZoneState} {x : Half} (h : ch.Bounds st x) (st' : ZoneState) :
    ch.Bounds st' ch.ul := ⟨h.1, fun _ => rfl, fun _ => h.1⟩

theorem Channel.Bounds.of_window {ch : Channel} {st : ZoneState} {x y : Half} (h : ch.Bounds st x) {st' : ZoneState}
    (away : st' ≠ .dumped) (window : ch.fmin.toInt ≤ y.toInt ∧ y.toInt ≤ ch.fmax.toInt) : ch.Bounds st' y :=
  ⟨h.1, fun dumped => absurd dumped away, fun _ => window⟩

/-- The stages of an update keep a channel's setpoint bound, by the state of its zone (R48, R49). -/
theorem State.outputOf_bounds {s : State} (hs : s.SetpointsBound) (d : Int) (c : Fin 8) :
    s.channels[c].Bounds (s.channelZone c) (s.outputOf d c).setpoint := by
  have own := s.setpointsBound_iff.mp hs c
  have target : s.channels[c].fmin.toInt ≤ (s.targetOf d c).toInt ∧ (s.targetOf d c).toInt ≤ s.channels[c].fmax.toInt :=
    limit_between (Int.le_trans own.1.1 own.1.2) _
  have held := limit_between (Int.le_trans own.1.1 own.1.2) s.outputs[c].held
  cases state : s.channelZone c
  all_goals
    have zone : s.zones[s.channels[c].zone].state = _ := state
    rw [state] at own
    simp only [State.outputOf, zone]
  case normal => exact own.of_window (by decide) (slewed_between _ own.window target)
  case held => exact own.of_window (by decide) held
  case unloading => exact own.of_window (by decide) (moveToward_between _ own.window own.1)
  case unloaded => exact own.ul _
  case reloading => exact own.of_window (by decide) (moveToward_between _ own.window target)
  case dumped => exact own.ul _

/-! ### Every operation -/

theorem State.SetpointsBound.of_eq {s t : State} (hs : s.SetpointsBound) (channels : t.channels = s.channels)
    (outputs : t.outputs = s.outputs) (states : ∀ z : Fin 4, t.zones[z].state = s.zones[z].state) : t.SetpointsBound := by
  intro c
  simp only [State.channelZone, channels, outputs, states]
  exact hs c

theorem State.SetpointsBound.updZone {s : State} (hs : s.SetpointsBound) (z : Fin 4) {f : Zone → Zone}
    (state : ∀ x, (f x).state = x.state) : (s.updZone z f).SetpointsBound := by
  refine hs.of_eq rfl rfl fun w => ?_
  rw [State.updZone_get]
  split
  · next same => rw [state, same]
  · rfl

/-- A zone that enters a state leaves its members' setpoints where they were, or at UL in DUMPED (R50, R51). -/
theorem State.SetpointsBound.enterZone {s : State} (hs : s.SetpointsBound) (z : Fin 4) (st : ZoneState) :
    (s.enterZone z st).SetpointsBound := by
  rw [State.setpointsBound_iff] at hs ⊢
  intro c
  have own := hs c
  have zone : (s.enterZone z st).channelZone c = if z = s.channels[c].zone then st else s.channelZone c := by
    have channels : (s.enterZone z st).channels = s.channels := (Keeps.of_enterZone s z st).channels
    simp only [State.channelZone, channels, State.enterZone_zones, State.updZone_get]
    split <;> rfl
  rw [(Keeps.of_enterZone s z st).channels, zone]
  have kept (away : st ≠ .dumped) : s.channels[c].Bounds (if z = s.channels[c].zone then st else s.channelZone c)
      s.outputs[c].setpoint := by
    split
    · exact own.of_window away own.window
    · exact own
  cases st
  case normal | unloading | unloaded | reloading => exact kept (by decide)
  case held =>
    have setpoint : ((s.enterZone z .held).outputs[c]).setpoint = s.outputs[c].setpoint := by
      simp only [State.enterZone, State.captureHeld, State.setOutputs_outputs, Fin.getElem_fin, Vector.getElem_ofFn]
      split <;> rfl
    rw [setpoint]
    exact kept (by decide)
  case dumped =>
    have setpoint : ((s.enterZone z .dumped).outputs[c]).setpoint
        = if s.channels[c].zone = z then s.channels[c].ul else s.outputs[c].setpoint := by
      simp only [State.enterZone, State.dumpMembers, State.setOutputs_outputs, Fin.getElem_fin, Vector.getElem_ofFn,
        State.updZone_channels, State.updZone_outputs]
      by_cases member : s.channels[c.val].zone = z <;> simp [member]
    rw [setpoint]
    by_cases member : z = s.channels[c].zone
    · rw [if_pos member, if_pos member.symm]
      exact own.ul _
    · rw [if_neg member, if_neg (Ne.symm member)]
      exact own

@[simp] theorem State.syncPause_outputs (s : State) : s.syncPause.outputs = s.outputs := by
  unfold State.syncPause
  split
  · split <;> rfl
  · split <;> rfl
  · rfl
  · rfl

theorem setpointsBound_lists (d : Bool) : Lists d fun s t => s.SetpointsBound → t.SetpointsBound where
  refl _ := id
  trans h k := k ∘ h
  addEvent _ _ := id
  record _ _ := id
  setTagCounter _ _ := id
  relist _ z f same hs := hs.updZone z fun x => by rw [same]
  changeZone s z st hs := by
    unfold State.changeZone
    split
    · exact hs
    · dsimp only
      have entered := hs.enterZone z st
      split
      · exact entered
      · exact State.SetpointsBound.of_eq (s := s.enterZone z st) entered (by simp) (by simp) (by simp)

theorem setpointsBound_generates : Generates fun s t => s.SetpointsBound → t.SetpointsBound where
  refl _ := id
  trans h k := k ∘ h
  setGen _ _ := id
  addEvent _ _ := id
  record _ _ := id
  setActiveSet _ _ := id
  setCommit _ _ := id

theorem setpointsBound_updates : Updates fun s t => s.SetpointsBound → t.SetpointsBound where
  toChains := setpointsBound_generates.toChains
  updateGenerator := setpointsBound_generates.updateGenerator
  syncPause := setpointsBound_generates.syncPause
  lists := setpointsBound_lists
  computeSetpoints s d hs := by
    rw [State.setpointsBound_iff]
    intro c
    have output : (s.computeSetpoints d).outputs[c] = s.outputOf d c := by simp [State.computeSetpoints]
    rw [output]
    exact s.outputOf_bounds hs d c
  updGauge _ _ _ _ := id
  setAuto _ _ _ _ := id

theorem Channel.not_conflicting_window {ch : Channel} (h : ch.conflicting = false) :
    ch.fmin.toInt ≤ ch.ul.toInt ∧ ch.ul.toInt ≤ ch.fmax.toInt := by
  simp only [Channel.conflicting, Bool.or_eq_false_iff, decide_eq_false_iff_not] at h
  omega

/-- SET_CHANNEL brings the setpoint inside the new window, or to UL while the new zone is DUMPED (R61). -/
theorem State.SetpointsBound.replaceChannel {s : State} (hs : s.SetpointsBound) (c : Fin 8) {ch : Channel}
    (agrees : ch.conflicting = false) : (s.replaceChannel c ch).SetpointsBound := by
  have window := Channel.not_conflicting_window agrees
  rw [State.setpointsBound_iff] at hs ⊢
  intro k
  by_cases same : c = k
  · subst same
    have channel : (s.replaceChannel c ch).channels[c] = ch := by simp [State.replaceChannel]
    have zone : (s.replaceChannel c ch).channelZone c = s.zones[ch.zone].state := by
      simp only [State.channelZone, channel]; rfl
    have output : (s.replaceChannel c ch).outputs[c].setpoint
        = if s.zones[ch.zone].state = .dumped then ch.ul else limit s.outputs[c].setpoint ch.fmin ch.fmax := by
      simp [State.replaceChannel]
    rw [channel, zone, output]
    split
    · exact ⟨window, fun _ => rfl, fun _ => window⟩
    · next away => exact ⟨window, fun dumped => absurd dumped away, fun _ => limit_between (Int.le_trans window.1 window.2) _⟩
  · have other : c.val ≠ k.val := fun h => same (Fin.ext h)
    have channel : (s.replaceChannel c ch).channels[k] = s.channels[k] := by simp [State.replaceChannel, other]
    have zone : (s.replaceChannel c ch).channelZone k = s.channelZone k := by
      simp only [State.channelZone, channel]; rfl
    have output : (s.replaceChannel c ch).outputs[k] = s.outputs[k] := by simp [State.replaceChannel, other]
    rw [channel, zone, output]
    exact hs k

theorem State.reinit_setpointsBound (s : State) : s.reinit.SetpointsBound := by
  have channels : s.reinit.channels = State.reset.channels := by rw [State.reinit_eq, State.restarted_eq]; rfl
  have outputs : s.reinit.outputs = State.reset.outputs := by rw [State.reinit_eq, State.restarted_eq]; rfl
  have reset : State.reset.SetpointsBound := by decide +kernel
  refine reset.of_eq channels outputs fun z => ?_
  obtain ⟨tag, zone⟩ := s.reinit_zones z
  rw [zone]
  match z with
  | 0 | 1 | 2 | 3 => rfl

theorem setpointsBound_invariant : Invariant State.SetpointsBound where
  unread _ times outputs zones _ _ hs := hs.of_eq times.channels outputs fun z => by rw [zones]
  raise own _ := (setpointsBound_lists false).raise _ _ own
  clear s x _ := (setpointsBound_lists false).clear s x
  sampleStop := (setpointsBound_lists false).sampleStop (fun _ _ _ => id) fun _ _ => id
  clearTimerTick := (setpointsBound_lists false).clearTimerTick
  update := setpointsBound_updates.update
  reset := by decide +kernel
  own e := by
    cases e
    case reinit s => exact fun _ => s.reinit_setpointsBound
    case writeBlock | startIndex => exact id
    case start => exact setpointsBound_generates.startProgram _
    case pause => exact setpointsBound_generates.afterPause _
    case resume => exact setpointsBound_generates.afterResume _
    case stop => exact setpointsBound_generates.afterStop _ _
    case advance => exact setpointsBound_generates.afterAdvance _
    case store e =>
      cases e with
      | channel _ agrees => exact fun hs => hs.replaceChannel _ agrees
      | frame | gauge | crack => exact id
    case release => exact (setpointsBound_lists false).removeEntry _ _ _ _
    case reloadZone => exact (setpointsBound_lists false).changeZone _ _ _
    case replaceZone s z isolate u r =>
      have configured (hs : s.SetpointsBound) :
          (s.updZone z fun x => { x with isolate := isolate, unloadRate := u, reloadRate := r }).SetpointsBound :=
        hs.updZone z fun _ => rfl
      unfold State.replaceZone
      dsimp only
      split
      · exact configured
      · exact setpointsBound_generates.syncPause _ ∘ configured

/-- Settles O58: the stages of an update and every entry into a zone state keep each channel's setpoint bound. -/
theorem stepsKeepSetpointsInTheWindow : Obligations.StepsKeepSetpointsInTheWindow :=
  fun _ _ run => setpointsBound_invariant.step run

end Sys2Proof.Machine


/-! Chains (section 2.4): a step of a chain for each kind of block, where a chain can end, and which loop counters it changes. -/
namespace Sys2Proof.Machine

variable {program : Vector Block 64} {left candidate : Nat} {loops : Vector Half 64} {jumped : Bool}

/-! ### One block -/

theorem chain_of_past (h : 64 ≤ candidate) : chain program left candidate loops jumped = (loops, .ends 63 .done) := by
  unfold chain
  rw [dif_neg (Nat.not_lt.mpr h)]

theorem chain_of_stop {i : Fin 64} (h : program[i] = .stop) :
    chain program left i.val loops jumped = (loops, .ends i .done) := by
  rw [Fin.getElem_fin] at h
  unfold chain
  rw [dif_pos i.isLt]
  simp only [h]

theorem chain_of_limit {i j : Fin 64} {k : Half} (h : program[i] = .jump j k) :
    chain program 0 i.val loops jumped = (loops, .ends i .loopLimit) := by
  rw [Fin.getElem_fin] at h
  unfold chain
  rw [dif_pos i.isLt]
  simp only [h]

theorem chain_of_taken {i j : Fin 64} {k : Half} (h : program[i] = .jump j k) (less : loops[i].toNat < k.toNat) :
    chain program (left + 1) i.val loops jumped = chain program left j.val (loops.set i (loops[i] + 1#16)) true := by
  rw [Fin.getElem_fin] at h less
  rw [chain.eq_def, dif_pos i.isLt]
  simp only [h, if_pos less]
  rfl

theorem chain_of_through {i j : Fin 64} {k : Half} (h : program[i] = .jump j k) (through : ¬ loops[i].toNat < k.toNat) :
    chain program (left + 1) i.val loops jumped = chain program left (i.val + 1) (loops.set i 0#16) jumped := by
  rw [Fin.getElem_fin] at h through
  rw [chain.eq_def, dif_pos i.isLt]
  simp only [h, if_neg through]

/-! ### Where a chain ends -/

/-- A chain ends at a block that governs, at a STOP or past the last block, or at a JUMP beyond the limit. -/
theorem chain_ends :
    match (chain program left candidate loops jumped).2 with
    | .governs i _ => program[i].governs = true
    | .ends i .loopLimit => program[i].kind = .jump
    | .ends i .done => program[i] = .stop ∨ i = 63
    | .ends _ _ => False := by
  fun_induction chain program left candidate loops jumped with
  | case1 _ _ _ _ _ _ _ block | case2 _ _ _ _ _ _ block | case3 _ _ _ _ _ _ _ _ block => simp [block, Block.governs]
  | case4 _ _ _ _ _ block => exact .inl block
  | case5 _ _ _ _ _ _ block => simp [block, Block.kind]
  | case6 _ _ _ _ _ _ _ _ _ ih => exact ih
  | case7 _ _ _ _ _ _ _ _ _ ih => exact ih
  | case8 => exact .inr rfl

theorem chain_governs {i : Fin 64} {j : Bool} (h : (chain program left candidate loops jumped).2 = .governs i j) :
    program[i].governs = true := by
  have ends := chain_ends (program := program) (left := left) (candidate := candidate) (loops := loops) (jumped := jumped)
  rwa [h] at ends

/-! ### The loop counters -/

/-- What holds of the loop counters, and of them after a JUMP is evaluated, holds after a chain. -/
theorem chain_loops {P : Vector Half 64 → Prop} (start : P loops)
    (evaluate : ∀ (l : Vector Half 64) (i j : Fin 64) (k x : Half), program[i] = .jump j k → x.toNat ≤ k.toNat → P l → P (l.set i x)) :
    P (chain program left candidate loops jumped).1 := by
  fun_induction chain program left candidate loops jumped with
  | case1 | case2 | case3 | case4 | case5 | case8 => exact start
  | case6 candidate loops _ inside _ repeats block _ less ih =>
    refine ih (evaluate loops ⟨candidate, inside⟩ _ repeats _ block ?_ start)
    rw [BitVec.toNat_add]
    exact Nat.le_trans (Nat.mod_le _ _) less
  | case7 candidate loops _ inside _ repeats block _ _ ih =>
    exact ih (evaluate loops ⟨candidate, inside⟩ _ repeats _ block (Nat.zero_le _) start)

/-- A chain changes the loop counters of JUMP blocks only. -/
theorem chain_changes {i : Fin 64} (h : (chain program left candidate loops jumped).1[i] ≠ loops[i]) :
    program[i].kind = .jump := by
  refine Classical.byContradiction fun other => ?_
  refine h (chain_loops (P := fun l => l[i] = loops[i]) rfl fun l c j k x block _ same => ?_)
  have apart : c.val ≠ i.val := by
    intro eq
    rw [Fin.ext eq] at block
    exact other (by rw [block]; rfl)
  rw [← same]
  exact Vector.getElem_set_ne _ _ apart

/-- The indices at which two tables of loop counters differ. -/
def changed (r l : Vector Half 64) : Nat := (List.finRange 64).countP fun i => r[i] != l[i]

theorem changed_set (r l : Vector Half 64) (c : Fin 64) (x : Half) : changed r l ≤ changed r (l.set c x) + 1 := by
  have once : (List.finRange 64).countP (fun i => i == c) ≤ 1 := List.nodup_iff_count.mp (List.nodup_finRange 64) c
  refine Nat.le_trans ?_ (Nat.add_le_add_left once _)
  rw [changed, changed]
  induction List.finRange 64 with
  | nil => simp
  | cons i m ih =>
    simp only [List.countP_cons]
    by_cases here : i = c
    · simp only [here, beq_self_eq_true, if_true]
      split <;> omega
    · have apart : c.val ≠ i.val := fun h => here (Fin.ext h.symm)
      have kept : (l.set c x)[i] = l[i] := Vector.getElem_set_ne _ _ apart
      rw [kept]
      have : (i == c) = false := by simpa using here
      simp only [this]
      omega

/-- A chain changes at most as many loop counters as it may evaluate JUMPs. -/
theorem changed_chain : changed (chain program left candidate loops jumped).1 loops ≤ left := by
  fun_induction chain program left candidate loops jumped with
  | case1 | case2 | case3 | case4 | case5 | case8 => simp [changed]
  | case6 candidate loops _ inside _ _ _ _ _ ih =>
    exact Nat.le_trans (changed_set _ loops ⟨candidate, inside⟩ _) (Nat.succ_le_succ ih)
  | case7 candidate loops _ inside _ _ _ _ _ ih =>
    exact Nat.le_trans (changed_set _ loops ⟨candidate, inside⟩ _) (Nat.succ_le_succ ih)

/-- Settles O28: the step of a chain for each kind of block, and where it ends. -/
theorem chainsEvaluateJumps : Obligations.ChainsEvaluateJumps := by
  intro program loops jumped
  refine ⟨fun left i j k block => ⟨chain_of_taken block, fun through => chain_of_through block (by simp [through]),
      chain_of_limit block⟩, fun left i => ⟨fun governs => chain_of_governs governs left loops jumped, chain_of_stop⟩,
    fun left candidate => chain_of_past, fun candidate => ?_⟩
  have ends := chain_ends (program := program) (left := 8) (candidate := candidate) (loops := loops) (jumped := jumped)
  refine ⟨fun i b h => chain_governs h, fun i h => ?_, fun i h => ?_, fun i => chain_changes, ?_⟩
  · rwa [h] at ends
  · rwa [h] at ends
  · rw [← List.countP_eq_length_filter]
    exact changed_chain

end Sys2Proof.Machine


/-! What an operation can do to the generator record, as one inversion lemma for an update and an equation for each other one
(sections 2.2 to 2.4), and from it what every step keeps of the generator and its loop counters. -/
namespace Sys2Proof.Machine

/-! ### The generator record after each operation -/

/-- The generator after a block transition from a candidate index (R32 to R35). -/
def Generator.transitioned (g : Generator) (candidate : Nat) (fromStart byAdvance : Bool) : Generator :=
  match chain g.program Config.jumpLimit candidate g.loops false with
  | (loops, .governs i jumped) =>
    { { g with loops := loops }.enter i with lastReason := startReason fromStart byAdvance jumped }
  | (loops, .ends _ reason) => { { g with loops := loops }.rest .done with lastReason := reason }

/-- The generator after acting on its pause inputs (R21, R146). -/
def Generator.synced (g : Generator) (demand : Bool) : Generator :=
  match g.state, demand || g.requestedPause with
  | .running, true => { g with state := .paused, lastReason := .pause }
  | .paused, false => { g with state := .running, lastReason := .resume }
  | .running, false | .paused, true | .stopped, _ | .done, _ => g

theorem State.transition_gen (s : State) (n : Nat) (a b : Bool) : (s.transition n a b).gen = s.gen.transitioned n a b := by
  unfold State.transition Generator.transitioned
  split
  · next found => simp only [found, State.programRecord_gen, State.setGen_gen]
  · next found => simp only [found, State.programRecord_gen, State.setGen_gen]

@[simp] theorem State.moveGenerator_gen (s : State) (st : GenState) (r : Reason) :
    (s.moveGenerator st r).gen = { s.gen with state := st, lastReason := r } := by
  simp [State.moveGenerator]

@[simp] theorem State.stopGenerator_gen (s : State) :
    s.stopGenerator.gen = { s.gen.rest .stopped with lastReason := .stop } := by
  simp [State.stopGenerator]

theorem State.syncPause_gen (s : State) : s.syncPause.gen = s.gen.synced s.pauseDemand := by
  unfold State.syncPause Generator.synced
  cases s.gen.state <;> cases s.pauseDemand || s.gen.requestedPause <;> simp

/-- What the generator's part of an update does to its record: nothing out of RUNNING; a step of a block that goes on; or the end of
one, into the next block, DONE or STOPPED (R26 to R30). -/
inductive Generator.Advances (g : Generator) : Generator → Prop
  | still : g.Advances g
  | ramping {target rate : Half} (block : g.currentBlock = some (.ramp target rate)) (mean : Half) :
      g.Advances { g with mean := mean }
  | dwelling {d : Word} (block : g.currentBlock = some (.dwell d)) (left : 1 < g.countdown.toNat) :
      g.Advances { g with countdown := BitVec.ofNat 32 (g.countdown.toNat - 1) }
  | timedEnds (running : g.state = .running) (timed : g.cycling = false) (mean : Half) (countdown : Word) (n : Nat) (b : Bool) :
      g.Advances ({ g with mean := mean, countdown := countdown }.transitioned n false b)
  | turning (cycle : g.cycling = true) (phase : Word) : g.Advances { g with phase := phase }
  | boundary (cycle : g.cycling = true) (goesOn : g.cycleEnds = false) (phase : Word) :
      g.Advances { g with cycles := g.cyclesAfter, remaining := g.remainingAfter, phase := phase }
  | cycleEnds (running : g.state = .running) (noStop : g.pendingStop = false) (cycles : Cycle40) (remaining phase : Word)
      (n : Nat) (b : Bool) :
      g.Advances ({ g with cycles := cycles, remaining := remaining, phase := phase }.transitioned n false b)
  | stops (cycles : Cycle40) (remaining phase : Word) :
      g.Advances { { g with cycles := cycles, remaining := remaining, phase := phase }.rest .stopped with lastReason := .stop }

theorem State.boundarySteps_advances {s : State} (running : s.gen.state = .running) (cycle : s.gen.cycling = true) (i : Fin 64) :
    s.gen.Advances (s.boundarySteps i).gen := by
  unfold State.boundarySteps
  dsimp only
  split
  · split
    · rw [State.stopGenerator_gen]
      exact .stops _ _ _
    · next noStop =>
      rw [State.transition_gen]
      exact .cycleEnds running (by simpa using noStop) _ _ _ _ _
  · next goesOn => exact .boundary cycle (by simpa using goesOn) _

theorem State.advance_advances (s : State) : s.gen.Advances s.advance.gen := by
  unfold State.advance
  split
  · next running =>
    unfold State.advanceBlock
    split
    · next block =>
      have timed : s.gen.cycling = false := by simp [Generator.cycling, block]
      extract_lets mean t
      split
      · rw [State.transition_gen]
        exact .timedEnds running timed mean s.gen.countdown _ _
      · exact .ramping block mean
    · next block =>
      have timed : s.gen.cycling = false := by simp [Generator.cycling, block]
      dsimp only
      split
      · rw [State.transition_gen]
        exact .timedEnds running timed s.gen.mean _ _ _
      · next left => exact .dwelling block (by omega)
    · next block =>
      have cycle : s.gen.cycling = true := by simp [Generator.cycling, block]
      split
      · exact State.boundarySteps_advances running cycle _
      · exact .turning cycle _
    · exact .still
  all_goals exact .still

/-- The generator's part of an update leaves the zone pause demand, and does to the generator what `Generator.Advances` lists. -/
theorem State.updateGenerator_advances (s : State) : s.gen.Advances s.updateGenerator.gen := by
  have now : s.commitNow.gen = s.gen := by
    unfold State.commitNow
    split <;> rfl
  have later (t : State) : t.commitAtBoundary.gen = t.gen := by
    unfold State.commitAtBoundary
    split <;> rfl
  have step := s.commitNow.advance_advances
  rw [now] at step
  unfold State.updateGenerator
  dsimp only
  split
  · rw [later]; exact step
  · exact step

/-- The generator's part of an update and its requests leave the zone records. -/
theorem zones_generates : Generates fun s t => t.zones = s.zones where
  refl _ := rfl
  trans h k := k.trans h
  setGen _ _ := rfl
  addEvent _ _ := rfl
  record _ _ := rfl
  setActiveSet _ _ := rfl
  setCommit _ _ := rfl

theorem State.pauseDemand_congr {s t : State} (h : t.zones = s.zones) : t.pauseDemand = s.pauseDemand := by
  simp only [State.pauseDemand, h]

/-! ### Properties that a pause and a resume keep -/

theorem State.enterZone_gen (s : State) (z : Fin 4) (st : ZoneState) : (s.enterZone z st).gen = s.gen := by
  cases st <;> rfl

theorem State.autoSnapshot_gen (s : State) : s.autoSnapshot.gen = s.gen := by
  unfold State.autoSnapshot
  split
  · rfl
  · split
    · rfl
    · split <;> rfl


/-- A property of the generator that its moves between RUNNING and PAUSED keep. -/
def Toggles (P : Generator → Prop) : Prop :=
  ∀ (g : Generator) (st : GenState) (r : Reason), g.state = .running ∨ g.state = .paused → st = .running ∨ st = .paused → P g →
    P { g with state := st, lastReason := r }

namespace Toggles
variable {P : Generator → Prop} (h : Toggles P)
include h

theorem synced {g : Generator} (hg : P g) (demand : Bool) : P (g.synced demand) := by
  unfold Generator.synced
  split
  · next running _ => exact h _ _ _ (.inl running) (.inr rfl) hg
  · next paused _ => exact h _ _ _ (.inr paused) (.inl rfl) hg
  all_goals exact hg

theorem syncPause (s : State) (hs : P s.gen) : P s.syncPause.gen := by
  rw [State.syncPause_gen]
  exact h.synced hs _

theorem lists (d : Bool) : Lists d fun s t => P s.gen → P t.gen where
  refl _ := id
  trans h k := k ∘ h
  addEvent _ _ := id
  record _ _ := id
  setTagCounter _ _ := id
  relist _ _ _ _ := id
  changeZone s z st hs := by
    have entered : P (s.enterZone z st).gen := by rwa [State.enterZone_gen]
    unfold State.changeZone
    split
    · exact hs
    · dsimp only
      split
      · exact entered
      · exact h.syncPause _ entered

theorem strains : Strains fun s t => P s.gen → P t.gen where
  toChains := (h.lists false).toChains
  raise own _ := (h.lists false).raise _ _ own
  clear s x _ := (h.lists false).clear s x
  updGauge _ _ _ _ := id

/-- The boundary notice up to the pause that comes last. -/
theorem autoSnapshot (s : State) (hs : P s.gen) : P s.boundaryRemovals.closeCycles.autoSnapshot.gen := by
  rw [State.autoSnapshot_gen]
  exact h.strains.closeCycles (fun own _ => (h.lists true).raise _ _ own) _ ((h.lists false).boundaryRemovals s hs)

end Toggles

/-! ### A lawful generator -/

/-- What is lawful of the generator's own record (section 2.2, R24, R29, R34). -/
structure Generator.Shaped (g : Generator) : Prop where
  executing : (g.state = .running ∨ g.state = .paused) ↔ g.current.isSome
  governs : ∀ b, g.currentBlock = some b → b.governs = true
  bare : g.current = none → g.requestedPause = false ∧ g.pendingAdvance = false ∧ g.pendingStop = false
  phase : g.cycling = false → g.phase = 0#32 ∧ g.pendingStop = false

/-- RUNNING stands without either pause input, PAUSED with one (R21). -/
structure Generator.Paced (g : Generator) (demand : Bool) : Prop where
  running : g.state = .running → demand = false ∧ g.requestedPause = false
  paused : g.state = .paused → demand = true ∨ g.requestedPause = true

theorem State.generatorLawful_iff (s : State) : s.GeneratorLawful ↔ s.gen.Shaped ∧ s.gen.Paced s.pauseDemand :=
  ⟨fun ⟨executing, governs, running, paused, bare, phase⟩ => ⟨⟨executing, governs, bare, phase⟩, running, paused⟩,
    fun ⟨⟨executing, governs, bare, phase⟩, running, paused⟩ => ⟨executing, governs, running, paused, bare, phase⟩⟩

/-- A generator with no block current and nothing pending is lawful in STOPPED and DONE. -/
theorem Generator.resting_lawful {x : Generator} (demand : Bool) (state : x.state = .stopped ∨ x.state = .done) (current : x.current = none)
    (phase : x.phase = 0#32) (pause : x.requestedPause = false) (advance : x.pendingAdvance = false)
    (stop : x.pendingStop = false) : x.Shaped ∧ x.Paced demand :=
  ⟨⟨by cases state <;> simp_all, by simp [Generator.currentBlock, current], fun _ => ⟨pause, advance, stop⟩,
    fun _ => ⟨phase, stop⟩⟩, by cases state <;> simp_all, by cases state <;> simp_all⟩

/-- A block entered without a pause input and with no stop pending leaves the generator lawful. -/
theorem Generator.entered_lawful {x : Generator} {i : Fin 64} (state : x.state = .running) (current : x.current = some i)
    (governs : x.program[i].governs = true) (phase : x.phase = 0#32) (stop : x.pendingStop = false)
    (pause : x.requestedPause = false) : x.Shaped ∧ x.Paced false :=
  ⟨⟨by simp [state, current], by simpa [Generator.currentBlock, current] using governs, by simp [current],
    fun _ => ⟨phase, stop⟩⟩, fun _ => ⟨rfl, pause⟩, by simp [state]⟩

namespace Generator.Shaped
variable {g : Generator}

/-- A change of the generator that leaves its state and its current block as they are. -/
theorem of_same (h : g.Shaped) {x : Generator} (state : x.state = g.state) (current : x.current = g.current)
    (block : x.currentBlock = g.currentBlock)
    (bare : x.current = none → x.requestedPause = g.requestedPause ∧ x.pendingAdvance = g.pendingAdvance
      ∧ x.pendingStop = g.pendingStop)
    (phase : x.cycling = false → x.phase = g.phase ∧ x.pendingStop = g.pendingStop) : x.Shaped := by
  have cycling : x.cycling = g.cycling := by simp only [Generator.cycling, block]
  refine ⟨by rw [state, current]; exact h.executing, by rw [block]; exact h.governs, fun none => ?_, fun away => ?_⟩
  · obtain ⟨pause, advance, stop⟩ := bare none
    rw [pause, advance, stop]
    exact h.bare (current ▸ none)
  · obtain ⟨same, stop⟩ := phase away
    rw [same, stop]
    exact h.phase (cycling ▸ away)

/-- A change of the generator state between RUNNING and PAUSED. -/
theorem toggled (h : g.Shaped) (executing : g.state = .running ∨ g.state = .paused) {st : GenState}
    (other : st = .running ∨ st = .paused) (r : Reason) : { g with state := st, lastReason := r }.Shaped where
  executing := ⟨fun _ => h.executing.mp executing, fun _ => other⟩
  governs := h.governs
  bare := h.bare
  phase := h.phase

end Generator.Shaped

theorem Generator.Shaped.toggles : Toggles Generator.Shaped := fun _ _ r executing other h => h.toggled executing other r

theorem Generator.synced_paced (g : Generator) (demand : Bool) : (g.synced demand).Paced demand := by
  unfold Generator.synced
  split
  · next inputs => exact ⟨by simp, fun _ => by simpa using inputs⟩
  · next inputs => exact ⟨fun _ => by simpa using inputs, by simp⟩
  · next running inputs => exact ⟨fun _ => by simpa using inputs, by simp [running]⟩
  · next paused inputs => exact ⟨by simp [paused], fun _ => by simpa using inputs⟩
  · next stopped => exact ⟨by simp [stopped], by simp [stopped]⟩
  · next done => exact ⟨by simp [done], by simp [done]⟩

/-- A transition with neither a pause input nor a pending stop leaves the generator lawful. -/
theorem Generator.transitioned_lawful {g : Generator} (pause : g.requestedPause = false) (stop : g.pendingStop = false) (n : Nat)
    (a b : Bool) : (g.transitioned n a b).Shaped ∧ (g.transitioned n a b).Paced false := by
  unfold Generator.transitioned
  split
  · next loops i jumped found =>
    have governs : g.program[i].governs = true := chain_governs (congrArg Prod.snd found)
    unfold Generator.enter
    dsimp only
    split <;> exact Generator.entered_lawful rfl rfl governs rfl stop pause
  · exact Generator.resting_lawful _ (.inr rfl) rfl rfl rfl rfl rfl

/-- An update of the generator's record keeps it lawful. -/
theorem Generator.Advances.lawful {g x : Generator} (h : g.Advances x) {demand : Bool} (shaped : g.Shaped)
    (paced : g.Paced demand) : x.Shaped ∧ x.Paced demand := by
  have same {y : Generator} (state : y.state = g.state) (pause : y.requestedPause = g.requestedPause) : y.Paced demand :=
    ⟨by rw [state, pause]; exact paced.running, by rw [state, pause]; exact paced.paused⟩
  cases h with
  | still => exact ⟨shaped, paced⟩
  | ramping | dwelling => exact ⟨shaped.of_same rfl rfl rfl (fun _ => ⟨rfl, rfl, rfl⟩) fun _ => ⟨rfl, rfl⟩, same rfl rfl⟩
  | turning cycle | boundary cycle =>
    exact ⟨shaped.of_same rfl rfl rfl (fun _ => ⟨rfl, rfl, rfl⟩) fun away => absurd (cycle.symm.trans away) (by simp), same rfl rfl⟩
  | timedEnds running timed =>
    obtain ⟨rfl, pause⟩ := paced.running running
    exact Generator.transitioned_lawful (by exact pause) (by exact (shaped.phase timed).2) _ _ _
  | cycleEnds running noStop =>
    obtain ⟨rfl, pause⟩ := paced.running running
    exact Generator.transitioned_lawful (by exact pause) (by exact noStop) _ _ _
  | stops => exact Generator.resting_lawful _ (.inl rfl) rfl rfl rfl rfl rfl

/-! ### Every operation -/

theorem State.GeneratorLawful.of_eq {s t : State} (hs : s.GeneratorLawful) (gen : t.gen = s.gen)
    (demand : t.pauseDemand = s.pauseDemand) : t.GeneratorLawful := by
  rw [State.generatorLawful_iff] at hs ⊢
  rwa [gen, demand]

/-- Acting on the pause inputs makes a generator lawful whose own record is. -/
theorem State.syncPause_lawful {s : State} (h : s.gen.Shaped) : s.syncPause.GeneratorLawful := by
  rw [State.generatorLawful_iff, State.syncPause_gen, State.pauseDemand_congr s.syncPause_zones]
  exact ⟨Generator.Shaped.toggles.synced h _, s.gen.synced_paced _⟩

theorem State.pauseDemand_updZone {s : State} (z : Fin 4) {f : Zone → Zone} (same : ∀ x, (f x).demandsPause = x.demandsPause) :
    (s.updZone z f).pauseDemand = s.pauseDemand := by
  have each (y : Fin 4) : (s.updZone z f).zones[y].demandsPause = s.zones[y].demandsPause := by
    rw [State.updZone_get]
    split
    · next here => rw [same, here]
    · rfl
  simp only [State.pauseDemand, each]

theorem generatorLawful_lists : Lists false fun s t => s.GeneratorLawful → t.GeneratorLawful where
  refl _ := id
  trans h k := k ∘ h
  addEvent _ _ := id
  record _ _ := id
  setTagCounter _ _ := id
  relist _ z f entries hs := hs.of_eq rfl (State.pauseDemand_updZone z fun x => by rw [entries]; rfl)
  changeZone s z st hs := by
    unfold State.changeZone
    split
    · exact hs
    · exact State.syncPause_lawful (by
        simpa [State.enterZone_gen] using (s.generatorLawful_iff.mp hs).1)

theorem State.GeneratorLawful.boundaryNotice {s : State} (hs : s.GeneratorLawful) : s.boundaryNotice.GeneratorLawful := by
  unfold State.boundaryNotice
  exact State.syncPause_lawful (Generator.Shaped.toggles.autoSnapshot s (s.generatorLawful_iff.mp hs).1)

theorem State.GeneratorLawful.update {s : State} (hs : s.GeneratorLawful) : s.update.GeneratorLawful := by
  have generated : s.updateSetpoints.GeneratorLawful := by
    have advanced : s.updateGenerator.GeneratorLawful := by
      rw [State.generatorLawful_iff] at hs ⊢
      rw [State.pauseDemand_congr (zones_generates.updateGenerator s)]
      exact s.updateGenerator_advances.lawful hs.1 hs.2
    exact advanced.of_eq rfl rfl
  have reported := generatorLawful_lists.arrive _ s.updateDemand generated
  unfold State.update
  dsimp only
  split
  · exact reported.boundaryNotice
  · exact reported

theorem State.pauseDemand_of_allNormal {s : State} (h : s.allNormal = true) : s.pauseDemand = false := by
  simp only [State.allNormal, Bool.and_eq_true, beq_iff_eq] at h
  obtain ⟨⟨⟨h0, h1⟩, h2⟩, h3⟩ := h
  simp only [State.pauseDemand, Zone.demandsPause, h0, h1, h2, h3]
  simp

theorem Generator.Shaped.resting {g : Generator} (h : g.Shaped) (resting : g.executing = false) : g.current = none := by
  have away : ¬ (g.state = .running ∨ g.state = .paused) := by simpa [Generator.executing] using resting
  simpa [h.executing] using away

theorem Generator.Shaped.executing_iff {g : Generator} (h : g.Shaped) : g.executing = true ↔ g.current.isSome := by
  simp [Generator.executing, h.executing]

theorem Generator.Shaped.current_ne_none {g : Generator} (h : g.Shaped) (executing : g.executing = true) : g.current ≠ none := by
  rw [← Option.isSome_iff_ne_none]
  exact h.executing_iff.mp executing

/-- WRITE_BLOCK to another index leaves the current block. -/
theorem Generator.currentBlock_set {g : Generator} {i : Fin 64} (other : g.current ≠ some i) (b : Block) (loops : Vector Half 64) :
    { g with program := g.program.set i b, loops := loops }.currentBlock = g.currentBlock := by
  cases current : g.current with
  | none => simp [Generator.currentBlock, current]
  | some j =>
    have apart : i.val ≠ j.val := fun same => other (by rw [current, Fin.ext same])
    simp [Generator.currentBlock, current, apart]

/-- The requests of the generator keep it lawful. -/
theorem generatorLawful_own {s t : State} (e : Own s t) (hs : s.GeneratorLawful) : t.GeneratorLawful := by
  have ⟨shaped, paced⟩ := s.generatorLawful_iff.mp hs
  have lawful {u : State} (demand : u.pauseDemand = s.pauseDemand) (h : u.gen.Shaped) (k : u.gen.Paced s.pauseDemand) :
      u.GeneratorLawful := u.generatorLawful_iff.mpr ⟨h, demand ▸ k⟩
  cases e
  case reinit =>
    rw [State.generatorLawful_iff, State.reinit_gen]
    exact Generator.resting_lawful _ (.inl rfl) rfl rfl rfl rfl rfl
  case startIndex => exact hs
  case store e => cases e <;> exact hs
  case release => exact generatorLawful_lists.removeEntry _ _ _ _ hs
  case reloadZone => exact generatorLawful_lists.changeZone _ _ _ hs
  case replaceZone z isolate u r =>
    unfold State.replaceZone
    dsimp only
    split
    · next same => exact hs.of_eq rfl same
    · exact State.syncPause_lawful (by exact shaped)
  case writeBlock i b block free =>
    have other : s.gen.current ≠ some i := fun same => free ⟨shaped.executing_iff.mpr (by simp [same]), same⟩
    exact lawful rfl (shaped.of_same rfl rfl (Generator.currentBlock_set other _ _) (fun _ => ⟨rfl, rfl, rfl⟩) fun _ => ⟨rfl, rfl⟩)
      ⟨paced.running, paced.paused⟩
  case start resting normal =>
    obtain ⟨pause, -, stop⟩ := shaped.bare (shaped.resting resting)
    rw [State.generatorLawful_iff, State.pauseDemand_congr (zones_generates.startProgram s), State.pauseDemand_of_allNormal normal,
      State.startProgram, State.transition_gen]
    exact Generator.transitioned_lawful (by exact pause) (by rfl) _ _ _
  case pause =>
    have requested (executing : s.gen.executing = true) : { s.gen with requestedPause := true }.Shaped :=
      shaped.of_same rfl rfl rfl (fun none => absurd none (shaped.current_ne_none executing)) fun _ => ⟨rfl, rfl⟩
    unfold State.afterPause
    dsimp only
    by_cases executing : s.gen.executing = true
    · rw [if_pos executing]
      split
      · next running =>
        refine lawful (by rfl) ?_ ⟨by simp, by simp⟩
        rw [State.moveGenerator_gen]
        exact (requested executing).toggled (.inl running) (.inr rfl) _
      · next away =>
        exact lawful (by rfl) (requested executing) ⟨fun running => absurd running away, fun _ => .inr rfl⟩
    · rw [if_neg executing, if_neg fun running => executing (by simp [Generator.executing, running])]
      exact hs
  case resume =>
    have withdrawn : { s.gen with requestedPause := false }.Shaped :=
      shaped.of_same rfl rfl rfl (fun none => ⟨(shaped.bare none).1.symm, rfl, rfl⟩) fun _ => ⟨rfl, rfl⟩
    unfold State.afterResume
    dsimp only
    split
    · next absent =>
      obtain ⟨paused, absent⟩ := absent
      refine lawful (by rfl) ?_ ⟨fun _ => ⟨absent, by simp⟩, by simp⟩
      rw [State.moveGenerator_gen]
      exact withdrawn.toggled (.inr paused) (.inl rfl) _
    · next stays =>
      refine lawful (by rfl) withdrawn ⟨fun running => ⟨(paced.running running).1, rfl⟩, fun paused => .inl ?_⟩
      refine Classical.byContradiction fun absent => ?_
      exact stays ⟨paused, Bool.not_eq_true _ ▸ absent⟩
  case stop mode =>
    unfold State.afterStop
    split
    · next executing =>
      split
      · next cycle =>
        refine lawful rfl (shaped.of_same rfl rfl rfl (fun none => ?_) fun away => ?_) ⟨paced.running, paced.paused⟩
        · exact absurd none (shaped.current_ne_none executing)
        · exact absurd cycle.2 (by simp [show s.gen.cycling = false from away])
      · rw [State.generatorLawful_iff, State.stopGenerator_gen]
        exact Generator.resting_lawful _ (.inl rfl) rfl rfl rfl rfl rfl
    · exact hs
  case advance =>
    unfold State.afterAdvance
    split
    · next executing =>
      refine lawful rfl (shaped.of_same rfl rfl rfl (fun none => ?_) fun _ => ⟨rfl, rfl⟩) ⟨paced.running, paced.paused⟩
      exact absurd none (shaped.current_ne_none executing)
    · exact hs

theorem generatorLawful_invariant : Invariant State.GeneratorLawful where
  unread gen _ _ zones _ _ hs := hs.of_eq gen (State.pauseDemand_congr zones)
  raise own _ := generatorLawful_lists.raise _ _ own
  clear s x _ := generatorLawful_lists.clear s x
  sampleStop := generatorLawful_lists.sampleStop (fun _ _ _ => id) fun _ _ => id
  clearTimerTick := generatorLawful_lists.clearTimerTick
  update _ hs := hs.update
  reset := by
    rw [State.generatorLawful_iff]
    exact Generator.resting_lawful _ (.inl rfl) rfl rfl rfl rfl rfl
  own := generatorLawful_own

/-! ### Properties of the generator alone -/

/-- What has to be shown of a property of the generator that no pending mark and neither pause input bears on. -/
structure GeneratorInvariant (P : Generator → Prop) : Prop where
  toggles : Toggles P
  marked : ∀ {g : Generator} (pause advance stop : Bool) (i : Fin 64), P g →
    P { g with requestedPause := pause, pendingAdvance := advance, pendingStop := stop, startIndex := i }
  advances : ∀ {g x : Generator}, g.Advances x → P g → P x
  started : ∀ {g : Generator}, P g → ∀ n,
    P ({ g with
      loops := Vector.replicate 64 0#16, phase := 0#32, pendingAdvance := false, pendingStop := false }.transitioned n true false)
  stopped : ∀ {g : Generator}, P g → P { g.rest .stopped with lastReason := .stop }
  written : ∀ {g : Generator} {a : BlockArgs} {b : Block} (i : Fin 64), block? a = some b →
    ¬ (g.executing ∧ g.current = some i) → P g → P { g with program := g.program.set i b, loops := g.loops.set i 0#16 }
  reset : ∀ n, P { Generator.reset with cycles := n }

namespace GeneratorInvariant
variable {P : Generator → Prop} (h : GeneratorInvariant P)
include h

theorem update (s : State) (hs : P s.gen) : P s.update.gen := by
  have reported := (h.toggles.lists false).arrive s.updateSetpoints s.updateDemand (h.advances s.updateGenerator_advances hs)
  unfold State.update
  dsimp only
  split
  · exact h.toggles.syncPause _ (h.toggles.autoSnapshot _ reported)
  · exact reported

theorem own {s t : State} (e : Own s t) (hs : P s.gen) : P t.gen := by
  have marks (pause advance stop : Bool) (i : Fin 64) : P (s.setGen { s.gen with
      requestedPause := pause, pendingAdvance := advance, pendingStop := stop, startIndex := i }).gen := h.marked pause advance stop i hs
  cases e
  case reinit => rw [State.reinit_gen]; exact h.reset _
  case store e => cases e <;> exact hs
  case startIndex i => exact marks _ _ _ i
  case release => exact (h.toggles.lists false).removeEntry _ _ _ _ hs
  case reloadZone => exact (h.toggles.lists false).changeZone _ _ _ hs
  case replaceZone z isolate u r =>
    unfold State.replaceZone
    dsimp only
    split
    · exact hs
    · exact h.toggles.syncPause _ hs
  case writeBlock block free => exact h.written _ block free hs
  case start => rw [State.startProgram, State.transition_gen]; exact h.started hs _
  case pause =>
    unfold State.afterPause
    extract_lets _ u
    have requested : P u.gen := by
      unfold u
      split
      · exact marks true s.gen.pendingAdvance s.gen.pendingStop s.gen.startIndex
      · exact hs
    split
    · next running => rw [State.moveGenerator_gen]; exact h.toggles _ _ _ (.inl running) (.inr rfl) requested
    · exact requested
  case resume =>
    have withdrawn := marks false s.gen.pendingAdvance s.gen.pendingStop s.gen.startIndex
    unfold State.afterResume
    dsimp only
    split
    · next absent => rw [State.moveGenerator_gen]; exact h.toggles _ _ _ (.inr absent.1) (.inl rfl) withdrawn
    · exact withdrawn
  case stop =>
    unfold State.afterStop
    split
    · split
      · exact marks s.gen.requestedPause s.gen.pendingAdvance true s.gen.startIndex
      · rw [State.stopGenerator_gen]; exact h.stopped hs
    · exact hs
  case advance =>
    unfold State.afterAdvance
    split
    · exact marks s.gen.requestedPause true s.gen.pendingStop s.gen.startIndex
    · exact hs

theorem invariant : Invariant fun s => P s.gen where
  unread gen _ _ _ _ _ hs := gen ▸ hs
  raise own _ := (h.toggles.lists false).raise _ _ own
  clear s x _ := (h.toggles.lists false).clear s x
  sampleStop := (h.toggles.lists false).sampleStop (fun _ _ _ => id) fun _ _ => id
  clearTimerTick := (h.toggles.lists false).clearTimerTick
  update := h.update
  reset := h.reset _
  own := h.own

end GeneratorInvariant

/-! ### The loop counters -/

/-- Every JUMP block's loop counter is at most its repeat count (R33). -/
def Generator.Bounded (g : Generator) : Prop :=
  ∀ i : Fin 64, ∀ j k, g.program[i] = .jump j k → g.loops[i].toNat ≤ k.toNat

/-- The loop counters that a chain leaves are bounded. -/
theorem Generator.Bounded.transitioned {g : Generator} (h : g.Bounded) (n : Nat) (a b : Bool) : (g.transitioned n a b).Bounded := by
  have chained : { g with loops := (chain g.program Config.jumpLimit n g.loops false).1 }.Bounded := by
    refine chain_loops (P := fun l => { g with loops := l }.Bounded) h fun l i j k x block le bounded m j' k' jump => ?_
    by_cases here : i = m
    · subst here
      cases block.symm.trans jump
      simpa using le
    · have apart : i.val ≠ m.val := fun eq => here (Fin.ext eq)
      simpa [apart] using bounded m j' k' jump
  unfold Generator.transitioned
  split
  · next found =>
    rw [found] at chained
    unfold Generator.enter
    dsimp only
    split <;> exact chained
  · next found =>
    rw [found] at chained
    exact chained

theorem bounded_invariant : GeneratorInvariant Generator.Bounded where
  toggles _ _ _ _ _ := id
  marked _ _ _ _ := id
  advances step hg := by
    cases step with
    | still | ramping | dwelling | turning | boundary | stops => exact hg
    | timedEnds | cycleEnds => exact Generator.Bounded.transitioned (by exact hg) _ _ _
  started _ n := Generator.Bounded.transitioned (fun i j k _ => by simp) n _ _
  stopped := id
  written i _ _ hg := by
    intro m j k jump
    by_cases here : i = m
    · simp [here]
    · have apart : i.val ≠ m.val := fun eq => here (Fin.ext eq)
      simp only [Fin.getElem_fin, Vector.getElem_set_ne _ _ apart] at jump ⊢
      exact hg m j k jump
  reset n i j k _ := by simp [Generator.reset]

/-- Settles O59: the moves of the generator, and of the zone pause demand that it follows, keep it lawful, and a chain keeps the loop
counters bounded. -/
theorem stepsKeepTheGeneratorLawful : Obligations.StepsKeepTheGeneratorLawful :=
  fun _ _ run => ⟨generatorLawful_invariant.step run, bounded_invariant.invariant.step (P := fun s => s.gen.Bounded) run⟩

end Sys2Proof.Machine


/-! Counts in range and timers that run (R75, R87, R99, R105, R116, R128, R138, R159, R166): what has to be shown of a property of the
channels, frames, gauges, crack inputs, stop line, links and the automatic snapshot counter, and from it what every step keeps. -/
namespace Sys2Proof.Machine

/-! ### The ranges that the configuration requests check -/

theorem count15?_range {b : Byte} {n : Nat} (h : count15? b = some n) : 1 ≤ n ∧ n ≤ 15 := by
  unfold count15? at h
  split at h
  · cases h
  · split at h
    · cases h; omega
    · cases h; omega

theorem seconds?_range {x y : Half} (h : seconds? x = some y) : timedSeconds y := by
  unfold seconds? at h
  split at h
  · cases h
  · cases h
    simp only [timedSeconds]
    omega

theorem channelOf?_range {a : ChannelArgs} {c : Fin 8} {ch : Channel} (h : channelOf? a = some (c, ch)) :
    1 ≤ ch.k ∧ ch.k ≤ 15 ∧ timedSeconds ch.seconds := by
  unfold channelOf? at h
  split at h
  · next k _ =>
    split at h
    · split at h
      · next seconds _ => cases h; exact ⟨(count15?_range k).1, (count15?_range k).2, seconds?_range seconds⟩
      · cases h
    · cases h
  · cases h

theorem frameOf?_range {a : FrameArgs} {f : Fin 4} {x : FrameFields} (h : frameOf? a = some (f, x)) : timedSeconds x.seconds := by
  unfold frameOf? at h
  split at h
  · next seconds => cases h; exact seconds?_range seconds
  · cases h

theorem gaugeOf?_range {a : GaugeArgs} {g : Fin 64} {x : GaugeConfig} (h : gaugeOf? a = some (g, x)) :
    (1 ≤ x.n ∧ x.n ≤ 15) ∧ (1 ≤ x.m ∧ x.m ≤ 15) ∧ x.staleTime.toNat ≤ 1000 ∧ timedSeconds x.seconds := by
  unfold gaugeOf? at h
  split at h
  · next n m =>
    split at h
    · cases h
    · next stale =>
      split at h
      · next seconds =>
        split at h
        · cases h; exact ⟨count15?_range n, count15?_range m, Nat.le_of_not_lt stale, seconds?_range seconds⟩
        · cases h
      · cases h
  · cases h

theorem crackOf?_range {a : CrackArgs} {i : Fin 16} {x : CrackConfig} (h : crackOf? a = some (i, x)) : timedSeconds x.seconds := by
  unfold crackOf? at h
  split at h
  · split at h
    · next seconds => cases h; exact seconds?_range seconds
    · cases h
  · cases h

theorem block?_dwell {a : BlockArgs} {d : Word} (h : block? a = some (.dwell d)) : 1 ≤ d.toNat := by
  unfold block? at h
  split at h
  · cases h
  · dsimp only at h
    split at h <;> cases h
  · split at h
    · cases h
    · cases h; omega
  · split at h <;> cases h
  · dsimp only at h
    split at h
    · split at h <;> cases h
    · cases h
  · cases h

/-! ### What has to be shown of a property of the blocks -/

/-- The two states have the same channels, supervision records, frames, gauges, crack inputs, stop line, links and automatic snapshot
fields. -/
structure State.SameBlocks (s t : State) : Prop where
  channels : t.channels = s.channels
  supervision : t.supervision = s.supervision
  frames : t.frames = s.frames
  gauges : t.gauges = s.gauges
  cracks : t.cracks = s.cracks
  stopLine : t.stopLine = s.stopLine
  links : t.links = s.links
  autoCount : t.queue.autoCount = s.queue.autoCount
  interval : t.queue.interval = s.queue.interval

theorem State.record_autoCount (s : State) (b : Body) : (s.record b).queue.autoCount = s.queue.autoCount := by
  unfold State.record Queue.offer
  dsimp only [State.setQueue_queue]
  split
  · rfl
  · split <;> rfl

theorem State.record_interval (s : State) (b : Body) : (s.record b).queue.interval = s.queue.interval := by
  unfold State.record Queue.offer
  dsimp only [State.setQueue_queue]
  split
  · rfl
  · split <;> rfl

theorem State.SameBlocks.record (s : State) (b : Body) : s.SameBlocks (s.record b) :=
  ⟨rfl, rfl, rfl, rfl, rfl, rfl, rfl, s.record_autoCount b, s.record_interval b⟩

theorem sameBlocks_protects : Protects State.SameBlocks where
  refl _ := ⟨rfl, rfl, rfl, rfl, rfl, rfl, rfl, rfl, rfl⟩
  trans h k := ⟨k.channels.trans h.channels, k.supervision.trans h.supervision, k.frames.trans h.frames, k.gauges.trans h.gauges,
    k.cracks.trans h.cracks, k.stopLine.trans h.stopLine, k.links.trans h.links, k.autoCount.trans h.autoCount,
    k.interval.trans h.interval⟩
  setGen _ _ := ⟨rfl, rfl, rfl, rfl, rfl, rfl, rfl, rfl, rfl⟩
  addEvent _ _ := ⟨rfl, rfl, rfl, rfl, rfl, rfl, rfl, rfl, rfl⟩
  record := .record
  setOutputs _ _ := ⟨rfl, rfl, rfl, rfl, rfl, rfl, rfl, rfl, rfl⟩
  setZones _ _ := ⟨rfl, rfl, rfl, rfl, rfl, rfl, rfl, rfl, rfl⟩
  setTagCounter _ _ := ⟨rfl, rfl, rfl, rfl, rfl, rfl, rfl, rfl, rfl⟩

/-- What has to be shown of a property of the blocks. -/
structure BlockInvariant (P : State → Prop) : Prop where
  same : ∀ {s t : State}, s.SameBlocks t → P s → P t
  supervision : ∀ (s : State) (x : Vector Supervision 8),
    (∀ c : Fin 8, x[c].misses ≤ s.supervision[c].misses ∨ x[c].misses < s.channels[c].k) → P s → P (s.setSupervision x)
  frames : ∀ (s : State) (x : Vector FrameRec 4), (∀ f : Fin 4, s.frames[f].Turns x[f]) → P s → P (s.setFrames x)
  gauges : ∀ (s : State) (x : Vector Gauge 64), (∀ g : Fin 64, x[g].config = s.gauges[g].config ∧ s.gauges[g].Turns x[g].run) →
    P s → P (s.setGauges x)
  cracks : ∀ (s : State) (x : Vector Crack 16), (∀ i : Fin 16, s.cracks[i].Turns x[i]) → P s → P (s.setCracks x)
  stopLine : ∀ (s : State) (x : StopLine), x.qualifier.run ≤ max 15 s.stopLine.qualifier.run → P s → P (s.setStopLine x)
  link : ∀ (s : State) (l : Fin 2) {x : Link}, x.count ≤ 40 → P s → P (s.updLink l fun _ => x)
  auto : ∀ (s : State) (n : Half) (b : Bool), (s.queue.autoCount.toNat < max 1 s.queue.interval.toNat →
    n.toNat < max 1 s.queue.interval.toNat) → P s → P (s.setQueue { s.queue with autoCount := n, suspended := b })
  configure : ∀ (s : State) (on off : Nat) (n : Half), P s → P (s.setQueue (s.queue.configured on off n))
  channel : ∀ {s : State} {a c ch}, channelOf? a = some (c, ch) → P s → P (s.replaceChannel c ch)
  frame : ∀ {s : State} {a f x}, frameOf? a = some (f, x) → P s → P (s.updFrame f x.stored)
  gauge : ∀ {s : State} {a g x}, gaugeOf? a = some (g, x) → P s →
    P (s.setGauges (s.gauges.set g { config := x, run := GaugeRun.started x }))
  crack : ∀ {s : State} {a i} {c : Crack}, crackOf? a = some (i, c.config) → c.qualifier.run ≤ s.cracks[i].qualifier.run → P s →
    P (s.setCracks (s.cracks.set i c))
  reset : P State.reset
  reinit : ∀ s : State, P s → P s.reinit

namespace BlockInvariant
variable {P : State → Prop} (h : BlockInvariant P)
include h

theorem protects : Protects fun s t => P s → P t where
  refl _ := id
  trans h k := k ∘ h
  setGen s x := h.same (sameBlocks_protects.setGen s x)
  addEvent s e := h.same (sameBlocks_protects.addEvent s e)
  record s b := h.same (.record s b)
  setOutputs s x := h.same (sameBlocks_protects.setOutputs s x)
  setZones s x := h.same (sameBlocks_protects.setZones s x)
  setTagCounter s x := h.same (sameBlocks_protects.setTagCounter s x)

theorem watches : Watches fun s t => P s → P t where
  toHands := h.protects.hands
  updCrack s i f turns := h.cracks s _ fun j => by
    simp only [Fin.getElem_fin, Vector.getElem_set]
    split
    · next here => cases Fin.ext here; exact turns
    · exact .still

theorem exchanges : Exchanges fun s t => P s → P t where
  toHands := h.protects.hands
  addEventAt _ _ _ := h.same ⟨rfl, rfl, rfl, rfl, rfl, rfl, rfl, rfl, rfl⟩
  updFrame s i f turns := h.frames s _ fun j => by
    simp only [Fin.getElem_fin, Vector.getElem_set]
    split
    · next here => cases Fin.ext here; exact turns
    · exact .still
  updSupervision s c f falls := h.supervision s _ fun j => by
    simp only [Fin.getElem_fin, Vector.getElem_set]
    split
    · next here => cases Fin.ext here; exact falls
    · exact .inl Nat.le.refl

theorem updGauge (s : State) (g : Fin 64) {f : GaugeRun → GaugeRun} (turns : s.gauges[g].Turns (f s.gauges[g].run)) :
    P s → P (s.updGauge g f) :=
  h.gauges s _ fun j => by
    simp only [Fin.getElem_fin, Vector.getElem_set]
    split
    · next here => cases Fin.ext here; exact ⟨rfl, turns⟩
    · exact ⟨rfl, .counted⟩

theorem strains : Strains fun s t => P s → P t where
  toHands := h.protects.hands
  updGauge s g _ := h.updGauge s g

theorem generates : Generates fun s t => P s → P t where
  toSteers := h.protects.toSteers
  setActiveSet _ _ := h.same ⟨rfl, rfl, rfl, rfl, rfl, rfl, rfl, rfl, rfl⟩
  setCommit _ _ := h.same ⟨rfl, rfl, rfl, rfl, rfl, rfl, rfl, rfl, rfl⟩

theorem updates : Updates fun s t => P s → P t where
  toChains := h.protects.toChains
  updateGenerator := h.generates.updateGenerator
  syncPause := h.protects.syncPause
  lists := h.protects.lists
  computeSetpoints s _ := h.protects.setOutputs s _
  updGauge s g _ := h.updGauge s g
  setAuto := h.auto

theorem sampleStop (s : State) (l : Level) : P s → P (s.sampleStop l) :=
  (h.protects.lists false).sampleStop h.stopLine (fun _ _ => h.same ⟨rfl, rfl, rfl, rfl, rfl, rfl, rfl, rfl, rfl⟩) s l

theorem sampleInputs (s : State) (ck : BitVec 16) (l : Level) (hs : P s) : P (s.sampleInputs ck l) :=
  h.sampleStop _ l (h.protects.foldl (fun s i => h.watches.sampleCrack s i (crackLevel ck i)) (List.finRange 16) s hs)

theorem count (s : State) (a : CountArgs) : P s → P (s.referenceCount a) := by
  have act (t : State) (x : CountAct) : P t → P (t.countAct a x) := by
    cases x
    case sample => exact h.sampleInputs _ _ _
    case watchdog => exact h.exchanges.watchdogTick _ _
    case stale => exact h.strains.staleTick _ _
    case clearTimer => exact (h.protects.lists false).clearTimerTick _ _ _
  exact h.protects.foldl act _ _ ∘ h.same ⟨rfl, rfl, rfl, rfl, rfl, rfl, rfl, rfl, rfl⟩

theorem armCaptures (s : State) : P s → P s.armCaptures :=
  h.gauges s _ fun g => by
    simp only [Fin.getElem_fin, Vector.getElem_map]
    split <;> exact ⟨rfl, .counted⟩

theorem clearLatches (s : State) (inputs : Half) : P s → P (s.clearLatches inputs) :=
  h.cracks s _ fun i => by
    simp only [Fin.getElem_fin, Vector.getElem_ofFn]
    split <;> exact .still

theorem effect {p : PortId} {r : ReqName} {s t : State} (e : Effect p r s t) : P s → P t := by
  have still {u : State} (same : s.SameBlocks u) : P s → P u := h.same same
  cases e
  case same => exact id
  case clearEvents | replaceMask | stage | readQueue => exact still ⟨rfl, rfl, rfl, rfl, rfl, rfl, rfl, rfl, rfl⟩
  case takeRecord => exact still ⟨rfl, rfl, rfl, rfl, rfl, rfl, rfl, rfl, rfl⟩
  case arm => exact h.generates.setCommit _ _
  case disarm => exact h.generates.afterDisarm _
  case reinit => exact h.reinit s
  case writeBlock | startIndex => exact h.protects.setGen _ _
  case start => exact h.protects.startProgram _
  case pause => exact h.protects.afterPause _
  case resume => exact h.protects.afterResume _
  case stop => exact h.protects.afterStop _ _
  case advance => exact h.protects.afterAdvance _
  case replaceChannel fields _ _ => exact h.channel fields
  case exchange => exact h.exchanges.exchanged _ _ _ _ _ _
  case trip => exact h.exchanges.tripFrame _ _ _
  case replaceFrame fields => exact h.exchanges.replaceFrame (h.frame fields)
  case replaceGauge fields => exact h.strains.replaceGauge (h.gauge fields)
  case replaceCrack fields => exact h.watches.replaceCrack fun c config run => h.crack (by rw [config]; exact fields) run
  case armCaptures => exact h.armCaptures s
  case clearLatches => exact h.clearLatches s _
  case replaceZone => exact h.protects.replaceZone _ _ _ _ _
  case release => exact (h.protects.lists false).removeEntry _ _ _ _
  case reloadZone => exact h.protects.changeZone _ _ _ _
  case snapshot => exact h.auto _ _ true id ∘ h.protects.record _ _
  case resumeAuto => exact h.auto _ _ false fun _ => by change 0 < _; omega
  case configure => exact h.configure _ _ _ _

/-- Every step keeps the property. -/
theorem step {s t : State} (run : Machine.step s = .next t) : P s → P t := by
  have ported (u : State) (x : Vector Port 6) : P u → P (u.setPorts x) := h.same ⟨rfl, rfl, rfl, rfl, rfl, rfl, rfl, rfl, rfl⟩
  have pended (u : State) (l : List Instr) : P u → P (u.setPending l) := h.same ⟨rfl, rfl, rfl, rfl, rfl, rfl, rfl, rfl, rfl⟩
  refine step_keeps (P := P) pended (fun {s t} m => ?_) run
  cases m with
  | ports => exact ported s _
  | reset => exact fun _ => pended _ _ (ported _ _ h.reset)
  | @effect _ _ _ u _ e => exact fun hs => ported u _ (h.effect e hs)
  | update => exact h.updates.update _
  | count _ a => exact h.count _ a
  | link _ l count => exact h.link s l count
  | frame _ link bits => exact fun hs => h.strains.takeFrame _ link bits (h.link s link (by simp) hs)

end BlockInvariant

/-! ### Counts in range -/

/-- The counts of a gauge are in range (R99). -/
def Gauge.InRange (x : Gauge) : Prop :=
  (x.config.n ≤ 15 ∧ x.config.m ≤ 15 ∧ x.config.staleTime.toNat ≤ 1000)
    ∧ x.run.outCount < x.config.n ∧ x.run.inCount < x.config.n ∧ x.run.driftCount < x.config.m ∧ x.run.staleLeft.toNat ≤ 1000

theorem Gauge.InRange.turns {x y : Gauge} (h : x.InRange) (config : y.config = x.config) (turns : x.Turns y.run) : y.InRange := by
  obtain ⟨⟨n, m, time⟩, out, ins, drift, left⟩ := h
  obtain ⟨outCount, inCount, driftCount, -, staleLeft, -⟩ := turns
  refine ⟨by rw [config]; exact ⟨n, m, time⟩, ?_⟩
  rw [config]
  refine ⟨by omega, by omega, by omega, ?_⟩
  obtain falls | restarts := staleLeft
  · omega
  · rw [restarts]; exact time

theorem Gauge.InRange.started {x : GaugeConfig} (n : 1 ≤ x.n ∧ x.n ≤ 15) (m : 1 ≤ x.m ∧ x.m ≤ 15) (stale : x.staleTime.toNat ≤ 1000) :
    Gauge.InRange { config := x, run := GaugeRun.started x } := by
  unfold GaugeRun.started
  split
  · exact ⟨⟨n.2, m.2, stale⟩, n.1, n.1, m.1, stale⟩
  · exact ⟨⟨n.2, m.2, stale⟩, n.1, n.1, m.1, Nat.zero_le _⟩

/-- A record of a table after one of them is set: the new one, or the old. -/
theorem forall_set {α : Type} {n : Nat} {Q : Fin n → α → Prop} {v : Vector α n} (old : ∀ j : Fin n, Q j v[j]) (i : Fin n)
    {x : α} (new : Q i x) (j : Fin n) : Q j (v.set i x)[j] := by
  simp only [Fin.getElem_fin, Vector.getElem_set]
  split
  · next here => cases Fin.ext here; exact new
  · exact old j

/-- REINIT leaves the blocks at their reset values, and the links as they were. -/
theorem State.reinit_blocks (s : State) :
    s.reinit.channels = State.reset.channels ∧ s.reinit.supervision = State.reset.supervision
      ∧ s.reinit.frames = State.reset.frames ∧ s.reinit.gauges = State.reset.gauges ∧ s.reinit.cracks = State.reset.cracks
      ∧ s.reinit.stopLine = State.reset.stopLine ∧ s.reinit.links = s.links := by
  rw [State.reinit_eq, State.restarted_eq]
  exact ⟨rfl, rfl, rfl, rfl, rfl, rfl, rfl⟩

/-- REINIT leaves the automatic snapshot fields at their reset values. -/
theorem State.reinit_auto (s : State) : s.reinit.queue.autoCount = 0#16 ∧ s.reinit.queue.interval = 0#16 := by
  have kept := sameBlocks_protects.restarted s
  exact ⟨kept.autoCount, kept.interval⟩

theorem replaceChannel_misses {s : State} {ch : Channel} (h : ∀ c : Fin 8, s.supervision[c].misses < s.channels[c].k ∧ s.channels[c].k ≤ 15)
    (c : Fin 8) (k : 1 ≤ ch.k ∧ ch.k ≤ 15) (j : Fin 8) :
    (s.replaceChannel c ch).supervision[j].misses < (s.replaceChannel c ch).channels[j].k
      ∧ (s.replaceChannel c ch).channels[j].k ≤ 15 := by
  by_cases same : c = j
  · subst same
    simpa [State.replaceChannel, Nat.pos_iff_ne_zero, Nat.one_le_iff_ne_zero] using k
  · have other : c.val ≠ j.val := fun h => same (Fin.ext h)
    simpa [State.replaceChannel, State.updSupervision, other] using h j

theorem countsInRange_blocks : BlockInvariant State.CountsInRange where
  same e hs := by
    simpa only [State.CountsInRange, e.channels, e.supervision, e.gauges, e.cracks, e.stopLine, e.links, e.autoCount, e.interval]
      using hs
  supervision s x falls hs := by
    obtain ⟨misses, rest⟩ := hs
    refine ⟨fun c => ?_, rest⟩
    have own := misses c
    have falls := falls c
    exact ⟨by simp only [State.setSupervision_supervision, State.setSupervision_channels]; omega, own.2⟩
  frames _ _ _ := id
  gauges s x turns hs := by
    obtain ⟨misses, gauges, rest⟩ := hs
    exact ⟨misses, fun g => Gauge.InRange.turns (gauges g) (turns g).1 (turns g).2, rest⟩
  cracks s x turns hs := by
    obtain ⟨misses, gauges, runs, rest⟩ := hs
    refine ⟨misses, gauges, fun i => ?_, rest⟩
    have own := runs i
    have turns := (turns i).run
    simp only [State.setCracks_cracks]
    omega
  stopLine s x run hs := by
    obtain ⟨misses, gauges, runs, stop, rest⟩ := hs
    exact ⟨misses, gauges, runs, by simp only [State.setStopLine_stopLine]; omega, rest⟩
  link s l x count hs := by
    obtain ⟨misses, gauges, runs, stop, links, rest⟩ := hs
    exact ⟨misses, gauges, runs, stop, forall_set (Q := fun _ (x : Link) => x.count ≤ 40) links l count, rest⟩
  auto s n b below hs := by
    obtain ⟨misses, gauges, runs, stop, links, auto⟩ := hs
    exact ⟨misses, gauges, runs, stop, links, below auto⟩
  configure s on off n hs := by
    obtain ⟨misses, gauges, runs, stop, links, auto⟩ := hs
    refine ⟨misses, gauges, runs, stop, links, ?_⟩
    simp only [State.setQueue_queue, Queue.configured]
    split
    · next same => rw [same]; exact auto
    · change 0 < _
      omega
  channel fields hs := by
    obtain ⟨misses, rest⟩ := hs
    obtain ⟨low, high, -⟩ := channelOf?_range fields
    exact ⟨fun j => replaceChannel_misses misses _ ⟨low, high⟩ j, rest⟩
  frame _ := id
  gauge fields hs := by
    obtain ⟨misses, gauges, rest⟩ := hs
    obtain ⟨n, m, stale, -⟩ := gaugeOf?_range fields
    exact ⟨misses, forall_set (Q := fun _ x => Gauge.InRange x) gauges _ (.started n m stale), rest⟩
  crack _ run hs := by
    obtain ⟨misses, gauges, runs, rest⟩ := hs
    exact ⟨misses, gauges, forall_set (Q := fun _ (x : Crack) => x.qualifier.run ≤ 15) runs _ (Nat.le_trans run (runs _)), rest⟩
  reset := by decide +kernel
  reinit s hs := by
    obtain ⟨channels, supervision, -, gauges, cracks, stopLine, links⟩ := s.reinit_blocks
    obtain ⟨autoCount, interval⟩ := s.reinit_auto
    have reset : State.reset.CountsInRange := by decide +kernel
    obtain ⟨resetMisses, resetGauges, resetRuns, resetStop, -, -⟩ := reset
    obtain ⟨-, -, -, -, left, -⟩ := hs
    rw [State.CountsInRange, channels, supervision, gauges, cracks, stopLine, links, autoCount, interval]
    exact ⟨resetMisses, resetGauges, resetRuns, resetStop, left, by decide⟩

/-! ### The timers of the sources -/

/-- A watched frame has time left, and its seconds are in range (R86, R87). -/
def FrameRec.Runs (x : FrameRec) : Prop :=
  (x.dog = .unwatched ↔ x.period = 0#16) ∧ (x.dog = .alive ∨ x.dog = .late → 1 ≤ x.remaining.toNat) ∧ timedSeconds x.seconds

/-- A running stale timer has time left, and the gauge's seconds are in range (R96, R105). -/
def Gauge.Runs (x : Gauge) : Prop :=
  (x.run.stale ≠ .off → x.config.staleTime ≠ 0#16) ∧ (x.run.stale = .running → 1 ≤ x.run.staleLeft.toNat)
    ∧ timedSeconds x.config.seconds

/-- The timers of the sources run with time left, and their seconds are in range. -/
def State.SourcesRun (s : State) : Prop :=
  (∀ f : Fin 4, s.frames[f].Runs) ∧ (∀ g : Fin 64, s.gauges[g].Runs) ∧ (∀ c : Fin 8, timedSeconds s.channels[c].seconds)
    ∧ ∀ i : Fin 16, timedSeconds s.cracks[i].config.seconds

theorem one_le_toNat {n : Nat} {x : BitVec n} (h : x ≠ 0#n) : 1 ≤ x.toNat :=
  Nat.one_le_iff_ne_zero.mpr fun zero => h (BitVec.eq_of_toNat_eq (by simpa using zero))

theorem FrameRec.Runs.turns {x y : FrameRec} (h : x.Runs) (turns : x.Turns y) : y.Runs := by
  obtain ⟨watched, left, seconds⟩ := h
  refine ⟨by rw [turns.unwatched, turns.period]; exact watched, fun counting => ?_, by rw [turns.seconds]; exact seconds⟩
  obtain full | some | ⟨was, kept⟩ := turns.remaining counting
  · rw [full]
    refine one_le_toNat fun zero => ?_
    have off := turns.unwatched.mpr (watched.mpr zero)
    simp [off] at counting
  · exact some
  · rw [kept]; exact left was

theorem FrameFields.stored_runs {x : FrameFields} (seconds : timedSeconds x.seconds) (r : FrameRec) : (x.stored r).Runs := by
  refine ⟨?_, fun counting => ?_, seconds⟩
  · by_cases zero : x.period = 0#16 <;> simp [FrameFields.stored, zero]
  · by_cases zero : x.period = 0#16
    · simp [FrameFields.stored, zero] at counting
    · exact one_le_toNat zero

theorem Gauge.Runs.turns {x y : Gauge} (h : x.Runs) (config : y.config = x.config) (turns : x.Turns y.run) : y.Runs := by
  obtain ⟨time, left, seconds⟩ := h
  have on : y.run.stale ≠ .off → x.config.staleTime ≠ 0#16 := fun on => time fun off => on (turns.stale.mpr off)
  refine ⟨by rw [config]; exact on, fun running => ?_, by rw [config]; exact seconds⟩
  obtain full | some | ⟨was, kept⟩ := turns.running running
  · rw [full]
    exact one_le_toNat (on (by simp [running]))
  · exact some
  · rw [kept]; exact left was

theorem Gauge.Runs.started {x : GaugeConfig} (seconds : timedSeconds x.seconds) :
    Gauge.Runs { config := x, run := GaugeRun.started x } := by
  unfold GaugeRun.started
  split
  · next set => exact ⟨fun _ => set.2, fun _ => one_le_toNat set.2, seconds⟩
  · exact ⟨fun on => absurd rfl on, by simp [GaugeRun.fresh], seconds⟩

theorem State.reset_sourcesRun : State.reset.SourcesRun := by
  unfold State.SourcesRun FrameRec.Runs Gauge.Runs
  decide +kernel

theorem sourcesRun_blocks : BlockInvariant State.SourcesRun where
  same e hs := by
    simpa only [State.SourcesRun, e.channels, e.frames, e.gauges, e.cracks] using hs
  supervision _ _ _ := id
  frames s x turns hs := ⟨fun f => (hs.1 f).turns (turns f), hs.2⟩
  gauges s x turns hs := ⟨hs.1, fun g => (hs.2.1 g).turns (turns g).1 (turns g).2, hs.2.2⟩
  cracks s x turns hs := by
    obtain ⟨frames, gauges, channels, cracks⟩ := hs
    refine ⟨frames, gauges, channels, fun i => ?_⟩
    rw [State.setCracks_cracks, (turns i).config]
    exact cracks i
  stopLine _ _ _ := id
  link _ _ _ _ := id
  auto _ _ _ _ := id
  configure _ _ _ _ := id
  channel fields hs := by
    obtain ⟨frames, gauges, channels, cracks⟩ := hs
    exact ⟨frames, gauges, forall_set (Q := fun _ (x : Channel) => timedSeconds x.seconds) channels _ (channelOf?_range fields).2.2,
      cracks⟩
  frame fields hs := by
    obtain ⟨frames, rest⟩ := hs
    exact ⟨forall_set (Q := fun _ (x : FrameRec) => x.Runs) frames _ (FrameFields.stored_runs (frameOf?_range fields) _), rest⟩
  gauge fields hs := by
    obtain ⟨frames, gauges, rest⟩ := hs
    exact ⟨frames, forall_set (Q := fun _ (x : Gauge) => x.Runs) gauges _ (.started (gaugeOf?_range fields).2.2.2), rest⟩
  crack fields _ hs := by
    obtain ⟨frames, gauges, channels, cracks⟩ := hs
    exact ⟨frames, gauges, channels, forall_set (Q := fun _ (x : Crack) => timedSeconds x.config.seconds) cracks _ (crackOf?_range fields)⟩
  reset := State.reset_sourcesRun
  reinit s _ := by
    obtain ⟨channels, -, frames, gauges, cracks, -⟩ := s.reinit_blocks
    rw [State.SourcesRun, channels, frames, gauges, cracks]
    exact State.reset_sourcesRun

/-! ### The timers of the generator -/

/-- The duration of every DWELL block is above 0, the countdown of a current DWELL, and the remaining count of a current finite CYCLE
(R17, R28, R30). -/
def Generator.Runs (g : Generator) : Prop :=
  (∀ (i : Fin 64) (d : Word), g.program[i] = .dwell d → 1 ≤ d.toNat)
    ∧ (g.executing = true → ∀ b, g.currentBlock = some b →
        (b.kind = .dwell → 1 ≤ g.countdown.toNat) ∧ (b.kind = .cycle → g.endless = false → 1 ≤ g.remaining.toNat))

/-- Entering a block sets its timer, and what else every block sets (R32). -/
theorem Generator.enter_eq (g : Generator) (i : Fin 64) :
    g.enter i = { g with
      state := .running, current := some i, phase := 0#32, pendingAdvance := false, countdown := (g.enter i).countdown
      remaining := (g.enter i).remaining, endless := (g.enter i).endless } := by
  unfold Generator.enter
  dsimp only
  split <;> rfl

theorem Generator.enter_of_dwell {g : Generator} {i : Fin 64} {d : Word} (h : g.program[i] = .dwell d) :
    (g.enter i).countdown = d := by
  rw [Fin.getElem_fin] at h
  simp [Generator.enter, h]

theorem Generator.enter_of_cycle {g : Generator} {i : Fin 64} {a : Half} {f n : Word} (h : g.program[i] = .cycle a f n) :
    (g.enter i).remaining = n ∧ (g.enter i).endless = (n == 0#32) := by
  rw [Fin.getElem_fin] at h
  simp [Generator.enter, h]

theorem Generator.Runs.enter {g : Generator} (dwells : ∀ (i : Fin 64) (d : Word), g.program[i] = .dwell d → 1 ≤ d.toNat) (i : Fin 64) :
    (g.enter i).Runs := by
  have program : (g.enter i).program = g.program := by rw [Generator.enter_eq]
  have current : (g.enter i).currentBlock = some g.program[i] := by simp [Generator.currentBlock, program]
  refine ⟨by rw [program]; exact dwells, fun _ b block => ?_⟩
  rw [current] at block
  cases block
  refine ⟨fun dwell => ?_, fun cycle finite => ?_⟩
  · cases block : g.program[i] with
    | dwell d => rw [Generator.enter_of_dwell block]; exact dwells i d block
    | stop | ramp | cycle | jump => simp [block, Block.kind] at dwell
  · cases block : g.program[i] with
    | cycle a f n =>
      obtain ⟨remaining, endless⟩ := Generator.enter_of_cycle block
      rw [remaining]
      exact one_le_toNat (by simpa [endless] using finite)
    | stop | ramp | dwell | jump => simp [block, Block.kind] at cycle

theorem Generator.Runs.transitioned {g : Generator} (dwells : ∀ (i : Fin 64) (d : Word), g.program[i] = .dwell d → 1 ≤ d.toNat)
    (n : Nat) (a b : Bool) : (g.transitioned n a b).Runs := by
  unfold Generator.transitioned
  split
  · next loops i jumped _ => exact Generator.Runs.enter (g := { g with loops := loops }) dwells i
  · exact ⟨dwells, by simp [Generator.rest, Generator.executing]⟩

theorem generatorRuns_invariant : GeneratorInvariant Generator.Runs where
  toggles g st r executing _ hg := ⟨hg.1, fun _ => hg.2 (by simpa [Generator.executing] using executing)⟩
  marked _ _ _ _ hg := hg
  advances {g x} step hg := by
    obtain ⟨dwells, runs⟩ := hg
    cases step with
    | still => exact ⟨dwells, runs⟩
    | ramping block | turning => exact ⟨dwells, runs⟩
    | dwelling block left =>
      refine ⟨dwells, fun executing b current => ⟨fun _ => ?_, (runs executing b current).2⟩⟩
      dsimp only
      rw [BitVec.toNat_ofNat]
      omega
    | boundary cycle goesOn =>
      refine ⟨dwells, fun executing b current => ⟨(runs executing b current).1, fun _ finite => one_le_toNat fun through => ?_⟩⟩
      have finite : g.endless = false := finite
      have through : g.remainingAfter = 0#32 := through
      simp [Generator.cycleEnds, finite, through] at goesOn
    | timedEnds | cycleEnds => exact Generator.Runs.transitioned (by exact dwells) _ _ _
    | stops => exact ⟨dwells, by simp [Generator.rest, Generator.executing]⟩
  started hg n := Generator.Runs.transitioned (by exact hg.1) _ _ _
  stopped hg := ⟨hg.1, by simp [Generator.rest, Generator.executing]⟩
  written {g a b} i block free hg := by
    obtain ⟨dwells, runs⟩ := hg
    refine ⟨fun j d dwell => ?_, fun executing c current => ?_⟩
    · refine forall_set (Q := fun _ (x : Block) => ∀ d, x = .dwell d → 1 ≤ d.toNat) dwells i (fun d dwell => ?_) j d dwell
      exact block?_dwell (dwell ▸ block)
    · rw [Generator.currentBlock_set fun same => free ⟨executing, same⟩] at current
      exact runs executing c current
  reset n := ⟨fun i d => by simp [Generator.reset], by simp [Generator.reset, Generator.executing]⟩

/-! ### The clear-timers -/

/-- An entry's seconds and clear-timer are in range, and the timer has time left while it runs (R128, R138). -/
def Entry.Runs (e : Entry) : Prop :=
  timedSeconds e.seconds ∧ e.timer.toNat ≤ 1000 * Config.maxSeconds
    ∧ (e.method = .timed → e.condition = false → 1 ≤ e.timer.toNat)

/-- Every entry of the list runs. -/
def Zone.EntriesRun (x : Zone) : Prop := ∀ e ∈ x.entries, e.Runs

theorem timerOf_range {x : Half} (h : timedSeconds x) : 1 ≤ (timerOf x).toNat ∧ (timerOf x).toNat ≤ 1000 * Config.maxSeconds := by
  obtain ⟨low, high⟩ := h
  simp only [Config.maxSeconds, timerOf, BitVec.toNat_ofNat] at high ⊢
  rw [Nat.mod_eq_of_lt (by omega)]
  omega

/-- An entry whose timer is set from its seconds, or is as it was while it ran, runs. -/
theorem Entry.Runs.of_timer {e x : Entry} (h : e.Runs) (seconds : x.seconds = e.seconds) (method : x.method = e.method)
    (timer : x.timer = timerOf e.seconds ∨ x.timer = e.timer ∧ (e.method = .timed → x.condition = false → e.condition = false)) :
    x.Runs := by
  obtain ⟨range, bound, left⟩ := h
  have full := timerOf_range range
  refine ⟨by rwa [seconds], ?_, fun timed clear => ?_⟩
  · obtain set | ⟨kept, -⟩ := timer
    · rw [set]; exact full.2
    · rwa [kept]
  · obtain set | ⟨kept, ran⟩ := timer
    · rw [set]; exact full.1
    · rw [method] at timed
      rw [kept]; exact left timed (ran timed clear)

theorem Entry.Runs.repeated {e : Entry} (h : e.Runs) (r : Raise) : (e.repeated r).Runs := by
  refine h.of_timer rfl rfl ?_
  by_cases timed : e.method = .timed
  · exact .inl (by simp [Entry.repeated, timed])
  · exact .inr ⟨by simp [Entry.repeated, timed], fun is => absurd is timed⟩

theorem Entry.Runs.cleared {e : Entry} (h : e.Runs) : e.cleared.Runs := by
  refine h.of_timer rfl rfl ?_
  by_cases set : e.condition = true ∧ e.method = .timed
  · exact .inl (by simp [Entry.cleared, set])
  · exact .inr ⟨by simp [Entry.cleared, set], fun timed _ => by simpa [timed] using set⟩

theorem defaultSeconds_timed : timedSeconds Config.defaultSeconds := by decide

/-- A new entry's clear-timer is full, or does not run. -/
theorem Entry.runs_of_new {e : Entry} (seconds : timedSeconds e.seconds)
    (timer : e.timer = if e.method = .timed then timerOf e.seconds else 0#32) : e.Runs := by
  have full := timerOf_range seconds
  refine ⟨seconds, ?_, fun timed _ => by rw [timer, if_pos timed]; exact full.1⟩
  rw [timer]
  split
  · exact full.2
  · exact Nat.zero_le _

theorem Zone.EntriesRun.without {x : Zone} (h : x.EntriesRun) (hold : Bool) (e : Entry) : (x.without hold e).EntriesRun :=
  fun _ mem => h _ (Zone.mem_without mem)

theorem Zone.EntriesRun.mapped {x : Zone} (h : x.EntriesRun) {f : Entry → Entry} (runs : ∀ e ∈ x.entries, e.Runs → (f e).Runs) :
    Zone.EntriesRun { x with entries := x.entries.map f } := by
  intro e mem
  obtain ⟨y, old, rfl⟩ := List.mem_map.mp mem
  exact runs y old (h y old)

theorem Zone.EntriesRun.foldl_without {x : Zone} (h : x.EntriesRun) (hold : Bool) (l : List Entry) :
    (l.foldl (fun y e => y.without hold e) x).EntriesRun := by
  induction l generalizing x with
  | nil => exact h
  | cons e l ih => exact ih (h.without hold e)

theorem Zone.EntriesRun.raised {x : Zone} (h : x.EntriesRun) (hold : Bool) {r : Raise} {new spill : Entry} (first : new.Runs)
    (last : spill.Runs) : (x.raised hold r new spill).EntriesRun := by
  have escalated : (x.escalated r new spill).EntriesRun :=
    Zone.takes_forall h (fun _ he => he.repeated r) (fun _ _ he => ⟨he.1, he.2.1, he.2.2⟩) first last
  unfold Zone.raised
  dsimp only
  split
  · exact escalated.without _ _
  · exact escalated

theorem Zone.EntriesRun.clearedOf {x : Zone} (h : x.EntriesRun) (hold : Bool) (src : Source) : (x.clearedOf hold src).EntriesRun := by
  refine Zone.EntriesRun.foldl_without (h.mapped fun e _ he => ?_) hold _
  split
  · exact he.cleared
  · exact he

/-- The seconds of every source are in range. -/
def State.Timed (s : State) : Prop :=
  (∀ f : Fin 4, timedSeconds s.frames[f].seconds) ∧ (∀ g : Fin 64, timedSeconds s.gauges[g].config.seconds)
    ∧ (∀ c : Fin 8, timedSeconds s.channels[c].seconds) ∧ ∀ i : Fin 16, timedSeconds s.cracks[i].config.seconds

theorem State.SourcesRun.timed {s : State} (h : s.SourcesRun) : s.Timed :=
  ⟨fun f => (h.1 f).2.2, fun g => (h.2.1 g).2.2, h.2.2⟩

theorem State.Timed.of_times {s t : State} (h : s.Timed) (times : s.SameTimes t) : t.Timed := by
  obtain ⟨frames, gauges, channels, cracks⟩ := h
  refine ⟨fun f => ?_, fun g => ?_, fun c => ?_, fun i => ?_⟩
  · rw [times.frames]; exact frames f
  · rw [times.gauges]; exact gauges g
  · rw [times.channels]; exact channels c
  · rw [times.cracks]; exact cracks i

theorem State.Timed.asks {s : State} (h : s.Timed) {r : Raise} (asks : s.Asks r) : timedSeconds r.seconds := by
  obtain ⟨frames, gauges, channels, cracks⟩ := h
  cases asks with
  | channel => exact channels _
  | frame => exact frames _
  | gauge => exact gauges _
  | crack => exact cracks _

/-- Every entry of the four lists runs. -/
def State.EntriesRun (s : State) : Prop := s.ZonesAll fun _ => Zone.EntriesRun

theorem State.EntriesRun.of_zones {s t : State} (h : s.EntriesRun) (zones : t.zones = s.zones) : t.EntriesRun := by
  intro z
  rw [zones]
  exact h z

theorem State.EntriesRun.raiseIn {s : State} (h : s.EntriesRun) (z : Fin 4) {r : Raise} (d : Bool) (seconds : timedSeconds r.seconds) :
    (s.raiseIn z r d).EntriesRun :=
  h.of_updZone (s.raiseIn_zones z r d) (Keeps.of_raiseIn s z r d).stopHold
    ((h z).raised _ (Entry.runs_of_new seconds rfl) (Entry.runs_of_new defaultSeconds_timed rfl))

theorem State.EntriesRun.clearIn {s : State} (h : s.EntriesRun) (z : Fin 4) (x : Source) : (s.clearIn z x).EntriesRun :=
  h.of_updZone (s.clearIn_zones z x) (Keeps.of_clearIn s z x).stopHold ((h z).clearedOf _ x)

theorem State.EntriesRun.changeZone {s : State} (h : s.EntriesRun) (z : Fin 4) (st : ZoneState) (d : Bool) :
    (s.changeZone z st d).EntriesRun :=
  h.of_updZone (s.changeZone_zones z st d) (Keeps.of_changeZone s z st d).stopHold (h z)

theorem State.EntriesRun.sampleStop {s : State} (hs : s.EntriesRun) (l : Level) : (s.sampleStop l).EntriesRun := by
  have chains : Chains fun s t : State => s.EntriesRun → t.EntriesRun := ⟨fun _ => id, fun h k => k ∘ h⟩
  have lined : (s.setStopLine (s.stopLine.after l)).EntriesRun := hs
  obtain ⟨h, -⟩ | ⟨h, -⟩ | ⟨h, -⟩ := s.sampleStop_cases l <;> rw [h]
  · exact lined
  · exact chains.foldl (fun s z hs => hs.raiseIn z _ (by decide)) _ ((s.setStopLine (s.stopLine.after l)).setStopHold true) hs
  · have cleared : (((s.setStopLine (s.stopLine.after l)).clear .stop).setStopHold false).EntriesRun :=
      (chains.foldl (fun s z hs => hs.clearIn z .stop) allZones _ lined : State.EntriesRun (State.clear _ .stop)).of_zones
        (State.setStopHold_zones _ _)
    unfold State.clearStop
    refine chains.foldl (fun s z hs => ?_) allZones _ cleared
    split
    · exact hs.changeZone _ _ _
    · exact hs

/-- A clear-timer with two or more left runs on, the tags of a list being distinct. -/
theorem State.EntriesRun.tick {s : State} (h : s.EntriesRun) (lawful : s.ListsLawful) {z : Fin 4} {tag : Half} {e : Entry}
    (found : s.entry? z tag = some e) (left : e.due = false) (timing : e.timing = true) :
    (s.updZone z fun x =>
      { x with entries := x.entries.map fun y => if y.tag = tag then { y with timer := y.timer - 1#32 } else y }).EntriesRun := by
  refine h.of_updZone rfl rfl ((h z).mapped fun y mem runs => ?_)
  split
  · next same =>
    have found : (s.zones[z].entries.find? fun e => e.tag == tag) = some e := found
    have named : (e.tag == tag) = true := by simpa using List.find?_some found
    have tags : y.tag = e.tag := by rw [same, beq_iff_eq.mp named]
    have own := inj_of_nodup_map (lawful.becomes_self z).nodup mem (List.mem_of_find?_eq_some found) tags
    subst own
    have time : 2 ≤ y.timer.toNat := by
      simp only [Entry.due, timing, Bool.true_and, decide_eq_false_iff_not] at left
      omega
    have less : (y.timer - 1#32).toNat = y.timer.toNat - 1 :=
      BitVec.toNat_sub_of_le (by simp only [BitVec.le_def, BitVec.toNat_ofNat]; omega)
    obtain ⟨range, bound, -⟩ := runs
    exact ⟨range, by dsimp only; omega, fun _ _ => by dsimp only; omega⟩
  · exact runs

theorem sameTimes_lists (d : Bool) : Lists d State.SameTimes where
  refl _ := .of_eq
  trans h k := ⟨k.channels.trans h.channels, fun f => (k.frames f).trans (h.frames f), fun g => (k.gauges g).trans (h.gauges g),
    fun i => (k.cracks i).trans (h.cracks i)⟩
  addEvent _ _ := .of_eq
  record _ _ := .of_eq
  setTagCounter _ _ := .of_eq
  relist _ _ _ _ := .of_eq
  changeZone s z st := .of_keeps (.of_changeZone s z st d)

theorem State.Timed.stored {s t : State} (h : s.Timed) (e : Stores s t) : t.Timed := by
  obtain ⟨frames, gauges, channels, cracks⟩ := h
  cases e with
  | channel fields =>
    exact ⟨frames, gauges, forall_set (Q := fun _ (x : Channel) => timedSeconds x.seconds) channels _ (channelOf?_range fields).2.2,
      cracks⟩
  | frame fields =>
    exact ⟨forall_set (Q := fun _ (x : FrameRec) => timedSeconds x.seconds) frames _ (frameOf?_range fields), gauges, channels, cracks⟩
  | gauge fields =>
    exact ⟨frames, forall_set (Q := fun _ (x : Gauge) => timedSeconds x.config.seconds) gauges _ (gaugeOf?_range fields).2.2.2,
      channels, cracks⟩
  | crack fields =>
    exact ⟨frames, gauges, channels, forall_set (Q := fun _ (x : Crack) => timedSeconds x.config.seconds) cracks _
      (crackOf?_range fields)⟩

theorem Zone.entriesRun_restarted (z : Fin 4) (tag : Half) (stamp : Word) (cycles : Cycle40) :
    (Zone.dumpedWith [restartEntry z tag stamp cycles]).EntriesRun := by
  intro e mem
  obtain rfl := List.mem_singleton.mp mem
  exact Entry.runs_of_new defaultSeconds_timed rfl

theorem entriesRun_invariant : ListInvariant fun s => s.Timed ∧ s.ListsLawful ∧ s.EntriesRun where
  unread times zones stopLine stopHold hs :=
    ⟨hs.1.of_times times, listsLawful_invariant.unread times zones stopLine stopHold hs.2.1, hs.2.2.of_zones zones⟩
  raiseIn s z r d asks hs := ⟨hs.1.of_times ((sameTimes_lists d).raiseIn s z r), listsLawful_invariant.raiseIn s z d asks hs.2.1,
    hs.2.2.raiseIn z d (hs.1.asks asks)⟩
  clearIn s z x other hs := ⟨hs.1.of_times ((sameTimes_lists false).clearIn s z x), listsLawful_invariant.clearIn s z other hs.2.1,
    hs.2.2.clearIn z x⟩
  removeEntry s z e m d hs := ⟨hs.1.of_times ((sameTimes_lists d).removeEntry s z e m),
    listsLawful_invariant.removeEntry s z e m d hs.2.1,
    hs.2.2.of_updZone (s.removeEntry_zones z e m d) (Keeps.of_removeEntry s z e m d).stopHold ((hs.2.2 z).without _ e)⟩
  unload s z d ready hs := ⟨hs.1.of_times ((sameTimes_lists d).changeZone s z _), listsLawful_invariant.unload s z d ready hs.2.1,
    hs.2.2.changeZone z _ d⟩
  resume s z d ready hs := ⟨hs.1.of_times ((sameTimes_lists d).changeZone s z _), listsLawful_invariant.resume s z d ready hs.2.1,
    hs.2.2.changeZone z _ d⟩
  reload s z d ready bare hs := ⟨hs.1.of_times ((sameTimes_lists d).changeZone s z _),
    listsLawful_invariant.reload s z d ready bare hs.2.1, hs.2.2.changeZone z _ d⟩
  configure s z i u r hs := ⟨hs.1, listsLawful_invariant.configure s z i u r hs.2.1, hs.2.2.of_updZone rfl rfl (hs.2.2 z)⟩
  tick s z tag e found left timing hs :=
    ⟨hs.1, listsLawful_invariant.tick s z found left timing hs.2.1, hs.2.2.tick hs.2.1 found left timing⟩
  sampleStop s l hs := ⟨hs.1.of_times ((sameTimes_lists false).sampleStop (fun _ _ _ => .of_eq) (fun _ _ => .of_eq) s l),
    listsLawful_invariant.sampleStop s l hs.2.1, hs.2.2.sampleStop l⟩
  stored e hs := ⟨hs.1.stored e, listsLawful_invariant.stored e hs.2.1, hs.2.2.of_zones e.zones.1⟩
  reset := by
    refine ⟨State.reset_sourcesRun.timed, listsLawful_invariant.reset, fun z => ?_⟩
    have reset : State.reset.zones[z] = Zone.reset z := Vector.getElem_ofFn _
    dsimp only
    rw [reset]
    exact Zone.entriesRun_restarted _ _ _ _
  reinit s := by
    refine ⟨?_, listsLawful_invariant.reinit s, fun z => ?_⟩
    · obtain ⟨channels, -, frames, gauges, cracks, -⟩ := s.reinit_blocks
      exact State.reset_sourcesRun.timed.of_times (.of_eq channels frames gauges cracks)
    · obtain ⟨tag, zone⟩ := s.reinit_zones z
      rw [zone]
      exact Zone.entriesRun_restarted _ _ _ _

/-- The timers run exactly when those of the sources, of the entries and of the generator do. -/
theorem State.timersRun_iff (s : State) : s.TimersRun ↔ s.SourcesRun ∧ s.EntriesRun ∧ s.gen.Runs := by
  constructor
  · rintro ⟨frames, gauges, channels, cracks, entries, dwells, runs⟩
    exact ⟨⟨frames, gauges, channels, cracks⟩, entries, dwells, runs⟩
  · rintro ⟨⟨frames, gauges, channels, cracks⟩, entries, dwells, runs⟩
    exact ⟨frames, gauges, channels, cracks, entries, dwells, runs⟩

/-- Settles O60: each block's own operations keep its counts and timers, and a raise and a clear set a clear-timer from seconds in
range. -/
theorem stepsKeepTheCountsInRange : Obligations.StepsKeepTheCountsInRange := by
  refine fun s t run => ⟨countsInRange_blocks.step run, fun lawful hs => ?_⟩
  obtain ⟨sources, entries, gen⟩ := s.timersRun_iff.mp hs
  obtain ⟨-, -, entriesAfter⟩ := entriesRun_invariant.invariant.step run ⟨sources.timed, lawful, entries⟩
  exact t.timersRun_iff.mpr ⟨sourcesRun_blocks.step run sources, entriesAfter,
    generatorRuns_invariant.invariant.step (P := fun s => s.gen.Runs) run gen⟩

end Sys2Proof.Machine


/-! The reset values (R1, R16, R38, R57, R74, R93, R114, R125, R149, R163, R166), and that they meet every invariant; rounding and the
sine table (sections 3.1 and 3.2). -/
namespace Sys2Proof.Machine

/-! ### Reset -/

/-- Settles O3: each invariant at the reset values, which no step before them bears on. -/
theorem resetMeetsEveryInvariant : Obligations.ResetMeetsEveryInvariant := by
  refine ⟨by decide, by decide, listsLawful_invariant.reset, zonesProtected_invariant.reset, stopObeyed_invariant.reset,
    setpointsBound_invariant.reset, generatorLawful_invariant.reset, bounded_invariant.reset _, countsInRange_blocks.reset, ?_⟩
  rw [State.timersRun_iff]
  exact ⟨sourcesRun_blocks.reset, entriesRun_invariant.reset.2.2, generatorRuns_invariant.reset _⟩

/-- HARDWARE_RESET leaves the reset values in every field but the select lines and the waiting commands. -/
theorem exec_hardwareReset (selects : BitVec 6) (s : State) :
    exec (.hardwareReset selects) s = .next ((State.reset.setPorts (Vector.ofFn fun i : Fin 6 => Port.reset (selects.getLsbD i.val))).setPending
      s.pending) := rfl

/-- Settles O4: each field of the reset state, record by record of its tables. -/
theorem hardwareResetValues : Obligations.HardwareResetValues := by
  intro selects s
  have port (p : PortId) : (Vector.ofFn fun i : Fin 6 => Port.reset (selects.getLsbD i.val))[portIndex p]
      = Port.reset (selects.getLsbD (portIndex p).val) := Vector.getElem_ofFn _
  have channel (c : Fin 8) : State.reset.channels[c] = Channel.default c := Vector.getElem_ofFn _
  have gauge (g : Fin 64) : State.reset.gauges[g] = Gauge.reset g := Vector.getElem_ofFn _
  have crack (i : Fin 16) : State.reset.cracks[i] = Crack.reset i := Vector.getElem_ofFn _
  have zone (z : Fin 4) : State.reset.zones[z] = Zone.reset z := Vector.getElem_ofFn _
  have output (c : Fin 8) : State.reset.outputs[c] = Output.reset := Vector.getElem_replicate _
  have supervision (c : Fin 8) : State.reset.supervision[c] = Supervision.reset := Vector.getElem_replicate _
  have frame (f : Fin 4) : State.reset.frames[f] = FrameRec.reset := Vector.getElem_replicate _
  have link (l : Fin 2) : State.reset.links[l] = Link.reset := Vector.getElem_replicate _
  refine ⟨_, exec_hardwareReset selects s, rfl, rfl, fun p => ?_, rfl, fun c => ?_, rfl, rfl, rfl, frame, fun g => ?_, fun l => ?_,
    crack, rfl, rfl, fun z => ?_, rfl, rfl⟩
  · let t := (State.reset.setPorts (Vector.ofFn fun i : Fin 6 => Port.reset (selects.getLsbD i.val))).setPending s.pending
    have own : t.ports[portIndex p] = Port.reset (selects.getLsbD (portIndex p).val) := port p
    have calm : t.queue.logReady = false := rfl
    have status : t.eventStatus p = 1#7 := by
      simp [State.eventStatus, ← Fin.getElem_fin, own, calm, Port.reset, Event.bit]
    have attention : t.attnLow p = false := by
      simp [State.attnLow, ← Fin.getElem_fin, own, status, Port.reset]
    exact ⟨status, by rw [own]; rfl, attention, by rw [own]; rfl⟩
  · exact ⟨channel c, output c, supervision c⟩
  · exact ⟨congrArg Gauge.config (gauge g), congrArg Gauge.run (gauge g)⟩
  · exact ⟨congrArg Link.state (link l), congrArg Link.count (link l)⟩
  · exact ⟨by simp [State.dumpAsserted, zone]; rfl, congrArg Zone.isolate (zone z), congrArg Zone.unloadRate (zone z),
      congrArg Zone.reloadRate (zone z), congrArg Zone.entries (zone z)⟩

/-! ### Rounding and the sine table -/

/-- A rounded quotient leaves a remainder of at least minus half the divisor and below half of it. -/
theorem roundDiv_remainder (a : Int) {d : Nat} (positive : 0 < d) :
    -(d : Int) ≤ 2 * (a - roundDiv a d * d) ∧ 2 * (a - roundDiv a d * d) < d := by
  have remainder : (a + d / 2) % d + roundDiv a d * d = a + d / 2 := by
    rw [roundDiv, Int.mul_comm, Int.emod_add_mul_ediv]
  have low := Int.emod_nonneg (a + d / 2) (b := d) (by omega)
  have high := Int.emod_lt_of_pos (a + d / 2) (b := d) (by omega)
  omega

/-- Settles O29: another whole number is away from the rounded quotient by a whole divisor or more. -/
theorem roundingIsNearestTiesUp : Obligations.RoundingIsNearestTiesUp := by
  intro a d positive
  obtain ⟨low, high⟩ := roundDiv_remainder a positive
  have apart (q : Int) : a - q * d = a - roundDiv a d * d + (roundDiv a d - q) * d := by
    rw [Int.sub_mul]
    omega
  have below {k : Int} (h : 1 ≤ k) : (d : Int) ≤ k * d := by
    simpa only [Int.one_mul] using Int.mul_le_mul_of_nonneg_right h (Int.natCast_nonneg d)
  refine ⟨fun q => ?_, fun q same => ?_⟩
  · rw [apart q]
    obtain less | same | more := Int.lt_trichotomy (roundDiv a d) q
    · have := below (k := q - roundDiv a d) (by omega)
      rw [← Int.neg_sub q, Int.neg_mul]
      omega
    · exact Nat.le_of_eq (by rw [same, Int.sub_self, Int.zero_mul, Int.add_zero])
    · have := below (k := roundDiv a d - q) (by omega)
      omega
  · refine Classical.byContradiction fun greater => ?_
    have := below (k := q - roundDiv a d) (by omega)
    rw [apart q, ← Int.neg_sub q, Int.neg_mul] at same
    omega

/-- The entries of the first quarter rise from 0 to 32767. -/
theorem sineQuarter_rises : ∀ p ∈ sineQuarter.zip sineQuarter.tail, p.1 ≤ p.2 := by decide +kernel

theorem sineFirst_inside {k : Nat} (inside : k < sineQuarter.length) : sineFirst k = sineQuarter[k] :=
  congrArg Int.ofNat (by rw [List.getD_eq_getElem?_getD, List.getElem?_eq_getElem inside, Option.getD_some])

theorem sineFirst_range (k : Nat) : 0 ≤ sineFirst k ∧ sineFirst k ≤ 32767 := by
  have bound : ∀ x ∈ sineQuarter, x ≤ 32767 := by decide +kernel
  refine ⟨Int.natCast_nonneg _, ?_⟩
  by_cases inside : k < sineQuarter.length
  · rw [sineFirst_inside inside]
    exact Int.ofNat_le.mpr (bound _ (List.getElem_mem inside))
  · rw [sineFirst, List.getD_eq_getElem?_getD, List.getElem?_eq_none (Nat.le_of_not_lt inside)]
    decide

theorem sineFirst_rises {k : Nat} (h : k < 1024) : sineFirst k ≤ sineFirst (k + 1) := by
  have length : sineQuarter.length = 1025 := by decide +kernel
  have zipped : k < (sineQuarter.zip sineQuarter.tail).length := by
    rw [List.length_zip, List.length_tail]
    omega
  have rises := sineQuarter_rises _ (List.getElem_mem zipped)
  rw [List.getElem_zip, List.getElem_tail] at rises
  rw [sineFirst_inside (by omega), sineFirst_inside (by omega)]
  exact Int.ofNat_le.mpr rises

theorem sineFirst_zero : sineFirst 0 = 0 := by decide +kernel

/-! The four quarters of the table; each of them holds at both its ends. -/

theorem sineEntry_first {k : Nat} (h : k ≤ 1024) : sineEntry k = sineFirst k := if_pos h

theorem sineEntry_second {k : Nat} (low : 1024 ≤ k) (high : k ≤ 2048) : sineEntry k = sineFirst (2048 - k) := by
  obtain rfl | more := Nat.eq_or_lt_of_le low
  · rfl
  · rw [sineEntry, if_neg (by omega), if_pos high]

theorem sineEntry_third {k : Nat} (low : 2048 ≤ k) (high : k ≤ 3072) : sineEntry k = - sineFirst (k - 2048) := by
  obtain rfl | more := Nat.eq_or_lt_of_le low
  · rw [sineEntry_second (by omega) Nat.le.refl, Nat.sub_self, sineFirst_zero]
    rfl
  · rw [sineEntry, if_neg (by omega), if_neg (by omega), if_pos high]

theorem sineEntry_fourth {k : Nat} (low : 3072 ≤ k) : sineEntry k = - sineFirst (4096 - k) := by
  obtain rfl | more := Nat.eq_or_lt_of_le low
  · rfl
  · rw [sineEntry, if_neg (by omega), if_neg (by omega), if_neg (by omega)]

theorem sineEntry_range (k : Nat) : -32767 ≤ sineEntry k ∧ sineEntry k ≤ 32767 := by
  have bounds (j : Nat) : -32767 ≤ sineFirst j ∧ sineFirst j ≤ 32767 ∧ -32767 ≤ - sineFirst j ∧ - sineFirst j ≤ 32767 := by
    have := sineFirst_range j
    omega
  unfold sineEntry
  split
  · exact ⟨(bounds _).1, (bounds _).2.1⟩
  · split
    · exact ⟨(bounds _).1, (bounds _).2.1⟩
    · split <;> exact (bounds _).2.2

/-- Settles O30: the symmetries are those by which the table is read, and the rest is its first quarter. -/
theorem sineTableIsSymmetric : Obligations.SineTableIsSymmetric := by
  refine ⟨fun k le => ?_, fun k low high => ?_, by decide +kernel, by decide +kernel, by decide +kernel, by decide +kernel,
    fun k _ => sineEntry_range k, fun k less => ?_⟩
  · obtain first | second := Nat.le_total k 1024
    · rw [sineEntry_second (by omega) (by omega), sineEntry_first first, Nat.sub_sub_self le]
    · rw [sineEntry_first (by omega), sineEntry_second second le]
  · obtain first | rest := Nat.le_total k 1024
    · rw [sineEntry_fourth (by omega), sineEntry_first first, Nat.sub_sub_self (by omega)]
    · obtain second | rest := Nat.le_total k 2048
      · rw [sineEntry_third (by omega) (by omega), sineEntry_second rest second,
          show 4096 - k - 2048 = 2048 - k by omega]
      · obtain third | fourth := Nat.le_total k 3072
        · rw [sineEntry_second (by omega) (by omega), sineEntry_third rest third, Int.neg_neg,
            show 2048 - (4096 - k) = k - 2048 by omega]
        · rw [sineEntry_first (by omega), sineEntry_fourth fourth, Int.neg_neg]
  · rw [sineEntry_first (by omega), sineEntry_first (by omega)]
    exact sineFirst_rises less

end Sys2Proof.Machine


/-! The operand forms of the requests (R164): which bytes and fields each form takes and what it makes of them, and from these
which argument blocks SET_CHANNEL, SET_FRAME, SET_GAUGE and SET_CRACK take and the record each writes. -/
namespace Sys2Proof.Machine

/-! ### The forms -/

section
variable {b : Byte} {x y : Half}

theorem byteOf_of_toNat_eq {n : Nat} (h : b.toNat = n) : byteOf n = b := by
  rw [← h, byteOf, BitVec.ofNat_toNat, BitVec.setWidth_eq]

theorem index?_eq_some_iff {n : Nat} {i : Fin n} : index? n b = some i ↔ b.toNat = i.val := by
  refine ⟨fun h => ?_, index?_of_toNat_eq⟩
  unfold index? at h
  split at h
  · cases h; rfl
  · cases h

theorem index?_lt {n : Nat} {i : Fin n} (h : index? n b = some i) : b.toNat < n :=
  (index?_eq_some_iff.mp h) ▸ i.isLt

theorem flag?_of_le (h : b.toNat ≤ 1) : flag? b = some (decide (b = 1#8)) := by
  obtain zero | one := Nat.le_one_iff_eq_zero_or_eq_one.mp h
  · rw [BitVec.eq_of_toNat_eq (y := 0#8) zero]; rfl
  · rw [BitVec.eq_of_toNat_eq (y := 1#8) one]; rfl

theorem flag?_range {v : Bool} (h : flag? b = some v) : b.toNat ≤ 1 := by
  unfold flag? at h
  split at h
  · simp_all
  · split at h
    · simp_all
    · cases h

theorem action?_eq_some_iff {v : Action} : action? b = some v ↔ v.code = b := by
  constructor
  · intro h
    unfold action? at h
    split at h <;> cases h <;> exact BitVec.eq_of_toNat_eq (Eq.symm ‹_›)
  · rintro rfl
    cases v <;> rfl

theorem exists_action? (h : b.toNat ≤ 6) : ∃ v, action? b = some v := by
  unfold action?
  match b.toNat, h with
  | 0, _ | 1, _ | 2, _ | 3, _ | 4, _ | 5, _ | 6, _ => exact ⟨_, rfl⟩
  | n + 7, above => exact absurd above (by omega)

theorem action?_range {v : Action} (h : action? b = some v) : b.toNat ≤ 6 := by
  rw [← action?_eq_some_iff.mp h]
  cases v <;> decide

theorem method?_eq_some_iff {v : Method} : method? b = some v ↔ v.code = b := by
  constructor
  · intro h
    unfold method? at h
    split at h <;> cases h <;> exact BitVec.eq_of_toNat_eq (Eq.symm ‹_›)
  · rintro rfl
    cases v <;> rfl

theorem exists_method? (h : b.toNat ≤ 3) : ∃ v, method? b = some v := by
  unfold method?
  match b.toNat, h with
  | 0, _ | 1, _ | 2, _ | 3, _ => exact ⟨_, rfl⟩
  | n + 4, above => exact absurd above (by omega)

theorem method?_range {v : Method} (h : method? b = some v) : b.toNat ≤ 3 := by
  rw [← method?_eq_some_iff.mp h]
  cases v <;> decide

theorem sense?_eq_some_iff {v : Sense} : sense? b = some v ↔ v.code = b := by
  constructor
  · intro h
    unfold sense? at h
    split at h <;> cases h <;> exact BitVec.eq_of_toNat_eq (Eq.symm ‹_›)
  · rintro rfl
    cases v <;> rfl

theorem exists_sense? (h : b.toNat ≤ 4) : ∃ v, sense? b = some v := by
  unfold sense?
  match b.toNat, h with
  | 0, _ | 1, _ | 2, _ | 3, _ | 4, _ => exact ⟨_, rfl⟩
  | n + 5, above => exact absurd above (by omega)

theorem sense?_range {v : Sense} (h : sense? b = some v) : b.toNat ≤ 4 := by
  rw [← sense?_eq_some_iff.mp h]
  cases v <;> decide

theorem count15?_eq_some_iff {n : Nat} : count15? b = some n ↔ b.toNat ≤ 15 ∧ n = max 1 b.toNat := by
  unfold count15?
  split
  · simp; omega
  · split
    · simp; omega
    · simp; omega

theorem natural?_eq_some_iff : natural? x = some y ↔ 0 ≤ x.toInt ∧ y = x := by
  simp [natural?, eq_comm]

theorem positive?_eq_some_iff : positive? x = some y ↔ 1 ≤ x.toInt ∧ y = x := by
  simp [positive?, eq_comm]

theorem strain?_eq_some_iff : strain? x = some y ↔ -32767 ≤ x.toInt ∧ y = x := by
  simp [strain?, eq_comm]

theorem rate?_eq_some_iff : rate? x = some y ↔ (1 ≤ x.toNat ∧ x.toNat ≤ 32767) ∧ y = x := by
  rw [rate?, Option.ite_none_left_eq_some, Option.some.injEq, eq_comm (a := y)]
  exact and_congr_left fun _ => by omega

theorem seconds?_eq_some_iff : seconds? x = some y ↔ (1 ≤ x.toNat ∧ x.toNat ≤ 3600) ∧ y = x := by
  rw [seconds?, Option.ite_none_left_eq_some, Option.some.injEq, eq_comm (a := y)]
  exact and_congr_left fun _ => by simp only [Config.maxSeconds]; omega
end

theorem seconds?_of_within {x : Half} (low : 1 ≤ x.toNat) (high : x.toNat ≤ 3600) : seconds? x = some x :=
  seconds?_eq_some_iff.mpr ⟨⟨low, high⟩, rfl⟩

theorem seconds?_within {x y : Half} (h : seconds? x = some y) : x ≠ 0#16 ∧ x.toNat ≤ 3600 := by
  obtain ⟨⟨low, high⟩, -⟩ := seconds?_eq_some_iff.mp h
  refine ⟨?_, high⟩
  rintro rfl
  exact absurd low (by decide)

/-! ### The argument blocks -/

theorem channelOf?_eq_some_iff {a : ChannelArgs} {c : Fin 8} {x : Channel} :
    channelOf? a = some (c, x) ↔
      (index? 8 a.channel = some c ∧ natural? a.rmax = some x.rmax ∧ positive? a.tol = some x.tol ∧ count15? a.k = some x.k
          ∧ natural? a.fabs = some x.fabs)
        ∧ (action? a.trackingAction = some x.trackingAction ∧ action? a.overforceAction = some x.overforceAction
          ∧ action? a.strokeAction = some x.strokeAction ∧ method? a.method = some x.method)
        ∧ (seconds? a.seconds = some x.seconds ∧ index? 4 a.zone = some x.zone)
        ∧ x.fmin = a.fmin ∧ x.fmax = a.fmax ∧ x.ul = a.ul ∧ x.smin = a.smin ∧ x.smax = a.smax := by
  constructor
  · intro h
    unfold channelOf? at h
    split at h
    · split at h
      · split at h
        · cases h
          simp [*]
        · cases h
      · cases h
    · cases h
  · rintro ⟨⟨index, rmax, tol, k, fabs⟩, ⟨tracking, overforce, stroke, method⟩, ⟨seconds, zone⟩, fmin, fmax, ul, smin, smax⟩
    simp only [channelOf?, index, rmax, tol, k, fabs, tracking, overforce, stroke, method, seconds, zone, ← fmin, ← fmax, ← ul,
      ← smin, ← smax]

theorem channelOf?_eq_none {a : ChannelArgs}
    (out : 7 < a.channel.toNat ∨ 3 < a.zone.toNat ∨ a.rmax.toInt < 0 ∨ a.tol.toInt < 1 ∨ 15 < a.k.toNat ∨ a.fabs.toInt < 0
      ∨ 6 < a.trackingAction.toNat ∨ 6 < a.overforceAction.toNat ∨ 6 < a.strokeAction.toNat ∨ 3 < a.method.toNat
      ∨ a.seconds = 0#16 ∨ 3600 < a.seconds.toNat) : channelOf? a = none := by
  refine Option.eq_none_iff_forall_ne_some.mpr fun ⟨c, x⟩ h => ?_
  obtain ⟨⟨index, rmax, tol, k, fabs⟩, ⟨tracking, overforce, stroke, method⟩, ⟨seconds, zone⟩, -⟩ := channelOf?_eq_some_iff.mp h
  have := index?_lt index
  have := index?_lt zone
  have := (natural?_eq_some_iff.mp rmax).1
  have := (natural?_eq_some_iff.mp fabs).1
  have := (positive?_eq_some_iff.mp tol).1
  have := (count15?_eq_some_iff.mp k).1
  have := action?_range tracking
  have := action?_range overforce
  have := action?_range stroke
  have := method?_range method
  obtain ⟨some, _⟩ := seconds?_within seconds
  simp only [some, false_or] at out
  omega

theorem frameOf?_eq_some_iff {a : FrameArgs} {f : Fin 4} {x : FrameFields} :
    frameOf? a = some (f, x) ↔
      (index? 4 a.frame = some f ∧ action? a.lateAction = some x.lateAction ∧ action? a.lostAction = some x.lostAction
          ∧ action? a.tripAction = some x.tripAction ∧ method? a.method = some x.method ∧ seconds? a.seconds = some x.seconds)
        ∧ x.period = a.period := by
  constructor
  · intro h
    unfold frameOf? at h
    split at h
    · cases h
      simp [*]
    · cases h
  · rintro ⟨⟨index, late, lost, trip, method, seconds⟩, period⟩
    simp only [frameOf?, index, late, lost, trip, method, seconds, ← period]

theorem frameOf?_eq_none {a : FrameArgs}
    (out : 3 < a.frame.toNat ∨ 6 < a.lateAction.toNat ∨ 6 < a.lostAction.toNat ∨ 6 < a.tripAction.toNat ∨ 3 < a.method.toNat
      ∨ a.seconds = 0#16 ∨ 3600 < a.seconds.toNat) : frameOf? a = none := by
  refine Option.eq_none_iff_forall_ne_some.mpr fun ⟨f, x⟩ h => ?_
  obtain ⟨⟨index, late, lost, trip, method, seconds⟩, -⟩ := frameOf?_eq_some_iff.mp h
  have := index?_lt index
  have := action?_range late
  have := action?_range lost
  have := action?_range trip
  have := method?_range method
  obtain ⟨some, _⟩ := seconds?_within seconds
  simp only [some, false_or] at out
  omega

theorem gaugeOf?_eq_some_iff {a : GaugeArgs} {g : Fin 64} {x : GaugeConfig} :
    gaugeOf? a = some (g, x) ↔
      (index? 64 a.gauge = some g ∧ flag? a.enabled = some x.enabled ∧ strain? a.lo = some x.lo ∧ strain? a.hi = some x.hi
          ∧ count15? a.n = some x.n ∧ count15? a.m = some x.m)
        ∧ a.staleTime.toNat ≤ 1000
        ∧ (natural? a.driftLimit = some x.driftLimit ∧ index? 4 a.zone = some x.zone ∧ seconds? a.seconds = some x.seconds)
        ∧ (action? a.windowAction = some x.windowAction ∧ action? a.faultAction = some x.faultAction
          ∧ action? a.driftAction = some x.driftAction ∧ method? a.method = some x.method)
        ∧ x.zero = a.zero ∧ x.scale = a.scale ∧ x.staleTime = a.staleTime := by
  constructor
  · intro h
    unfold gaugeOf? at h
    split at h
    · split at h
      · cases h
      · next stale =>
        split at h
        · split at h
          · cases h
            simp [*, Nat.le_of_not_lt stale]
          · cases h
        · cases h
    · cases h
  · rintro ⟨⟨index, enabled, lo, hi, n, m⟩, stale, ⟨drift, zone, seconds⟩, ⟨window, fault, driftAction, method⟩, zero, scale,
      staleTime⟩
    rw [← staleTime] at stale
    simp only [gaugeOf?, index, enabled, lo, hi, n, m, if_neg (Nat.not_lt.mpr stale), drift, zone, seconds, window, fault,
      driftAction, method, ← zero, ← scale, ← staleTime]

theorem gaugeOf?_eq_none {a : GaugeArgs}
    (out : 63 < a.gauge.toNat ∨ 3 < a.zone.toNat ∨ 1 < a.enabled.toNat ∨ a.lo.toInt < -32767 ∨ a.hi.toInt < -32767
      ∨ 15 < a.n.toNat ∨ 15 < a.m.toNat ∨ 1000 < a.staleTime.toNat ∨ a.driftLimit.toInt < 0 ∨ 6 < a.windowAction.toNat
      ∨ 6 < a.faultAction.toNat ∨ 6 < a.driftAction.toNat ∨ 3 < a.method.toNat ∨ a.seconds = 0#16
      ∨ 3600 < a.seconds.toNat) : gaugeOf? a = none := by
  refine Option.eq_none_iff_forall_ne_some.mpr fun ⟨g, x⟩ h => ?_
  obtain ⟨⟨index, enabled, lo, hi, n, m⟩, stale, ⟨drift, zone, seconds⟩, ⟨window, fault, driftAction, method⟩, -⟩ :=
    gaugeOf?_eq_some_iff.mp h
  have := index?_lt index
  have := index?_lt zone
  have := flag?_range enabled
  have := (strain?_eq_some_iff.mp lo).1
  have := (strain?_eq_some_iff.mp hi).1
  have := (count15?_eq_some_iff.mp n).1
  have := (count15?_eq_some_iff.mp m).1
  have := (natural?_eq_some_iff.mp drift).1
  have := action?_range window
  have := action?_range fault
  have := action?_range driftAction
  have := method?_range method
  obtain ⟨some, _⟩ := seconds?_within seconds
  simp only [some, false_or] at out
  omega

theorem crackOf?_eq_some_iff {a : CrackArgs} {i : Fin 16} {x : CrackConfig} :
    crackOf? a = some (i, x) ↔
      (index? 16 a.input = some i ∧ flag? a.enable = some x.enable ∧ sense? a.sense = some x.sense ∧ count15? a.n = some x.n
          ∧ index? 4 a.zone = some x.zone)
        ∧ action? a.action = some x.action ∧ method? a.method = some x.method ∧ seconds? a.seconds = some x.seconds := by
  constructor
  · intro h
    unfold crackOf? at h
    split at h
    · split at h
      · cases h
        simp [*]
      · cases h
    · cases h
  · rintro ⟨⟨index, enable, sense, n, zone⟩, action, method, seconds⟩
    simp only [crackOf?, index, enable, sense, n, zone, action, method, seconds]

theorem crackOf?_eq_none {a : CrackArgs}
    (out : 15 < a.input.toNat ∨ 3 < a.zone.toNat ∨ 1 < a.enable.toNat ∨ 4 < a.sense.toNat ∨ 15 < a.n.toNat
      ∨ 6 < a.action.toNat ∨ 3 < a.method.toNat ∨ a.seconds = 0#16 ∨ 3600 < a.seconds.toNat) : crackOf? a = none := by
  refine Option.eq_none_iff_forall_ne_some.mpr fun ⟨i, x⟩ h => ?_
  obtain ⟨⟨index, enable, sense, n, zone⟩, action, method, seconds⟩ := crackOf?_eq_some_iff.mp h
  have := index?_lt index
  have := index?_lt zone
  have := flag?_range enable
  have := sense?_range sense
  have := (count15?_eq_some_iff.mp n).1
  have := action?_range action
  have := method?_range method
  obtain ⟨some, _⟩ := seconds?_within seconds
  simp only [some, false_or] at out
  omega

end Sys2Proof.Machine


/-! What the events and the record queue keep over every operation, and what one operation adds to them: a latched event stays
latched, a record other than a SNAPSHOT stays in the queue, and while there is room every operation only appends (R8, R151, R152). -/
namespace Sys2Proof.Machine

/-! ### Latched events (R8, R9) -/

/-- Every event latched at a port stays latched. -/
def State.Latches (s t : State) : Prop := ∀ q : Fin 6, s.ports[q].latched &&& t.ports[q].latched = s.ports[q].latched

theorem State.Latches.of_ports {s t : State} (h : t.ports = s.ports := by rfl) : s.Latches t := fun q => by simp [h]

theorem latches_composes : Composes State.Latches where
  refl _ := .of_ports
  trans h k q := by rw [← h q, BitVec.and_assoc, k q]
  setGen _ _ := .of_ports
  addEvent s e q := addEvent_latched s e q
  record _ _ := .of_ports
  setActiveSet _ _ := .of_ports
  setCommit _ _ := .of_ports
  setStamp _ _ := .of_ports
  setZones _ _ := .of_ports
  setOutputs _ _ := .of_ports
  setTagCounter _ _ := .of_ports
  setFrames _ _ := .of_ports
  setGauges _ _ := .of_ports
  setCracks _ _ := .of_ports
  setStopLine _ _ := .of_ports
  setStopHold _ _ := .of_ports
  setAuto _ _ _ := .of_ports
  setChannels _ _ := .of_ports
  setSupervision _ _ := .of_ports
  setLinks _ _ := .of_ports
  addEventAt s p e q := by
    unfold State.addEventAt State.updPort
    simp only [State.setPorts, Fin.getElem_fin, Vector.getElem_set]
    split
    · next same =>
      simp only [same]
      ext i
      simp only [BitVec.getElem_and, BitVec.getElem_or]
      cases s.ports[q.val].latched[i] <;> rfl
    · exact BitVec.and_self

theorem Event.bit_own (e : Event) : e.bit.getLsbD e.number.val = true := by cases e <;> rfl

section
variable {s t : State} {p : PortId} {e : Event}

theorem State.holds_iff_latched (latched : e ≠ .logReady) :
    s.holds p e = true ↔ s.ports[portIndex p].latched.getLsbD e.number.val = true := by
  have number : e.number.val ≠ 5 := by
    revert latched
    cases e <;> decide
  rw [State.holds, bne_iff_ne, Event.mem_iff, State.eventStatus_latched _ _ number]

/-- An event that stands in a status stays there, LOG_READY apart. -/
theorem State.Latches.holds (h : s.Latches t) (latched : e ≠ .logReady := by decide) : s.holds p e = true → t.holds p e = true := by
  rw [State.holds_iff_latched latched, State.holds_iff_latched latched]
  intro set
  have both := congrArg (·.getLsbD e.number.val) (h (portIndex p))
  simp only [BitVec.getLsbD_and, set, Bool.true_and] at both
  exact both

theorem State.addEvent_holds (s : State) (p : PortId) (latched : e ≠ .logReady := by decide) :
    (s.addEvent e).holds p e = true := by
  rw [State.holds_iff_latched latched, ← Event.mem_iff]
  simp only [State.addEvent, State.setPorts, Fin.getElem_fin, Vector.getElem_map]
  rw [Event.mem_iff, BitVec.getLsbD_or, Event.bit_own, Bool.or_true]

theorem State.answer_holds (s : State) (p q : PortId) (e : Event) (code : Byte) (length : Half) (res : Result) (body : List Byte) :
    (s.answer p code length res body).holds q e = s.holds q e := by
  simp only [State.holds, State.answer_eventStatus]
end

/-! ### Records (R151, R152) -/

@[simp] theorem State.record_nextSeq (s : State) (b : Body) : (s.record b).queue.nextSeq = s.queue.nextSeq + 1#16 := by
  obtain ⟨-, offer⟩ | ⟨-, -, offer⟩ | ⟨-, offer⟩ := Queue.offer_cases { s.queue with nextSeq := s.queue.nextSeq + 1#16 }
    { seq := s.queue.nextSeq, stamp := s.stamp, cycle := s.gen.cycles, body := b } <;>
  exact congrArg Queue.nextSeq offer

theorem State.record_records {s : State} (room : s.queue.records.length < 128) (b : Body) :
    (s.record b).queue.records =
      s.queue.records ++ [{ seq := s.queue.nextSeq, stamp := s.stamp, cycle := s.gen.cycles, body := b }] :=
  congrArg Queue.records (Queue.offer_of_room (q := { s.queue with nextSeq := s.queue.nextSeq + 1#16 }) room _)

/-- Every record other than a SNAPSHOT stays in the queue. -/
def State.Retains (s t : State) : Prop := ∀ r ∈ s.queue.records, r.isSnapshot = false → r ∈ t.queue.records

theorem State.Retains.of_queue {s t : State} (h : t.queue = s.queue := by rfl) : s.Retains t := fun r mem _ => by rwa [h]

theorem State.Retains.of_record (s : State) (b : Body) : s.Retains (s.record b) := by
  intro r mem other
  obtain ⟨-, offer⟩ | ⟨-, -, offer⟩ | ⟨-, offer⟩ := Queue.offer_cases { s.queue with nextSeq := s.queue.nextSeq + 1#16 }
    { seq := s.queue.nextSeq, stamp := s.stamp, cycle := s.gen.cycles, body := b } <;>
  change r ∈ (Queue.offer _ _).records <;> rw [offer]
  · exact List.mem_append_left _ mem
  · exact List.mem_append_left _ ((List.mem_eraseP_of_neg (by simp [other])).mpr mem)
  · exact mem

theorem retains_composes : Composes State.Retains where
  refl _ := .of_queue
  trans h k r mem other := k r (h r mem other) other
  setGen _ _ := .of_queue
  addEvent _ _ := .of_queue
  record := .of_record
  setActiveSet _ _ := .of_queue
  setCommit _ _ := .of_queue
  setStamp _ _ := .of_queue
  setZones _ _ := .of_queue
  setOutputs _ _ := .of_queue
  setTagCounter _ _ := .of_queue
  setFrames _ _ := .of_queue
  setGauges _ _ := .of_queue
  setCracks _ _ := .of_queue
  setStopLine _ _ := .of_queue
  setStopHold _ _ := .of_queue
  setAuto _ _ _ _ mem _ := mem
  setChannels _ _ := .of_queue
  setSupervision _ _ := .of_queue
  setLinks _ _ := .of_queue
  addEventAt _ _ _ := .of_queue

/-- While there is room for n records, at most n are made, and they are appended. -/
def State.Appends (n : Nat) (s t : State) : Prop :=
  s.queue.records.length + n ≤ 128 → ∃ made, made.length ≤ n ∧ t.queue.records = s.queue.records ++ made

namespace State.Appends
variable {s t u : State} {m n : Nat}

theorem of_records (h : t.queue.records = s.queue.records := by rfl) : s.Appends n t := fun _ => ⟨[], by simp, by simp [h]⟩

theorem mono (h : s.Appends m t) (le : m ≤ n := by decide) : s.Appends n t := by
  intro room
  obtain ⟨made, few, records⟩ := h (by omega)
  exact ⟨made, Nat.le_trans few le, records⟩

theorem trans (h : s.Appends m t) (k : t.Appends n u) : s.Appends (m + n) u := by
  intro room
  obtain ⟨made, few, records⟩ := h (by omega)
  obtain ⟨later, few', records'⟩ := k (by simp only [records, List.length_append]; omega)
  exact ⟨made ++ later, by simp only [List.length_append]; omega, by rw [records', records, List.append_assoc]⟩

theorem of_record (s : State) (b : Body) : s.Appends 1 (s.record b) := fun room =>
  ⟨[_], by simp, State.record_records (by omega) b⟩

/-- What the queue begins with stays its beginning. -/
theorem prefix_of (h : s.Appends n t) (room : s.queue.records.length + n ≤ 128) : s.queue.records <+: t.queue.records := by
  obtain ⟨made, -, records⟩ := h room
  exact ⟨made, records.symm⟩

theorem length_le (h : s.Appends n t) (room : s.queue.records.length + n ≤ 128) :
    t.queue.records.length ≤ s.queue.records.length + n := by
  obtain ⟨made, few, records⟩ := h room
  simp only [records, List.length_append]
  omega

theorem programRecord (s : State) (i : Fin 64) (r : Reason) : s.Appends 1 (s.programRecord i r) :=
  .of_record (s.setGen { s.gen with lastReason := r }) _

theorem moveGenerator (s : State) (x : GenState) (r : Reason) : s.Appends 1 (s.moveGenerator x r) :=
  .trans (m := 0) .of_records (.programRecord _ _ _)

theorem syncPause (s : State) : s.Appends 1 s.syncPause := by
  unfold State.syncPause
  split
  · split
    · exact .moveGenerator _ _ _
    · exact .of_records
  · split
    · exact .of_records
    · exact .moveGenerator _ _ _
  · exact .of_records
  · exact .of_records

theorem changeZone (s : State) (z : Fin 4) (st : ZoneState) (d : Bool) : s.Appends 2 (s.changeZone z st d) := by
  have entered : (s.enterZone z st).queue = s.queue := by cases st <;> rfl
  have recorded : s.Appends 1 (((s.enterZone z st).record (.zoneChange z s.zones[z].state st)).addEvent .zoneChange) :=
    .trans (m := 0) (.of_records (by rw [entered])) (.of_record _ _)
  unfold State.changeZone
  split
  · exact .of_records
  · dsimp only
    split
    · exact recorded.mono
    · exact recorded.trans (.syncPause _)

theorem removeEntry (s : State) (z : Fin 4) (e : Entry) (m : Method) (d : Bool) : s.Appends 3 (s.removeEntry z e m d) :=
  .trans (m := 1) (.of_record (s.updZone z _) _) (.changeZone _ _ _ _)

theorem takeRaise (s : State) (z : Fin 4) (r : Raise) : (s.takeRaise z r).1.queue = s.queue := by
  unfold State.takeRaise
  split
  · rfl
  · split
    · rfl
    · split <;> rfl

theorem raiseIn (s : State) (z : Fin 4) (r : Raise) (d : Bool) : s.Appends 6 (s.raiseIn z r d) := by
  have taken : s.Appends 0 (s.takeRaise z r).1 := .of_records (by rw [takeRaise])
  have alarmed (b : Body) : s.Appends 1 (((s.takeRaise z r).1.record b).addEvent .alarm) := taken.trans (.of_record _ b)
  have changed (b : Body) (st : ZoneState) : s.Appends 3 ((((s.takeRaise z r).1.record b).addEvent .alarm).changeZone z st d) :=
    (alarmed b).trans (.changeZone _ _ _ _)
  unfold State.raiseIn
  dsimp only
  split
  · exact (changed _ _).trans (.removeEntry _ _ _ _ _)
  · exact (changed _ _).mono

end State.Appends

end Sys2Proof.Machine


/-! The requests of the load generator (section 2.5): PAUSE, RESUME, STOP, ADVANCE and WRITE_BLOCK (R18, R22 to R25), and what a
block transition makes (R32 to R35). -/
namespace Sys2Proof.Machine

section
variable {s : State}

theorem exec_pause (s : State) :
    exec (.pause .director) s = .next (s.afterPause.answer .director 0x14#8 0#16 .ok
      [s.afterPause.gen.state.code, yes s.afterPause.gen.requestedPause]) :=
  congrArg Host.Outcome.next (State.serve_ok (r := .pause) (n := 0) rfl rfl)

theorem exec_resume (s : State) :
    exec (.resume .director) s = .next (s.afterResume.answer .director 0x15#8 0#16 .ok
      [s.afterResume.gen.state.code, yes s.afterResume.gen.requestedPause]) :=
  congrArg Host.Outcome.next (State.serve_ok (r := .resume) (n := 0) rfl rfl)

theorem exec_stop {mode : Byte} {m : StopMode} (h : stopMode? mode = some m) (s : State) :
    exec (.stop .director mode) s = .next ((s.afterStop m).answer .director 0x16#8 1#16 .ok
      [(s.afterStop m).gen.state.code, yes (s.afterStop m).gen.pendingStop]) :=
  congrArg Host.Outcome.next (State.serve_ok (r := .stop) (n := 1) rfl (by rw [h]; rfl))

theorem exec_stop_of_range {mode : Byte} (h : stopMode? mode = none) (s : State) :
    exec (.stop .director mode) s = .next (s.answer .director 0x16#8 1#16 .range []) :=
  congrArg Host.Outcome.next (State.serve_refused (r := .stop) (n := 1) rfl (by rw [h]))

theorem exec_advance (s : State) :
    exec (.advance .director) s = .next (s.afterAdvance.answer .director 0x17#8 0#16 .ok
      [s.afterAdvance.gen.state.code, yes s.afterAdvance.gen.pendingAdvance]) :=
  congrArg Host.Outcome.next (State.serve_ok (r := .advance) (n := 0) rfl rfl)

theorem Generator.executing_iff (g : Generator) : g.executing = true ↔ g.state = .running ∨ g.state = .paused := by
  cases h : g.state <;> simp [Generator.executing, h]

theorem Generator.cycling_iff {g : Generator} {i : Fin 64} (h : g.current = some i) :
    g.cycling = true ↔ ∃ a f n, g.program[i] = .cycle a f n := by
  cases block : g.program[i] <;> simp_all [Generator.cycling, Generator.currentBlock]

theorem State.moveGenerator_of_current {i : Fin 64} (h : s.gen.current = some i) (st : GenState) (r : Reason) :
    s.moveGenerator st r = (s.setGen { s.gen with state := st }).programRecord i r := by
  rw [State.moveGenerator, h]
  rfl

/-! ### PAUSE and RESUME (R23) -/

theorem State.afterPause_of_running {i : Fin 64} (running : s.gen.state = .running) (current : s.gen.current = some i) :
    s.afterPause = (s.setGen { s.gen with requestedPause := true, state := .paused }).programRecord i .pause := by
  have executing : s.gen.executing = true := s.gen.executing_iff.mpr (.inl running)
  unfold State.afterPause
  dsimp only
  rw [if_pos executing, if_pos (by exact running), State.moveGenerator_of_current (i := i) (by exact current)]
  rfl

theorem State.afterPause_of_paused (paused : s.gen.state = .paused) :
    s.afterPause = s.setGen { s.gen with requestedPause := true } := by
  have executing : s.gen.executing = true := s.gen.executing_iff.mpr (.inr paused)
  simp [State.afterPause, executing, paused]

theorem State.afterPause_of_resting (resting : s.gen.executing = false) : s.afterPause = s := by
  have notRunning : s.gen.state ≠ .running := fun h => by simp [s.gen.executing_iff.mpr (.inl h)] at resting
  simp [State.afterPause, resting, notRunning]

theorem State.afterResume_of_resumed {i : Fin 64} (paused : s.gen.state = .paused) (current : s.gen.current = some i)
    (free : s.pauseDemand = false) :
    s.afterResume = (s.setGen { s.gen with requestedPause := false, state := .running }).programRecord i .resume := by
  unfold State.afterResume
  dsimp only
  rw [if_pos (by exact ⟨paused, free⟩), State.moveGenerator_of_current (i := i) (by exact current)]
  rfl

theorem State.afterResume_of_staying (h : s.gen.state ≠ .paused ∨ s.pauseDemand = true) :
    s.afterResume = s.setGen { s.gen with requestedPause := false } := by
  refine if_neg ?_
  rintro ⟨paused, free⟩
  exact h.elim (· paused) fun demand => Bool.false_ne_true (free.symm.trans demand)

/-- Settles O23, by the generator state, and for RESUME the pause demand. -/
theorem pauseAndResume : Obligations.PauseAndResume := by
  intro s
  refine ⟨fun i running current => ?run, fun paused => ?paused, fun resting => ?resting, fun i paused current free => ?resume,
    fun h => ?stay⟩
  case run => rw [exec_pause, State.afterPause_of_running running current, State.programRecord_gen]; rfl
  case paused =>
    rw [exec_pause, State.afterPause_of_paused paused, State.setGen_gen, paused]
    rfl
  case resting =>
    rw [exec_pause, State.afterPause_of_resting]
    obtain h | h := resting <;> simp [Generator.executing, h]
  case resume => rw [exec_resume, State.afterResume_of_resumed paused current free, State.programRecord_gen]; rfl
  case stay => rw [exec_resume, State.afterResume_of_staying h, State.setGen_gen]; rfl

/-! ### STOP and ADVANCE (R24, R25) -/

theorem State.afterStop_of_stopping {m : StopMode} (executing : s.gen.executing = true)
    (h : m = .now ∨ s.gen.cycling = false) : s.afterStop m = s.stopGenerator := by
  rw [State.afterStop, if_pos executing, if_neg]
  rintro ⟨rfl, cycling⟩
  exact h.elim nofun fun h => Bool.false_ne_true (h.symm.trans cycling)

theorem State.afterStop_of_cycling (executing : s.gen.executing = true) (cycling : s.gen.cycling = true) :
    s.afterStop .atBoundary = s.setGen { s.gen with pendingStop := true } := by
  rw [State.afterStop, if_pos executing, if_pos ⟨rfl, cycling⟩]

theorem State.afterStop_of_resting {m : StopMode} (resting : s.gen.executing = false) : s.afterStop m = s :=
  if_neg (by simp [resting])

theorem stopMode?_of_two_le {b : Byte} (h : 2 ≤ b.toNat) : stopMode? b = none := by
  unfold stopMode?
  split
  · omega
  · omega
  · rfl

theorem exists_stopMode? {b : Byte} (h : b.toNat ≤ 1) : ∃ m, stopMode? b = some m := by
  obtain zero | one := Nat.le_one_iff_eq_zero_or_eq_one.mp h
  · exact ⟨.now, by simp [stopMode?, zero]⟩
  · exact ⟨.atBoundary, by simp [stopMode?, one]⟩

theorem stopMode?_eq_now {b : Byte} (h : stopMode? b = some .now) : b = 0#8 := by
  unfold stopMode? at h
  split at h
  · next zero => exact BitVec.eq_of_toNat_eq zero
  · cases h
  · cases h

/-- Settles O24, by the generator state, the mode and whether a CYCLE is current. -/
theorem stopAndAdvance : Obligations.StopAndAdvance := by
  intro mode s
  refine ⟨fun out => exec_stop_of_range (stopMode?_of_two_le out) s, fun i named executing current => ⟨fun now => ?stops, ?pends⟩,
    fun named resting => ?still, fun executing => ?advance, fun resting => ?none⟩
  case stops =>
    obtain ⟨m, hm⟩ := exists_stopMode? named
    have stops : m = .now ∨ s.gen.cycling = false := by
      obtain rfl | other := now
      · exact .inl (Option.some.inj (hm.symm.trans rfl))
      · refine .inr (Bool.eq_false_iff.mpr fun cycling => ?_)
        obtain ⟨a, f, n, block⟩ := (s.gen.cycling_iff current).mp cycling
        exact other a f n block
    rw [exec_stop hm, State.afterStop_of_stopping executing stops, State.stopGenerator_gen, State.stopGenerator, current]
    rfl
  case pends =>
    rintro a f n rfl block
    rw [exec_stop (m := .atBoundary) rfl, State.afterStop_of_cycling executing ((s.gen.cycling_iff current).mpr ⟨a, f, n, block⟩)]
    rfl
  case still =>
    obtain ⟨m, hm⟩ := exists_stopMode? named
    rw [exec_stop hm, State.afterStop_of_resting resting]
  case advance => rw [exec_advance, State.afterAdvance, if_pos executing]; rfl
  case none => rw [exec_advance, State.afterAdvance, if_neg (by simp [resting])]

end

/-! ### WRITE_BLOCK (R18) -/

theorem exec_writeBlock_of_range {a : BlockArgs} (h : index? 64 a.index = none ∨ block? a = none) (s : State) :
    exec (.writeBlock .director a) s = .next (s.answer .director 0x10#8 12#16 .range []) := by
  refine congrArg Host.Outcome.next (State.serve_refused (r := .writeBlock) (n := 12) rfl ?_)
  split
  · next index block => simp [index, block] at h
  · rfl

section
variable {a : BlockArgs} {i : Fin 64} {b : Block} (index : a.index.toNat = i.val) (block : block? a = some b) (s : State)
include index block

theorem exec_writeBlock_of_conflict (h : b.kind = .jump ∧ a.head.extractLsb' 8 8 = a.index) :
    exec (.writeBlock .director a) s = .next (s.answer .director 0x10#8 12#16 .conflict []) :=
  congrArg Host.Outcome.next (State.serve_refused (r := .writeBlock) (n := 12) rfl (by
    simp only [index?_of_toNat_eq index, block]
    exact if_pos h))

theorem exec_writeBlock_of_busy (h : ¬ (b.kind = .jump ∧ a.head.extractLsb' 8 8 = a.index))
    (busy : s.gen.executing = true ∧ s.gen.current = some i) :
    exec (.writeBlock .director a) s = .next (s.answer .director 0x10#8 12#16 .busy []) :=
  congrArg Host.Outcome.next (State.serve_refused (r := .writeBlock) (n := 12) rfl (by
    simp only [index?_of_toNat_eq index, block]
    exact (if_neg h).trans (if_pos busy)))

theorem exec_writeBlock_of_free (h : ¬ (b.kind = .jump ∧ a.head.extractLsb' 8 8 = a.index))
    (free : ¬ (s.gen.executing = true ∧ s.gen.current = some i)) :
    exec (.writeBlock .director a) s =
      .next ((s.writeBlock i b).answer .director 0x10#8 12#16 .ok ([a.index, b.kind.code] ++ b.fieldBytes)) :=
  congrArg Host.Outcome.next (State.serve_ok (r := .writeBlock) (n := 12) rfl (by
    simp only [index?_of_toNat_eq index, block]
    exact (if_neg h).trans (if_neg free)))

/-- A block in no conflict is refused BUSY at the index executing, and stored and answered at another. -/
theorem exec_writeBlock (h : ¬ (b.kind = .jump ∧ a.head.extractLsb' 8 8 = a.index)) :
    ((s.gen.state = .running ∨ s.gen.state = .paused) ∧ s.gen.current = some i →
        exec (.writeBlock .director a) s = .next (s.answer .director 0x10#8 12#16 .busy []))
      ∧ (¬ ((s.gen.state = .running ∨ s.gen.state = .paused) ∧ s.gen.current = some i) →
        exec (.writeBlock .director a) s =
          .next ((s.writeBlock i b).answer .director 0x10#8 12#16 .ok ([a.index, b.kind.code] ++ b.fieldBytes))) := by
  rw [← s.gen.executing_iff]
  exact ⟨exec_writeBlock_of_busy index block s h, exec_writeBlock_of_free index block s h⟩
end

theorem extractLsb'_high {m n : Nat} (x : BitVec m) (y : BitVec n) : (x ++ y).extractLsb' n m = x := by
  rw [BitVec.extractLsb'_append_eq_left]

section
variable {a : BlockArgs}

theorem block?_of_kind_ramp (kind : a.kind = 1#8) : block? a =
    if (a.body.extractLsb' 16 16).toNat = 0 ∨ 32767 < (a.body.extractLsb' 16 16).toNat then none
    else some (.ramp a.head (a.body.extractLsb' 16 16)) := by
  rw [block?, kind]
  rfl

theorem block?_of_kind_dwell (kind : a.kind = 2#8) :
    block? a = if a.body.toNat = 0 ∨ 16777215 < a.body.toNat then none else some (.dwell a.body) := by
  rw [block?, kind]
  rfl

theorem block?_of_kind_cycle (kind : a.kind = 3#8) : block? a =
    if a.head.toInt < 0 ∨ a.body.toNat = 0 then none
    else some (.cycle a.head (if 16777216 < a.body.toNat then 16777216#32 else a.body) a.tail) := by
  rw [block?, kind]
  rfl

/-- A kind code above 4, and a field outside its range, make no block (R18). -/
theorem block?_eq_none
    (out : 4 < a.kind.toNat
      ∨ (a.kind = 1#8 ∧ ∃ rate unused : Half, a.body = rate ++ unused ∧ (rate = 0#16 ∨ 32767 < rate.toNat))
      ∨ (a.kind = 2#8 ∧ (a.body = 0#32 ∨ 16777215 < a.body.toNat))
      ∨ (a.kind = 3#8 ∧ (a.head.toInt < 0 ∨ a.body = 0#32))
      ∨ (a.kind = 4#8 ∧ ((∃ jb unused : Byte, a.head = jb ++ unused ∧ 63 < jb.toNat)
          ∨ ∃ unused : Half, a.body = 0#16 ++ unused))) : block? a = none := by
  simp only [← BitVec.toNat_inj (y := 0#16), ← BitVec.toNat_inj (y := 0#32)] at out
  obtain kind | ⟨kind, rate, unused, body, out⟩ | ⟨kind, out⟩ | ⟨kind, out⟩
    | ⟨kind, ⟨jb, unused, head, out⟩ | ⟨unused, body⟩⟩ := out
  · unfold block?
    split
    case h_6 => rfl
    all_goals omega
  · rw [block?_of_kind_ramp kind, body, extractLsb'_high]
    exact if_pos out
  · rw [block?_of_kind_dwell kind]
    exact if_pos out
  · rw [block?_of_kind_cycle kind]
    exact if_pos out
  · have high : a.head.extractLsb' 8 8 = jb := by rw [head, extractLsb'_high]
    simp [block?, kind, high, index?_of_le out]
  · have high : a.body.extractLsb' 16 16 = 0#16 := by rw [body, extractLsb'_high]
    cases index : index? 64 (a.head.extractLsb' 8 8) <;> simp [block?, kind, high, index]

theorem block?_of_ramp {rate unused : Half} (kind : a.kind = 1#8) (body : a.body = rate ++ unused) (low : 1 ≤ rate.toNat)
    (high : rate.toNat ≤ 32767) : block? a = some (.ramp a.head rate) := by
  rw [block?_of_kind_ramp kind, body, extractLsb'_high]
  exact if_neg (by omega)

theorem block?_of_dwell (kind : a.kind = 2#8) (low : 1 ≤ a.body.toNat) (high : a.body.toNat ≤ 16777215) :
    block? a = some (.dwell a.body) := by
  rw [block?_of_kind_dwell kind]
  exact if_neg (by omega)

theorem block?_of_cycle (kind : a.kind = 3#8) (amplitude : 0 ≤ a.head.toInt) (low : 1 ≤ a.body.toNat) :
    block? a = some (.cycle a.head (if a.body.toNat ≤ 16777216 then a.body else 16777216#32) a.tail) := by
  rw [block?_of_kind_cycle kind, if_neg (by omega)]
  simp only [← Nat.not_lt, ite_not]

theorem block?_of_jump {j : Fin 64} {jb unused : Byte} {k unused' : Half} (kind : a.kind = 4#8) (named : jb.toNat = j.val)
    (head : a.head = jb ++ unused) (body : a.body = k ++ unused') (low : 1 ≤ k.toNat) : block? a = some (.jump j k) := by
  have field : a.body.extractLsb' 16 16 = k := by rw [body, extractLsb'_high]
  have target : a.head.extractLsb' 8 8 = jb := by rw [head, extractLsb'_high]
  simp [block?, kind, field, target, index?_of_toNat_eq named]
  omega
end

/-- Settles O20, by the kind of the block. -/
theorem writeBlockStoresTheBlock : Obligations.WriteBlockStoresTheBlock := by
  refine ⟨fun a s out => ?range, fun i b kind head body tail s named => ⟨?stop, ?ramp, ?dwell, ?cycle, ?jump⟩⟩
  case range =>
    refine exec_writeBlock_of_range ?_ s
    obtain index | out := out
    · exact .inl (index?_of_le index)
    · exact .inr (block?_eq_none out)
  case stop => rintro rfl; exact exec_writeBlock named rfl s (by simp [Block.kind])
  case ramp =>
    rintro rate unused rfl fields low high
    exact exec_writeBlock named (block?_of_ramp rfl fields low high) s (by simp [Block.kind])
  case dwell =>
    rintro rfl low high
    exact exec_writeBlock named (block?_of_dwell rfl low high) s (by simp [Block.kind])
  case cycle =>
    rintro rfl amplitude low
    exact exec_writeBlock named (block?_of_cycle rfl amplitude low) s (by simp [Block.kind])
  case jump =>
    rintro j jb unused k unused' rfl target rfl fields low
    have block := block?_of_jump (a := { index := b, kind := 4#8, head := jb ++ unused, body := body, tail := tail }) rfl target rfl
      fields low
    have own : jb = b ↔ j = i := by
      rw [← BitVec.toNat_inj, target, named, Fin.val_inj]
    refine ⟨fun same => exec_writeBlock_of_conflict named block s ⟨rfl, ?_⟩, fun other => ?_⟩
    · exact (extractLsb'_high jb unused).trans (own.mpr same)
    · have stored := exec_writeBlock named block s fun h => other (own.mp ((extractLsb'_high jb unused).symm.trans h.2))
      rwa [Block.fieldBytes, byteOf_of_toNat_eq target] at stored

/-! ### A block transition (R32 to R35) -/

@[simp] theorem Generator.enter_program (g : Generator) (i : Fin 64) : (g.enter i).program = g.program := by
  rw [Generator.enter_eq]

@[simp] theorem Generator.enter_state (g : Generator) (i : Fin 64) : (g.enter i).state = .running := by
  rw [Generator.enter_eq]

theorem State.setGen_programRecord (s : State) (g : Generator) (i : Fin 64) (r : Reason) :
    (s.setGen g).programRecord i r =
      ((s.setGen { g with lastReason := r }).record (.program i g.program[i].kind g.state r)).addEvent .genChange := rfl

section
variable {g : Generator} {n : Nat} {loops : Vector Half 64} {i : Fin 64}

theorem Generator.transitioned_of_governs {jumped : Bool} (h : chain g.program 8 n g.loops false = (loops, .governs i jumped))
    (a b : Bool) : g.transitioned n a b = { { g with loops := loops }.enter i with lastReason := startReason a b jumped } := by
  unfold Generator.transitioned
  rw [show Config.jumpLimit = 8 from rfl, h]

theorem Generator.transitioned_of_ends {reason : Reason} (h : chain g.program 8 n g.loops false = (loops, .ends i reason))
    (a b : Bool) : g.transitioned n a b = { { g with loops := loops }.rest .done with lastReason := reason } := by
  unfold Generator.transitioned
  rw [show Config.jumpLimit = 8 from rfl, h]

/-- What every transition leaves, wherever its chain ends. -/
theorem Generator.transitioned_kept (g : Generator) (n : Nat) (a b : Bool) :
    (g.transitioned n a b).loops = (chain g.program 8 n g.loops false).1 ∧ (g.transitioned n a b).phase = 0#32
      ∧ (g.transitioned n a b).pendingAdvance = false ∧ (g.transitioned n a b).mean = g.mean
      ∧ (g.transitioned n a b).cycles = g.cycles ∧ (g.transitioned n a b).program = g.program
      ∧ (g.transitioned n a b).startIndex = g.startIndex
      ∧ (g.pendingStop = false → (g.transitioned n a b).pendingStop = false) := by
  rcases reached : chain g.program 8 n g.loops false with ⟨loops, ⟨i, jumped⟩ | ⟨i, reason⟩⟩
  · rw [Generator.transitioned_of_governs reached, Generator.enter_eq]
    simp only [true_and, imp_self]
  · rw [Generator.transitioned_of_ends reached]
    simp [Generator.rest]

variable {s : State}

theorem State.transition_of_governs {jumped : Bool} (h : chain s.gen.program 8 n s.gen.loops false = (loops, .governs i jumped))
    (a b : Bool) : s.transition n a b =
      ((s.setGen (s.gen.transitioned n a b)).record
        (.program i s.gen.program[i].kind .running (startReason a b jumped))).addEvent .genChange := by
  unfold State.transition
  rw [Generator.transitioned_of_governs h, show Config.jumpLimit = 8 from rfl, h]
  dsimp only
  rw [State.setGen_programRecord, Generator.enter_program, Generator.enter_state]

theorem State.transition_of_ends {reason : Reason} (h : chain s.gen.program 8 n s.gen.loops false = (loops, .ends i reason))
    (a b : Bool) : s.transition n a b =
      ((s.setGen (s.gen.transitioned n a b)).record (.program i s.gen.program[i].kind .done reason)).addEvent .genChange := by
  unfold State.transition
  rw [Generator.transitioned_of_ends h, show Config.jumpLimit = 8 from rfl, h]
  rfl

/-- A transition makes one PROGRAM record and adds GEN_CHANGE. -/
theorem State.transition_eq (s : State) (n : Nat) (a b : Bool) : ∃ x, s.transition n a b =
    ((s.setGen (s.gen.transitioned n a b)).record x).addEvent .genChange := by
  rcases reached : chain s.gen.program 8 n s.gen.loops false with ⟨loops, ⟨i, jumped⟩ | ⟨i, reason⟩⟩
  · exact ⟨_, State.transition_of_governs reached a b⟩
  · exact ⟨_, State.transition_of_ends reached a b⟩

theorem State.transition_records_of_governs {jumped : Bool} (room : s.queue.records.length < 128)
    (h : chain s.gen.program 8 n s.gen.loops false = (loops, .governs i jumped)) (a b : Bool) :
    (s.transition n a b).queue.records = s.queue.records ++
      [{ seq := s.queue.nextSeq, stamp := s.stamp, cycle := s.gen.cycles
         body := .program i s.gen.program[i].kind .running (startReason a b jumped) }] := by
  obtain ⟨-, -, -, -, cycles, -⟩ := s.gen.transitioned_kept n a b
  rw [State.transition_of_governs h, ← cycles]
  exact State.record_records (s := s.setGen (s.gen.transitioned n a b)) room _

theorem State.transition_records_of_ends {reason : Reason} (room : s.queue.records.length < 128)
    (h : chain s.gen.program 8 n s.gen.loops false = (loops, .ends i reason)) (a b : Bool) :
    (s.transition n a b).queue.records = s.queue.records ++
      [{ seq := s.queue.nextSeq, stamp := s.stamp, cycle := s.gen.cycles
         body := .program i s.gen.program[i].kind .done reason }] := by
  obtain ⟨-, -, -, -, cycles, -⟩ := s.gen.transitioned_kept n a b
  rw [State.transition_of_ends h, ← cycles]
  exact State.record_records (s := s.setGen (s.gen.transitioned n a b)) room _
end

/-! ### START (R22) -/

theorem forall_zone {P : Fin 4 → Prop} : (∀ z, P z) ↔ P 0 ∧ P 1 ∧ P 2 ∧ P 3 :=
  ⟨fun h => ⟨h 0, h 1, h 2, h 3⟩, fun ⟨h0, h1, h2, h3⟩ z => match z with | 0 => h0 | 1 => h1 | 2 => h2 | 3 => h3⟩

theorem exists_zone {P : Fin 4 → Prop} : (∃ z, P z) ↔ P 0 ∨ P 1 ∨ P 2 ∨ P 3 := by
  constructor
  · rintro ⟨z, h⟩
    match z, h with
    | 0, h => exact .inl h
    | 1, h => exact .inr (.inl h)
    | 2, h => exact .inr (.inr (.inl h))
    | 3, h => exact .inr (.inr (.inr h))
  · rintro (h | h | h | h) <;> exact ⟨_, h⟩

theorem State.allNormal_iff (s : State) : s.allNormal = true ↔ ∀ z : Fin 4, s.zones[z].state = .normal := by
  simp only [State.allNormal, Bool.and_eq_true, beq_iff_eq, and_assoc]
  exact (forall_zone (P := fun z => s.zones[z].state = .normal)).symm

theorem exec_start_of_refused {s : State} (h : s.gen.executing = true ∨ s.allNormal = false) :
    exec (.start .director) s = .next (s.answer .director 0x13#8 0#16 .state []) :=
  congrArg Host.Outcome.next (State.serve_refused (r := .start) (n := 0) rfl (if_pos h))

/-- The generator that START hands to the transition from the start index. -/
def Generator.cleared (g : Generator) : Generator :=
  { g with loops := Vector.replicate 64 0#16, phase := 0#32, pendingAdvance := false, pendingStop := false }

theorem State.startProgram_eq (s : State) : s.startProgram = (s.setGen s.gen.cleared).transition s.gen.startIndex.val true false := rfl

/-- Settles O22, by where the chain from the start index ends. -/
theorem startBeginsTheProgram : Obligations.StartBeginsTheProgram := by
  intro s
  refine ⟨fun refused => ?refused, fun resting normal => ?taken⟩
  case refused =>
    refine exec_start_of_refused (refused.imp_right fun ⟨z, other⟩ => ?_)
    exact Bool.eq_false_iff.mpr fun normal => other (s.allNormal_iff.mp normal z)
  case taken =>
    have gen : s.startProgram.gen = s.gen.cleared.transitioned s.gen.startIndex.val true false := State.transition_gen _ _ _ _
    obtain ⟨loops, phase, advance, mean, cycles, program, start, stop⟩ :=
      s.gen.cleared.transitioned_kept s.gen.startIndex.val true false
    obtain ⟨x, made⟩ := (s.setGen s.gen.cleared).transition_eq s.gen.startIndex.val true false
    rw [← State.startProgram_eq] at made
    refine ⟨_, exec_start_of_ready resting (s.allNormal_iff.mpr normal), ?loops, ?phase, ?mean, ?cycles, ?advance, ?stop, ?program,
      ?start, ⟨fun i jumped reached => ?governs, fun i reason reached => ?ends⟩, ?seq, ?event, ?rest⟩
    case loops => exact (congrArg Generator.loops gen).trans loops
    case phase => exact (congrArg Generator.phase gen).trans phase
    case mean => exact (congrArg Generator.mean gen).trans mean
    case cycles => exact (congrArg Generator.cycles gen).trans cycles
    case advance => exact (congrArg Generator.pendingAdvance gen).trans advance
    case program => exact (congrArg Generator.program gen).trans program
    case start => exact (congrArg Generator.startIndex gen).trans start
    case seq => rw [State.answer_queue, made]; exact State.record_nextSeq _ _
    case event =>
      intro q
      rw [State.answer_holds, made]
      exact State.addEvent_holds _ q
    case rest => rw [made]; rfl
    case stop => exact (congrArg Generator.pendingStop gen).trans (stop rfl)
    case governs =>
      have reached : chain s.gen.program 8 s.gen.startIndex.val s.gen.cleared.loops false = (_, .governs i jumped) :=
        Prod.ext rfl reached
      rw [Generator.transitioned_of_governs reached] at gen
      obtain ⟨state, current, reason⟩ : s.startProgram.gen.state = .running ∧ s.startProgram.gen.current = some i
          ∧ s.startProgram.gen.lastReason = .start := by
        rw [gen, Generator.enter_eq]
        exact ⟨rfl, rfl, rfl⟩
      refine ⟨state, current, reason, ?_, ?_, fun d dwell => ?_, fun a f n cycle => ?_, fun room => ?_⟩
      · rw [State.answer_gen, gen, Generator.enter_eq]
        rfl
      · rw [State.answer_answerOf, answerBytes_ok_two, state, current]
        rfl
      · rw [State.answer_gen, gen]
        exact Generator.enter_of_dwell dwell
      · rw [State.answer_gen, gen]
        exact Generator.enter_of_cycle cycle
      · rw [State.answer_queue, State.answer_gen, state, reason, s.startProgram_eq]
        exact State.transition_records_of_governs (s := s.setGen s.gen.cleared) room reached true false
    case ends =>
      have reached : chain s.gen.program 8 s.gen.startIndex.val s.gen.cleared.loops false = (_, .ends i reason) :=
        Prod.ext rfl reached
      rw [Generator.transitioned_of_ends reached] at gen
      have state : s.startProgram.gen.state = .done := by rw [gen]; rfl
      have current : s.startProgram.gen.current = none := by rw [gen]; rfl
      have last : s.startProgram.gen.lastReason = reason := by rw [gen]
      refine ⟨state, current, last, by rw [State.answer_gen, gen]; rfl, ?_, fun room => ?_⟩
      · rw [State.answer_answerOf, answerBytes_ok_two, state, current]
        rfl
      · rw [State.answer_queue, State.answer_gen, state, last, s.startProgram_eq]
        exact State.transition_records_of_ends (s := s.setGen s.gen.cleared) room reached true false

end Sys2Proof.Machine


/-! The gauge links (section 6.1): a frame assembled bit by bit (R92, section 10.6). -/
namespace Sys2Proof.Machine

theorem execAll_append {a b : List Instr} {s t : State} (h : execAll a s = .next t) : execAll (a ++ b) s = execAll b t := by
  induction a generalizing s with
  | nil =>
    cases h
    rfl
  | cons c a ih =>
    simp only [List.cons_append, execAll] at h ⊢
    split
    · next u run =>
      rw [run] at h
      exact ih h
    · next run => rw [run] at h; cases h
    · next run => rw [run] at h; cases h

theorem execAll_singleton (c : Instr) {s t : State} (h : exec c s = .next t) : execAll [c] s = .next t := by
  rw [execAll, h]
  rfl

/-! ### One edge -/

section
variable {s : State} {link : Fin 2} {b : Bool}

theorem exec_gaugeLinkClockEdge_of_waiting (h : s.links[link].state = .waiting) :
    exec (.gaugeLinkClockEdge link b) s = .next s := by
  simp only [exec, execGaugeLinkClockEdge, h]

theorem exec_gaugeLinkClockEdge_of_receiving (h : s.links[link].state = .receiving) (more : s.links[link].count < 39) :
    exec (.gaugeLinkClockEdge link b) s =
      .next (s.updLink link fun l => { l with count := l.count + 1, bits := l.shifted b }) := by
  simp only [exec, execGaugeLinkClockEdge, h, if_pos more]

theorem exec_gaugeLinkClockEdge_of_last (h : s.links[link].state = .receiving) (last : ¬ s.links[link].count < 39) :
    exec (.gaugeLinkClockEdge link b) s =
      .next ((s.updLink link fun _ =>
        { state := .waiting, count := 40, bits := s.links[link].shifted b }).takeFrame link (s.links[link].shifted b)) := by
  simp only [exec, execGaugeLinkClockEdge, h, if_neg last]
end

/-! ### A frame, bit by bit -/

/-- The receiver with the first k bits of a frame, the most significant first. -/
def Link.received (frame : BitVec 40) (k : Nat) : Link := { state := .receiving, count := k, bits := frame >>> (40 - k) }

theorem Link.received_shifted (frame : BitVec 40) {k : Nat} (h : k < 40) :
    (Link.received frame k).shifted (frame.getLsbD (39 - k)) = frame >>> (39 - k) := by
  refine BitVec.eq_of_getLsbD_eq fun i hi => ?_
  have bit (b : Bool) : (if b then 1#40 else 0#40).getLsbD i = (decide (i = 0) && b) := by
    cases b <;> simp [BitVec.getLsbD_one]
  simp only [Link.shifted, Link.received, BitVec.getLsbD_or, BitVec.getLsbD_shiftLeft, BitVec.getLsbD_ushiftRight, bit]
  obtain rfl | ⟨j, rfl⟩ : i = 0 ∨ ∃ j, i = j + 1 := by cases i <;> simp
  · simp
  · have place : 40 - k + j = 39 - k + (j + 1) := by omega
    simp [hi, place]

theorem execAll_edges (s : State) (link : Fin 2) (frame : BitVec 40) (k : Nat) (h : k ≤ 39) :
    execAll ((List.range k).map fun j => .gaugeLinkClockEdge link (frame.getLsbD (39 - j)))
        (s.updLink link fun _ => Link.received frame 0) = .next (s.updLink link fun _ => Link.received frame k) := by
  induction k with
  | zero => rfl
  | succ k ih =>
    have reached : (s.updLink link fun _ => Link.received frame k).links[link] = Link.received frame k := by
      simp [State.updLink, State.setLinks]
    rw [List.range_succ, List.map_append, execAll_append (ih (by omega))]
    refine execAll_singleton _ ?_
    rw [exec_gaugeLinkClockEdge_of_receiving (by rw [reached]; rfl) (by rw [reached]; exact h)]
    have next : { Link.received frame k with
        count := (Link.received frame k).count + 1, bits := (Link.received frame k).shifted (frame.getLsbD (39 - k)) }
          = Link.received frame (k + 1) := by
      rw [Link.received_shifted frame (by omega)]
      simp [Link.received, show 40 - (k + 1) = 39 - k by omega]
    refine congrArg Host.Outcome.next ?_
    rw [State.updLink, reached, next]
    simp [State.updLink, State.setLinks]

/-- Settles O43, by the bits received so far. -/
theorem fortyBitsMakeAFrame : Obligations.FortyBitsMakeAFrame := by
  intro link frame s
  refine ⟨?frame, rfl, fun waiting b => exec_gaugeLinkClockEdge_of_waiting waiting,
    fun receiving more b => ?edge⟩
  case edge =>
    rw [exec_gaugeLinkClockEdge_of_receiving receiving more, State.updLink, receiving]
    rfl
  case frame =>
    have start : exec (.gaugeLinkStartCondition link) s = .next (s.updLink link fun _ => Link.received frame 0) := by
      have empty : frame >>> 40 = 0#40 := BitVec.ushiftRight_eq_zero Nat.le.refl
      simp [Link.received, exec, execGaugeLinkStartCondition, empty]
    have reached : (s.updLink link fun _ => Link.received frame 39).links[link] = Link.received frame 39 := by
      simp [State.updLink, State.setLinks]
    rw [execAll, start]
    dsimp only
    rw [List.range_succ, List.map_append, execAll_append (execAll_edges s link frame 39 Nat.le.refl)]
    refine execAll_singleton _ ?_
    rw [exec_gaugeLinkClockEdge_of_last (by rw [reached]; rfl) (by rw [reached]; exact Nat.lt_irrefl 39), reached,
      Link.received_shifted frame (by decide)]
    refine congrArg Host.Outcome.next ?_
    simp [State.updLink, State.setLinks]

end Sys2Proof.Machine


/-! The configuration requests (R59 to R61, R86, R96, R121, R127): the records they replace, the clears they hand over, and that a
source whose clear was handed over has no active entry. -/
namespace Sys2Proof.Machine

/-! ### No active entry of a source (R137) -/

/-- No entry of the source has its condition active. -/
def Zone.Inactive (src : Source) (x : Zone) : Prop := ∀ e ∈ x.entries, e.isOf src = true → e.condition = false

/-- No list holds an active entry of the source. -/
def State.Inactive (src : Source) (s : State) : Prop := ∀ z : Fin 4, s.zones[z].Inactive src

section
variable {x : Zone} {src : Source}

theorem Zone.Inactive.mapped {f : Entry → Entry} (h : ∀ e ∈ x.entries, (f e).isOf src = true → (f e).condition = false) :
    Zone.Inactive src { x with entries := x.entries.map f } := by
  simpa [Zone.Inactive] using h

theorem Zone.Inactive.without (h : x.Inactive src) (hold : Bool) (e : Entry) : (x.without hold e).Inactive src :=
  fun y mem => h y (Zone.mem_without mem)

theorem Zone.Inactive.foldl_without (h : x.Inactive src) (hold : Bool) (l : List Entry) :
    (l.foldl (fun y e => y.without hold e) x).Inactive src := by
  induction l generalizing x with
  | nil => exact h
  | cons e l ih => exact ih (h.without hold e)

theorem Entry.cleared_isOf (e : Entry) (src : Source) : e.cleared.isOf src = e.isOf src := rfl

/-- A clear leaves no active entry of its source. -/
theorem Zone.clearedOf_inactive (x : Zone) (hold : Bool) (src : Source) : (x.clearedOf hold src).Inactive src := by
  refine Zone.Inactive.foldl_without (.mapped fun e _ own => ?_) hold _
  split
  · rfl
  · next other => exact absurd (by simpa [other] using own) other

theorem Zone.Inactive.clearedOf (h : x.Inactive src) (hold : Bool) (y : Source) : (x.clearedOf hold y).Inactive src := by
  refine Zone.Inactive.foldl_without (.mapped fun e mem own => ?_) hold _
  split
  · rfl
  · next other => exact h e mem (by simpa [other] using own)

theorem Zone.Inactive.raised {r : Raise} {new spill : Entry} (h : x.Inactive src) (hold : Bool) (other : r.source ≠ src)
    (source : new.source = r.source) (kind : spill.kind = .overflow) : (x.raised hold r new spill).Inactive src := by
  have repeated (e : Entry) (he : e.isOf r.source = true) : (e.repeated r).isOf src = false := by
    have own : e.source = r.source := by simp_all [Entry.isOf]
    simp [Entry.repeated, Entry.isOf, own, other]
  have fresh : new.isOf src = false := by simp [Entry.isOf, source, other]
  have escalated : (x.escalated r new spill).Inactive src := by
    obtain ⟨e, -, took⟩ | ⟨-, -, took⟩ | ⟨-, -, e, -, took⟩ | ⟨-, -, -, took⟩ := x.takes_cases r new spill <;>
    simp only [Zone.Inactive, Zone.escalated, took]
    · simp only [List.mem_map, forall_exists_index, and_imp, forall_apply_eq_imp_iff₂]
      intro y mem
      split
      · next own => simp [repeated y own]
      · exact h y mem
    · simpa [or_imp, forall_and, fresh] using show ∀ e ∈ x.entries, _ from h
    · simp only [List.mem_map, forall_exists_index, and_imp, forall_apply_eq_imp_iff₂]
      intro y mem
      split
      · next spilled =>
        have folded : (y.folded r).isOf src = false := Entry.isOf_of_overflow (e := y.folded r) spilled src
        simp [folded]
      · exact h y mem
    · simpa [or_imp, forall_and, Entry.isOf_of_overflow kind] using show ∀ e ∈ x.entries, _ from h
  unfold Zone.raised
  dsimp only
  split
  · exact escalated.without hold _
  · exact escalated
end

section
variable {s t : State} {src : Source}

theorem State.Inactive.of_zones (h : s.Inactive src) (zones : t.zones = s.zones := by rfl) : t.Inactive src := by
  rwa [State.Inactive, zones]

theorem State.Inactive.of_updZone {z : Fin 4} {f : Zone → Zone} (h : s.Inactive src) (zones : t.zones = (s.updZone z f).zones)
    (zone : (f s.zones[z]).Inactive src) : t.Inactive src := by
  intro w
  rw [zones, State.updZone_get]
  split
  · exact zone
  · exact h w

theorem State.Inactive.clear (h : s.Inactive src) (y : Source) : (s.clear y).Inactive src := by
  have chains : Chains fun s t : State => s.Inactive src → t.Inactive src := ⟨fun _ => id, fun h k => k ∘ h⟩
  exact chains.foldl (fun s z h => h.of_updZone (s.clearIn_zones z y) ((h z).clearedOf _ y)) allZones s h

theorem State.Inactive.raise {r : Raise} (h : s.Inactive src) (other : r.source ≠ src) (own : List (Fin 4)) (d : Bool) :
    (s.raise r own d).Inactive src := by
  have chains : Chains fun s t : State => s.Inactive src → t.Inactive src := ⟨fun _ => id, fun h k => k ∘ h⟩
  exact chains.foldl (fun s z h => h.of_updZone (s.raiseIn_zones z r d) ((h z).raised _ other rfl rfl)) _ s h

/-- The clear of a source leaves no active entry of it in any list. -/
theorem State.clear_inactive (s : State) (src : Source) : (s.clear src).Inactive src := by
  have every : ∀ z : Fin 4, z ∈ allZones := by decide
  have zone (s : State) (z w : Fin 4) : (s.clearIn z src).zones[w]
      = if z = w then s.zones[z].clearedOf s.stopHold src else s.zones[w] := by
    rw [s.clearIn_zones z src, State.updZone_get]
  obtain ⟨-, inactive⟩ := foldl_establishes (f := fun s z => s.clearIn z src) (I := fun _ => True)
    (D := fun z s => s.zones[z].Inactive src) (fun _ _ _ => trivial)
    (fun s z _ => by rw [zone, if_pos rfl]; exact Zone.clearedOf_inactive _ _ _)
    (fun s z w _ h => by
      rw [zone]
      split
      · exact Zone.clearedOf_inactive _ _ _
      · exact h) allZones (s := s) trivial
  exact fun z => inactive z (.inl (every z))

/-- What is cleared where a condition was active has no active entry then. -/
theorem State.Inactive.of_ite {b : Bool} (active : b = true) {src : Source} : (if b then s.clear src else s).Inactive src := by
  rw [if_pos active]
  exact s.clear_inactive src

theorem State.Inactive.ite_clear {b : Bool} (h : s.Inactive src) (y : Source) : (if b then s.clear y else s).Inactive src := by
  split
  · exact h.clear y
  · exact h
end

/-! ### Answers by their length -/

theorem answerBytes_ok_of_length {body : List Byte} {n : Nat} (h : body.length = n) (short : n < 256) :
    answerBytes .ok body = [0x00#8, 0#8, BitVec.ofNat 8 n] ++ body := by
  have high : (BitVec.ofNat 16 n).extractLsb' 8 8 = 0#8 := by
    refine BitVec.eq_of_toNat_eq ?_
    simp only [BitVec.extractLsb'_toNat, BitVec.toNat_ofNat, Nat.shiftRight_eq_div_pow]
    omega
  have low : (BitVec.ofNat 16 n).extractLsb' 0 8 = BitVec.ofNat 8 n := by
    refine BitVec.eq_of_toNat_eq ?_
    simp only [BitVec.extractLsb'_toNat, BitVec.toNat_ofNat, Nat.shiftRight_eq_div_pow]
    omega
  rw [answerBytes, h, bytes2, high, low]
  rfl

/-! ### SET_CHANNEL (R59 to R61) -/

theorem exec_setChannel_of_range {a : ChannelArgs} (h : channelOf? a = none) (s : State) :
    exec (.setChannel .director a) s = .next (s.answer .director 0x20#8 25#16 .range []) :=
  congrArg Host.Outcome.next (State.serve_refused (r := .setChannel) (n := 25) rfl (by rw [h]))

section
variable {a : ChannelArgs} {c : Fin 8} {x : Channel} {s : State} (fields : channelOf? a = some (c, x))
include fields

theorem exec_setChannel_of_conflict (h : x.conflicting = true) :
    exec (.setChannel .director a) s = .next (s.answer .director 0x20#8 25#16 .conflict []) :=
  congrArg Host.Outcome.next (State.serve_refused (r := .setChannel) (n := 25) rfl (by rw [fields]; exact if_pos h))

theorem exec_setChannel_of_refused (h : x.conflicting = false) (refused : s.moveRefused c x.zone = true) :
    exec (.setChannel .director a) s = .next (s.answer .director 0x20#8 25#16 .state []) :=
  congrArg Host.Outcome.next (State.serve_refused (r := .setChannel) (n := 25) rfl (by
    rw [fields]
    exact (if_neg (by simp [h])).trans (if_pos refused)))

theorem exec_setChannel_of_standing (h : x.conflicting = false) (stands : s.moveRefused c x.zone = false) :
    exec (.setChannel .director a) s =
      .next ((s.replaceChannel c x).answer .director 0x20#8 25#16 .ok
        ((s.replaceChannel c x).channels[c].bytes c ++ opt2 ((s.replaceChannel c x).setpoint? c)
          ++ bytes2 (s.replaceChannel c x).outputs[c].held)) :=
  congrArg Host.Outcome.next (State.serve_ok (r := .setChannel) (n := 25) rfl (by
    rw [fields]
    exact (if_neg (by simp [h])).trans (if_neg (by simp [stands]))))
end

theorem Channel.conflicting_eq_false_iff (x : Channel) :
    x.conflicting = false ↔ x.fmin.toInt ≤ x.ul.toInt ∧ x.ul.toInt ≤ x.fmax.toInt ∧ x.smin.toInt ≤ x.smax.toInt
      ∧ (x.method = .boundary → x.trackingAction = .report ∧ x.overforceAction = .report ∧ x.strokeAction = .report) := by
  simp only [Channel.conflicting, Bool.or_eq_false_iff, Bool.and_eq_false_imp, decide_eq_false_iff_not, Int.not_lt, beq_iff_eq,
    bne_eq_false_iff_eq]
  constructor
  · rintro ⟨⟨⟨⟨-, low⟩, high⟩, stroke⟩, reports⟩
    exact ⟨low, high, stroke, fun h => and_assoc.mp (reports h)⟩
  · rintro ⟨low, high, stroke, reports⟩
    exact ⟨⟨⟨⟨Int.le_trans low high, low⟩, high⟩, stroke⟩, fun h => and_assoc.mpr (reports h)⟩

theorem State.moveRefused_eq_false_iff (s : State) (c : Fin 8) (z : Fin 4) :
    s.moveRefused c z = false ↔ s.channels[c].zone = z ∨ (s.gen.executing = false
      ∧ ((s.zones[s.channels[c].zone].state = .normal ∧ s.zones[z].state = .normal)
        ∨ (s.zones[s.channels[c].zone].state = .dumped ∧ s.zones[z].state = .dumped))) := by
  simp only [State.moveRefused, State.channelZone, Bool.and_eq_false_iff, bne_eq_false_iff_eq, Bool.or_eq_false_iff,
    Bool.not_eq_false', Bool.or_eq_true, Bool.and_eq_true, beq_iff_eq]

theorem limit_toInt {x lo hi : Half} (h : lo.toInt ≤ hi.toInt) : (limit x lo hi).toInt = max lo.toInt (min x.toInt hi.toInt) := by
  unfold limit
  split
  · omega
  · split <;> omega

/-- What SET_CHANNEL leaves of the channel it names and of the others (R61). -/
theorem State.replaceChannel_self (s : State) (c : Fin 8) (x : Channel) :
    (s.replaceChannel c x).channels[c] = x
      ∧ (s.replaceChannel c x).outputs[c] = { s.outputs[c] with
          setpoint := if s.zones[x.zone].state = .dumped then x.ul else limit s.outputs[c].setpoint x.fmin x.fmax
          held := limit s.outputs[c].held x.fmin x.fmax }
      ∧ (s.replaceChannel c x).supervision[c] = { s.supervision[c] with misses := 0 } := by
  simp [State.replaceChannel, State.updSupervision]

theorem State.replaceChannel_other (s : State) {c d : Fin 8} (x : Channel) (h : d ≠ c) :
    (s.replaceChannel c x).channels[d] = s.channels[d] ∧ (s.replaceChannel c x).outputs[d] = s.outputs[d]
      ∧ (s.replaceChannel c x).supervision[d] = s.supervision[d] := by
  have apart : c.val ≠ d.val := fun same => h (Fin.ext same).symm
  simp [State.replaceChannel, State.updSupervision, apart]

theorem Channel.length_bytes (c : Fin 8) (x : Channel) : (x.bytes c).length = 25 := rfl

/-- The record SET_CHANNEL stores is in no conflict when its fields agree, each action and the method read by its code. -/
theorem channelOf?_conflicting {a : ChannelArgs} {c : Fin 8} {x : Channel} (fields : channelOf? a = some (c, x)) :
    x.conflicting = false ↔ a.fmin.toInt ≤ a.ul.toInt ∧ a.ul.toInt ≤ a.fmax.toInt ∧ a.smin.toInt ≤ a.smax.toInt
      ∧ (a.method = 3#8 → a.trackingAction = 0#8 ∧ a.overforceAction = 0#8 ∧ a.strokeAction = 0#8) := by
  obtain ⟨-, ⟨tracking, overforce, stroke, method⟩, -, fmin, fmax, ul, smin, smax⟩ := channelOf?_eq_some_iff.mp fields
  rw [x.conflicting_eq_false_iff, fmin, fmax, ul, smin, smax, ← action?_eq_some_iff.mp tracking,
    ← action?_eq_some_iff.mp overforce, ← action?_eq_some_iff.mp stroke, ← method?_eq_some_iff.mp method]
  have report (v : Action) : v.code = 0#8 ↔ v = .report := by cases v <;> decide
  have boundary (v : Method) : v.code = 3#8 ↔ v = .boundary := by cases v <;> decide
  simp only [report, boundary]

/-- Settles O33, by the range of the fields, their conflicts and the zones. -/
theorem setChannelReplacesTheRecord : Obligations.SetChannelReplacesTheRecord := by
  refine ⟨fun a s out => exec_setChannel_of_range (channelOf?_eq_none out) s, ?_⟩
  intro a c z s channel zone rmax tol k fabs tracking overforce stroke method low high
  obtain ⟨ta, hta⟩ := exists_action? tracking
  obtain ⟨oa, hoa⟩ := exists_action? overforce
  obtain ⟨sa, hsa⟩ := exists_action? stroke
  obtain ⟨me, hme⟩ := exists_method? method
  let x : Channel :=
    { fmin := a.fmin, fmax := a.fmax, rmax := a.rmax, ul := a.ul, tol := a.tol, k := max 1 a.k.toNat, fabs := a.fabs, smin := a.smin
      smax := a.smax, trackingAction := ta, overforceAction := oa, strokeAction := sa, method := me, seconds := a.seconds, zone := z }
  have fields : channelOf? a = some (c, x) :=
    channelOf?_eq_some_iff.mpr ⟨⟨index?_of_toNat_eq channel, natural?_eq_some_iff.mpr ⟨rmax, rfl⟩,
      positive?_eq_some_iff.mpr ⟨tol, rfl⟩, count15?_eq_some_iff.mpr ⟨k, rfl⟩, natural?_eq_some_iff.mpr ⟨fabs, rfl⟩⟩,
      ⟨hta, hoa, hsa, hme⟩, ⟨seconds?_of_within low high, index?_of_toNat_eq zone⟩, rfl, rfl, rfl, rfl, rfl⟩
  have conflicts := channelOf?_conflicting fields
  have stands := s.moveRefused_eq_false_iff c z
  refine ⟨fun disagrees => ?conflict, fun agrees moves => ?state, fun agrees stays => ?taken⟩
  case conflict => exact exec_setChannel_of_conflict fields (Bool.of_not_eq_false (mt conflicts.mp disagrees))
  case state =>
    exact exec_setChannel_of_refused fields (conflicts.mpr agrees) (Bool.of_not_eq_false (mt stands.mp moves))
  case taken =>
    obtain ⟨record, output, supervised⟩ := s.replaceChannel_self c x
    have window : a.fmin.toInt ≤ a.fmax.toInt := Int.le_trans agrees.1 agrees.2.1
    refine ⟨_, exec_setChannel_of_standing fields (conflicts.mpr agrees) (stands.mpr stays), ?record, fun dumped => ?dumped,
      fun other => ?limited, ?held, ?flags, supervised, fun d h => s.replaceChannel_other x h, ?answer,
      fun q => State.answer_eventStatus _ _ _ _ _ _ _, rfl⟩
    case record =>
      rw [State.answer_channels, record]
      exact ⟨rfl, rfl, rfl, rfl, rfl, rfl, rfl, rfl, rfl, action?_eq_some_iff.mp hta, action?_eq_some_iff.mp hoa,
        action?_eq_some_iff.mp hsa, method?_eq_some_iff.mp hme, rfl, rfl⟩
    case dumped => rw [State.answer_outputs, output]; exact if_pos dumped
    case limited =>
      rw [State.answer_outputs, output]
      exact (congrArg BitVec.toInt (if_neg other)).trans (limit_toInt window)
    case held => rw [State.answer_outputs, output]; exact limit_toInt window
    case flags => rw [State.answer_outputs, output]; rfl
    case answer =>
      rw [State.answer_answerOf, answerBytes_ok_of_length (n := 30) (by simp [Channel.length_bytes, bytes2]) (by decide)]
      rfl

end Sys2Proof.Machine


/-! The requests of the crack watch and SET_GAUGE (R96, R120, R121): the record each replaces and the clears it hands over. -/
namespace Sys2Proof.Machine

/-! ### CLEAR_CRACK_LATCH (R120) -/

theorem exec_clearCrackLatch (inputs : Half) (s : State) :
    exec (.clearCrackLatch .director inputs) s =
      .next ((s.clearLatches inputs).answer .director 0x49#8 2#16 .ok (bytes2 (s.clearLatches inputs).latchSet)) :=
  congrArg Host.Outcome.next (State.serve_ok (r := .clearCrackLatch) (n := 2) rfl rfl)

theorem State.clearLatches_cracks (s : State) (inputs : Half) (i : Fin 16) :
    (s.clearLatches inputs).cracks[i] = { s.cracks[i] with detected := s.cracks[i].detected && !inputs.getLsbD i.val } := by
  have stored : (s.clearLatches inputs).cracks[i] =
      if inputs.getLsbD i.val then { s.cracks[i] with detected := false } else s.cracks[i] := Vector.getElem_ofFn _
  rw [stored]
  cases inputs.getLsbD i.val <;> simp

theorem getLsbD_one_shiftLeft : ∀ i k : Fin 16, (1#16 <<< i.val).getLsbD k.val = decide (k = i) := by
  decide

/-- The bits that a fold of single bits sets are those of the listed places. -/
theorem getLsbD_foldr_bits {p : Fin 16 → Bool} (l : List (Fin 16)) (k : Fin 16) :
    (l.foldr (fun i acc => acc ||| (if p i then 1#16 <<< i.val else 0#16)) 0#16).getLsbD k.val = (decide (k ∈ l) && p k) := by
  induction l with
  | nil => simp
  | cons i l ih =>
    have bit : ((if p i then 1#16 <<< i.val else 0#16) : Half).getLsbD k.val = (decide (k = i) && p i) := by
      cases p i
      · simp
      · simpa using getLsbD_one_shiftLeft i k
    rw [List.foldr_cons, BitVec.getLsbD_or, ih, bit]
    by_cases same : k = i
    · subst same
      simp
    · simp [same]

theorem State.latchSet_getLsbD (s : State) (i : Fin 16) : s.latchSet.getLsbD i.val = s.cracks[i].detected := by
  rw [State.latchSet, getLsbD_foldr_bits]
  simp

theorem State.clearLatches_eq (s : State) (inputs : Half) :
    s.clearLatches inputs = s.setCracks (s.clearLatches inputs).cracks := by
  unfold State.clearLatches
  rfl

theorem State.setCracks_answer_rest (s : State) (x : Vector Crack 16) (p : PortId) (code : Byte) (length : Half) (res : Result)
    (body : List Byte) :
    { (s.setCracks x).answer p code length res body with cracks := s.cracks, ports := s.ports } = s := rfl

/-! ### SET_CRACK (R121) -/

theorem exec_setCrack_of_range {a : CrackArgs} (h : crackOf? a = none) (s : State) :
    exec (.setCrack .director a) s = .next (s.answer .director 0x48#8 9#16 .range []) :=
  congrArg Host.Outcome.next (State.serve_refused (r := .setCrack) (n := 9) rfl (by rw [h]))

section
variable {a : CrackArgs} {i : Fin 16} {x : CrackConfig} {s : State} (fields : crackOf? a = some (i, x))
include fields

theorem exec_setCrack_of_conflict (h : x.conflicting = true) :
    exec (.setCrack .director a) s = .next (s.answer .director 0x48#8 9#16 .conflict []) :=
  congrArg Host.Outcome.next (State.serve_refused (r := .setCrack) (n := 9) rfl (by rw [fields]; exact if_pos h))

theorem exec_setCrack (h : x.conflicting = false) :
    exec (.setCrack .director a) s =
      .next ((s.replaceCrack i x).answer .director 0x48#8 9#16 .ok ((s.replaceCrack i x).cracks[i].bytes i)) :=
  congrArg Host.Outcome.next (State.serve_ok (r := .setCrack) (n := 9) rfl (by rw [fields]; exact if_neg (by simp [h])))

/-- The configuration SET_CRACK stores is in no conflict by the codes of its sense, method and action. -/
theorem crackOf?_conflicting :
    x.conflicting = true ↔ (2 ≤ a.sense.toNat ∧ (a.method = 1#8 ∨ a.method = 3#8)) ∨ (a.method = 3#8 ∧ a.action ≠ 0#8) := by
  obtain ⟨⟨-, -, sense, -⟩, action, method, -⟩ := crackOf?_eq_some_iff.mp fields
  have momentary (v : Sense) : 2 ≤ v.code.toNat ↔ v.lasting = false := by cases v <;> decide
  have auto (v : Method) : v.code = 1#8 ↔ v = .auto := by cases v <;> decide
  have boundary (v : Method) : v.code = 3#8 ↔ v = .boundary := by cases v <;> decide
  have report (v : Action) : v.code = 0#8 ↔ v = .report := by cases v <;> decide
  rw [← sense?_eq_some_iff.mp sense, ← action?_eq_some_iff.mp action, ← method?_eq_some_iff.mp method, momentary, auto, boundary,
    ne_eq, report]
  simp only [CrackConfig.conflicting, Bool.or_eq_true, Bool.and_eq_true, beq_iff_eq, Bool.not_eq_true', bne_iff_ne, ne_eq]
  exact or_congr_left and_comm
end

/-- The record SET_CRACK leaves: a change of the sense or of n restarts the input (R121). -/
def Crack.replaced (c : Crack) (x : CrackConfig) : Crack :=
  if c.config.sense = x.sense ∧ c.config.n = x.n then { c with config := x }
  else { c with config := x, qualifier := Qualifier.fresh, condition := false }

/-- SET_CRACK hands over the clear of a condition that was active at a restart, and nothing else. -/
theorem State.replaceCrack_eq (s : State) (i : Fin 16) (x : CrackConfig) :
    s.replaceCrack i x =
      if ¬ (x.sense = s.cracks[i].config.sense ∧ x.n = s.cracks[i].config.n) ∧ s.cracks[i].condition = true then
        (s.updCrack i fun c => c.replaced x).clear (.crack i)
      else s.updCrack i fun c => c.replaced x := by
  simp only [eq_comm (a := x.sense), eq_comm (a := x.n)]
  unfold State.replaceCrack State.updCrack
  by_cases same : s.cracks[i].config.sense = x.sense ∧ s.cracks[i].config.n = x.n
  · have replaced : s.cracks[i].replaced x = { s.cracks[i] with config := x } := if_pos same
    simp only [if_pos same, replaced, if_neg (not_and.mpr fun h => absurd same h)]
  · have replaced : s.cracks[i].replaced x = { s.cracks[i] with config := x, qualifier := Qualifier.fresh, condition := false } :=
      if_neg same
    simp only [replaced, not_false_eq_true, same, true_and, if_false]

theorem State.replaceCrack_cracks (s : State) (i : Fin 16) (x : CrackConfig) :
    (s.replaceCrack i x).cracks = s.cracks.set i (s.cracks[i].replaced x) := by
  rw [State.replaceCrack_eq]
  split
  · rw [State.clear_cracks]
    rfl
  · rfl

/-- Settles O48, by the range and conflicts of the fields, and whether the sense and n stay. -/
theorem crackRequests : Obligations.CrackRequests := by
  intro s
  refine ⟨fun inputs => ?latches, fun a out => exec_setCrack_of_range (crackOf?_eq_none out) s, ?set⟩
  case latches =>
    refine ⟨_, exec_clearCrackLatch inputs s, s.clearLatches_cracks inputs,
      ⟨_, ?bytes, (s.clearLatches inputs).latchSet_getLsbD⟩, fun q => ?status, ?rest⟩
    case bytes => rw [State.answer_answerOf, answerBytes_ok_of_length (n := 2) (by simp [bytes2]) (by decide)]
    case status => rw [State.answer_eventStatus, State.clearLatches_eq]; rfl
    case rest => rw [State.clearLatches_eq]; exact s.setCracks_answer_rest _ _ _ _ _ _
  case set =>
    intro a i z input zone enable sense n action method low high
    obtain ⟨se, hse⟩ := exists_sense? sense
    obtain ⟨ac, hac⟩ := exists_action? action
    obtain ⟨me, hme⟩ := exists_method? method
    let x : CrackConfig :=
      { enable := decide (a.enable = 1#8), sense := se, n := max 1 a.n.toNat, zone := z, action := ac, method := me
        seconds := a.seconds }
    have fields : crackOf? a = some (i, x) :=
      crackOf?_eq_some_iff.mpr ⟨⟨index?_of_toNat_eq input, flag?_of_le enable, hse, count15?_eq_some_iff.mpr ⟨n, rfl⟩,
        index?_of_toNat_eq zone⟩, hac, hme, seconds?_of_within low high⟩
    refine ⟨fun conflicts => exec_setCrack_of_conflict fields ((crackOf?_conflicting fields).mpr conflicts), fun agrees => ?_⟩
    have record : (s.replaceCrack i x).cracks[i] = s.cracks[i].replaced x := by rw [s.replaceCrack_cracks]; simp
    have config : (s.cracks[i].replaced x).config = x := by unfold Crack.replaced; split <;> rfl
    refine ⟨_, exec_setCrack fields (Bool.eq_false_iff.mpr (mt (crackOf?_conflicting fields).mp agrees)), ?answer, ?record,
      fun j other => ?others⟩
    case answer => rw [State.answer_answerOf, answerBytes_ok_of_length (n := 13) rfl (by decide)]; rfl
    case others =>
      have apart : i.val ≠ j.val := fun same => other (Fin.ext same).symm
      rw [State.answer_cracks, s.replaceCrack_cracks]
      simp [apart]
    case record =>
      dsimp only
      rw [State.answer_cracks, record, config]
      refine ⟨rfl, sense?_eq_some_iff.mp hse, rfl, rfl, action?_eq_some_iff.mp hac, method?_eq_some_iff.mp hme, rfl, ?detected,
        fun stays => ?stays, fun restarts => ⟨?qualifier, ?condition, fun active => ?inactive⟩, ?whole⟩
      case detected => unfold Crack.replaced; split <;> rfl
      case stays => rw [Crack.replaced, if_pos ⟨stays.1.symm, stays.2.symm⟩]; exact ⟨rfl, rfl⟩
      case qualifier => rw [Crack.replaced, if_neg fun h => restarts ⟨h.1.symm, h.2.symm⟩]; rfl
      case condition => rw [Crack.replaced, if_neg fun h => restarts ⟨h.1.symm, h.2.symm⟩]
      case inactive =>
        rw [State.answer_zones, State.replaceCrack_eq, if_pos ⟨restarts, active⟩]
        exact State.clear_inactive _ _
      case whole =>
        rw [s.replaceCrack_cracks, s.replaceCrack_eq]
        rfl

/-! ### SET_GAUGE (R96) -/

theorem exec_setGauge_of_range {a : GaugeArgs} (h : gaugeOf? a = none) (s : State) :
    exec (.setGauge .director a) s = .next (s.answer .director 0x40#8 24#16 .range []) :=
  congrArg Host.Outcome.next (State.serve_refused (r := .setGauge) (n := 24) rfl (by rw [h]))

section
variable {a : GaugeArgs} {g : Fin 64} {x : GaugeConfig} {s : State} (fields : gaugeOf? a = some (g, x))
include fields

theorem exec_setGauge_of_conflict (h : x.conflicting = true) :
    exec (.setGauge .director a) s = .next (s.answer .director 0x40#8 24#16 .conflict []) :=
  congrArg Host.Outcome.next (State.serve_refused (r := .setGauge) (n := 24) rfl (by rw [fields]; exact if_pos h))

theorem exec_setGauge (h : x.conflicting = false) :
    exec (.setGauge .director a) s =
      .next ((s.replaceGauge g x).answer .director 0x40#8 24#16 .ok (x.bytes g)) :=
  congrArg Host.Outcome.next (State.serve_ok (r := .setGauge) (n := 24) rfl (by rw [fields]; exact if_neg (by simp [h])))

/-- The configuration SET_GAUGE stores is in no conflict when its limits are in order and its actions fit its method. -/
theorem gaugeOf?_conflicting :
    x.conflicting = false ↔ a.lo.toInt ≤ a.hi.toInt
      ∧ (a.method = 3#8 → a.windowAction = 0#8 ∧ a.faultAction = 0#8 ∧ a.driftAction = 0#8)
      ∧ (a.method = 1#8 → a.driftAction = 0#8) := by
  obtain ⟨⟨-, -, lo, hi, -⟩, -, -, ⟨window, fault, drift, method⟩, -⟩ := gaugeOf?_eq_some_iff.mp fields
  have auto (v : Method) : v.code = 1#8 ↔ v = .auto := by cases v <;> decide
  have boundary (v : Method) : v.code = 3#8 ↔ v = .boundary := by cases v <;> decide
  have report (v : Action) : v.code = 0#8 ↔ v = .report := by cases v <;> decide
  rw [← (strain?_eq_some_iff.mp lo).2, ← (strain?_eq_some_iff.mp hi).2, ← action?_eq_some_iff.mp window,
    ← action?_eq_some_iff.mp fault, ← action?_eq_some_iff.mp drift, ← method?_eq_some_iff.mp method]
  simp only [auto, boundary, report, GaugeConfig.conflicting, Bool.or_eq_false_iff, Bool.and_eq_false_imp,
    decide_eq_false_iff_not, Int.not_lt, beq_iff_eq, bne_eq_false_iff_eq, and_assoc]
end

theorem State.replaceGauge_gauges (s : State) (g : Fin 64) (x : GaugeConfig) :
    (s.replaceGauge g x).gauges = s.gauges.set g { config := x, run := GaugeRun.started x } := by
  unfold State.replaceGauge
  dsimp only
  split <;> split <;> simp

/-- SET_GAUGE leaves no active entry of a condition that was active. -/
theorem State.replaceGauge_inactive (s : State) (g : Fin 64) (x : GaugeConfig) :
    (s.gauges[g].run.window = true → (s.replaceGauge g x).Inactive (.gaugeWindow g))
      ∧ (s.gauges[g].run.fault ≠ none → (s.replaceGauge g x).Inactive (.gaugeFault g)) := by
  unfold State.replaceGauge
  dsimp only
  exact ⟨fun active => (State.Inactive.of_ite active).ite_clear _,
    fun active => .of_ite (Option.isSome_iff_ne_none.mpr active)⟩

/-- Settles O46, by the range and conflicts of the fields. -/
theorem setGaugeStartsAfresh : Obligations.SetGaugeStartsAfresh := by
  refine ⟨fun a s out => exec_setGauge_of_range (gaugeOf?_eq_none out) s, ?_⟩
  intro a g z s gauge zone enabled lo hi n m stale drift window fault driftAction method low high
  obtain ⟨wa, hwa⟩ := exists_action? window
  obtain ⟨fa, hfa⟩ := exists_action? fault
  obtain ⟨da, hda⟩ := exists_action? driftAction
  obtain ⟨me, hme⟩ := exists_method? method
  let x : GaugeConfig :=
    { enabled := decide (a.enabled = 1#8), zero := a.zero, scale := a.scale, lo := a.lo, hi := a.hi, n := max 1 a.n.toNat
      staleTime := a.staleTime, driftLimit := a.driftLimit, m := max 1 a.m.toNat, zone := z, windowAction := wa, faultAction := fa
      driftAction := da, method := me, seconds := a.seconds }
  have fields : gaugeOf? a = some (g, x) :=
    gaugeOf?_eq_some_iff.mpr ⟨⟨index?_of_toNat_eq gauge, flag?_of_le enabled, strain?_eq_some_iff.mpr ⟨lo, rfl⟩,
      strain?_eq_some_iff.mpr ⟨hi, rfl⟩, count15?_eq_some_iff.mpr ⟨n, rfl⟩, count15?_eq_some_iff.mpr ⟨m, rfl⟩⟩, stale,
      ⟨natural?_eq_some_iff.mpr ⟨drift, rfl⟩, index?_of_toNat_eq zone, seconds?_of_within low high⟩, ⟨hwa, hfa, hda, hme⟩, rfl, rfl,
      rfl⟩
  have conflicts := gaugeOf?_conflicting fields
  refine ⟨fun disagrees => exec_setGauge_of_conflict fields (Bool.of_not_eq_false (mt conflicts.mp disagrees)),
    fun agrees => ?_⟩
  have record : (s.replaceGauge g x).gauges[g] = { config := x, run := GaugeRun.started x } := by
    rw [s.replaceGauge_gauges]
    simp
  refine ⟨_, exec_setGauge fields (conflicts.mpr agrees), ?answer, ?config, ?run, fun g' other => ?others, ?inactive, ?whole⟩
  case answer =>
    rw [State.answer_answerOf, answerBytes_ok_of_length (n := 24) rfl (by decide), State.answer_gauges, record]
  case config =>
    rw [State.answer_gauges, record]
    exact ⟨rfl, rfl, rfl, rfl, rfl, rfl, rfl, rfl, rfl, rfl, action?_eq_some_iff.mp hwa, action?_eq_some_iff.mp hfa,
      action?_eq_some_iff.mp hda, method?_eq_some_iff.mp hme, rfl⟩
  case run =>
    rw [State.answer_gauges, record]
    by_cases runs : a.enabled = 1#8 ∧ a.staleTime ≠ 0#16
    · simp [GaugeRun.started, GaugeRun.fresh, x, runs]
    · simp [GaugeRun.started, GaugeRun.fresh, x, runs]
  case others =>
    have apart : g.val ≠ g'.val := fun same => other (Fin.ext same).symm
    rw [State.answer_gauges, s.replaceGauge_gauges]
    simp [apart]
  case inactive =>
    obtain ⟨windows, faults⟩ := s.replaceGauge_inactive g x
    rw [State.answer_zones]
    rintro w e mem (⟨active, own⟩ | ⟨active, own⟩)
    · exact windows active w e mem own
    · exact faults active w e mem own
  case whole =>
    rw [State.answer_gauges, record, s.replaceGauge_gauges]
    rfl

end Sys2Proof.Machine


/-! The requests of the zones (R127, R140, R142, R144, R146): the pause they bring, the records they make, and RELEASE. -/
namespace Sys2Proof.Machine

/-! ### Acting on the pause inputs (R21, R146) -/

section
variable {s : State} {i : Fin 64}

theorem State.syncPause_of_pausing (running : s.gen.state = .running) (input : s.pauseDemand = true ∨ s.gen.requestedPause = true)
    (current : s.gen.current = some i) : s.syncPause = (s.setGen { s.gen with state := .paused }).programRecord i .pause := by
  unfold State.syncPause
  rw [running]
  dsimp only
  rw [if_pos (by simpa using input), State.moveGenerator_of_current current]

theorem State.syncPause_of_resuming (paused : s.gen.state = .paused) (none : ¬ (s.pauseDemand = true ∨ s.gen.requestedPause = true))
    (current : s.gen.current = some i) : s.syncPause = (s.setGen { s.gen with state := .running }).programRecord i .resume := by
  unfold State.syncPause
  rw [paused]
  dsimp only
  rw [if_neg (by simpa using none), State.moveGenerator_of_current current]

theorem State.syncPause_of_still (notPausing : ¬ (s.gen.state = .running ∧ (s.pauseDemand = true ∨ s.gen.requestedPause = true)))
    (notResuming : ¬ (s.gen.state = .paused ∧ ¬ (s.pauseDemand = true ∨ s.gen.requestedPause = true))) : s.syncPause = s := by
  unfold State.syncPause
  cases state : s.gen.state
  · rfl
  · dsimp only
    exact if_neg (by simpa [state] using notPausing)
  · dsimp only
    exact if_pos (Classical.byContradiction fun none => notResuming ⟨state, by simpa using none⟩)
  · rfl
end

/-- The pause and the resume move the generator, the queue and the ports only. -/
theorem rest_steers : Steers fun s t => { t with gen := s.gen, queue := s.queue, ports := s.ports } = s where
  refl _ := rfl
  trans h k := by
    rw [← k] at h
    exact h
  setGen _ _ := rfl
  addEvent _ _ := rfl
  record _ _ := rfl

section
variable {g : Generator}

/-- A generator lawful against the pause demand stays as it is. -/
theorem Generator.synced_of_paced {demand : Bool} (h : g.Paced demand) : g.synced demand = g := by
  unfold Generator.synced
  split
  · next running input => simp [h.running running] at input
  · next paused none =>
    have input := h.paused paused
    simp_all
  all_goals rfl

theorem Generator.synced_rest (g : Generator) (demand : Bool) :
    { g.synced demand with state := g.state, lastReason := g.lastReason } = g := by
  unfold Generator.synced
  split <;> rfl
end

/-- The pause and the resume that a change of the pause demand brings, of a part whose generator then acts on it: s before the change,
u after it, and t the generator record that is left. -/
theorem Generator.synced_pauses {s u : State} {t : Generator} (acted : t = s.gen.synced u.pauseDemand) :
    (u.pauseDemand = true → s.pauseDemand = false → s.gen.state = .running → t.state = .paused)
      ∧ (u.pauseDemand = false → s.pauseDemand = true → s.gen.state = .paused → s.gen.requestedPause = false → t.state = .running)
      ∧ (u.pauseDemand = s.pauseDemand → s.GeneratorLawful → t = s.gen)
      ∧ { t with state := s.gen.state, lastReason := s.gen.lastReason } = s.gen := by
  subst acted
  refine ⟨fun demand _ running => ?_, fun none _ paused free => ?_, fun same lawful => ?_, s.gen.synced_rest _⟩
  · simp [Generator.synced, running, demand]
  · simp [Generator.synced, paused, none, free]
  · rw [same]
    exact Generator.synced_of_paced ((s.generatorLawful_iff.mp lawful).2)

/-! ### SET_ZONE (R127) -/

theorem exec_setZone_of_range {b isolate : Byte} {u r : Half}
    (out : index? 4 b = none ∨ flag? isolate = none ∨ rate? u = none ∨ rate? r = none) (s : State) :
    exec (.setZone .director b isolate u r) s = .next (s.answer .director 0x50#8 6#16 .range []) := by
  refine congrArg Host.Outcome.next (State.serve_refused (r := .setZone) (n := 6) rfl ?_)
  split
  · next zone flag unload reload => simp_all
  · rfl

theorem exec_setZone {b isolate : Byte} {u r : Half} {z : Fin 4} {i : Bool} (zone : index? 4 b = some z)
    (flag : flag? isolate = some i) (unload : rate? u = some u) (reload : rate? r = some r) (s : State) :
    exec (.setZone .director b isolate u r) s =
      .next ((s.replaceZone z i u r).answer .director 0x50#8 6#16 .ok
        ([b, isolate] ++ bytes2 u ++ bytes2 r ++ [(s.replaceZone z i u r).zones[z].state.code])) :=
  congrArg Host.Outcome.next (State.serve_ok (r := .setZone) (n := 6) rfl (by simp only [zone, flag, unload, reload]))

/-- A zone record with the fields SET_ZONE writes. -/
def Zone.configured (x : Zone) (isolate : Bool) (u r : Half) : Zone :=
  { x with isolate := isolate, unloadRate := u, reloadRate := r }

theorem State.replaceZone_eq (s : State) (z : Fin 4) (i : Bool) (u r : Half) :
    s.replaceZone z i u r =
      let set := s.updZone z fun x => x.configured i u r
      if set.pauseDemand = s.pauseDemand then set else set.syncPause := rfl

theorem State.replaceZone_zones (s : State) (z : Fin 4) (i : Bool) (u r : Half) :
    (s.replaceZone z i u r).zones = s.zones.set z (s.zones[z].configured i u r) := by
  rw [State.replaceZone_eq]
  dsimp only
  split
  · rfl
  · exact State.syncPause_zones _

theorem State.replaceZone_pauses (s : State) (z : Fin 4) (i : Bool) (u r : Half) :
    let t := s.replaceZone z i u r
    (t.pauseDemand = true → s.pauseDemand = false → s.gen.state = .running → t.gen.state = .paused)
      ∧ (t.pauseDemand = false → s.pauseDemand = true → s.gen.state = .paused → s.gen.requestedPause = false →
          t.gen.state = .running)
      ∧ (t.pauseDemand = s.pauseDemand → s.GeneratorLawful → t.gen = s.gen)
      ∧ { t.gen with state := s.gen.state, lastReason := s.gen.lastReason } = s.gen := by
  intro t
  let set := s.updZone z fun x => x.configured i u r
  have demand : t.pauseDemand = set.pauseDemand := State.pauseDemand_congr (s.replaceZone_zones z i u r)
  rw [demand]
  have eq : t = if set.pauseDemand = s.pauseDemand then set else set.syncPause := rfl
  by_cases same : set.pauseDemand = s.pauseDemand
  · rw [if_pos same] at eq
    have gen : t.gen = s.gen := by rw [eq]; rfl
    rw [gen]
    exact ⟨fun appears none _ => by simp_all, fun none appeared _ _ => by simp_all, fun _ _ => rfl, rfl⟩
  · rw [if_neg same] at eq
    have gen : t.gen = s.gen.synced set.pauseDemand := by rw [eq, State.syncPause_gen]; rfl
    exact Generator.synced_pauses gen

/-! ### RELOAD_ZONE (R144) -/

theorem exec_reloadZone_of_range {b : Byte} (h : index? 4 b = none) (s : State) :
    exec (.reloadZone .director b) s = .next (s.answer .director 0x52#8 1#16 .range []) :=
  congrArg Host.Outcome.next (State.serve_refused (r := .reloadZone) (n := 1) rfl (by rw [h]))

section
variable {b : Byte} {z : Fin 4} {s : State} (zone : index? 4 b = some z)
include zone

theorem exec_reloadZone_of_refused (h : s.zones[z].state ≠ .unloaded ∨ s.zones[z].hasProtective = true) :
    exec (.reloadZone .director b) s = .next (s.answer .director 0x52#8 1#16 .state []) :=
  congrArg Host.Outcome.next (State.serve_refused (r := .reloadZone) (n := 1) rfl (by rw [zone]; exact if_pos h))

theorem exec_reloadZone (h : ¬ (s.zones[z].state ≠ .unloaded ∨ s.zones[z].hasProtective = true)) :
    exec (.reloadZone .director b) s =
      .next ((s.changeZone z .reloading false).answer .director 0x52#8 1#16 .ok
        [(s.changeZone z .reloading false).zones[z].state.code]) :=
  congrArg Host.Outcome.next (State.serve_ok (r := .reloadZone) (n := 1) rfl (by rw [zone]; exact if_neg h))
end

theorem Zone.hasProtective_iff (x : Zone) : x.hasProtective = true ↔ ∃ e ∈ x.entries, 1 ≤ e.action.severity := by
  simp [Zone.hasProtective, Entry.protective, Nat.one_le_iff_ne_zero, Nat.pos_iff_ne_zero]

/-- A change of a zone's state to another: the state, the record, the event and then the pause inputs (R141, R146). -/
theorem State.changeZone_of_other {s : State} {z : Fin 4} {st : ZoneState} (h : s.zones[z].state ≠ st) :
    s.changeZone z st false = (((s.enterZone z st).record (.zoneChange z s.zones[z].state st)).addEvent .zoneChange).syncPause := by
  rw [State.changeZone, if_neg h]
  rfl

theorem State.pauseDemand_iff (s : State) : s.pauseDemand = true ↔ ∃ z : Fin 4, s.zones[z].demandsPause = true := by
  simp only [State.pauseDemand, Bool.or_eq_true, or_assoc]
  exact (exists_zone (P := fun z => s.zones[z].demandsPause = true)).symm

theorem State.pauseDemand_of_reloading {s : State} {z : Fin 4} (h : s.zones[z].state = .reloading) : s.pauseDemand = true :=
  s.pauseDemand_iff.mpr ⟨z, by simp only [Zone.demandsPause, h]; simp⟩

/-- Settles O49, by the range of the fields, the pause inputs and the zone's state. -/
theorem setZoneAndReloadZone : Obligations.SetZoneAndReloadZone := by
  refine ⟨fun b isolate u r s => ⟨fun out => ?range, fun out => exec_reloadZone_of_range (index?_of_le out) s⟩, fun s => ?sync,
    fun z b s named => ⟨fun isolate u r lowU highU lowR highR => ⟨fun flag => ?set, fun out => ?isolate⟩, fun refused => ?refused,
      fun unloaded bare => ?reload⟩⟩
  case range =>
    refine exec_setZone_of_range ?_ s
    refine Classical.byContradiction fun taken => ?_
    simp only [not_or, Option.ne_none_iff_exists'] at taken
    obtain ⟨⟨z, zone⟩, ⟨i, flag⟩, ⟨u', unload⟩, ⟨r', reload⟩⟩ := taken
    have := index?_lt zone
    have := flag?_range flag
    have unloads := (rate?_eq_some_iff.mp unload).1
    have reloads := (rate?_eq_some_iff.mp reload).1
    have someU : u ≠ 0#16 := by rintro rfl; simp at unloads
    have someR : r ≠ 0#16 := by rintro rfl; simp at reloads
    simp only [someU, someR, false_or] at out
    omega
  case sync =>
    exact ⟨fun i running input current => State.syncPause_of_pausing running input current,
      fun i paused none current => State.syncPause_of_resuming paused none current, State.syncPause_of_still⟩
  case isolate =>
    refine exec_setZone_of_range (.inr (.inl (Option.eq_none_iff_forall_ne_some.mpr fun i taken => ?_))) s
    exact absurd (flag?_range taken) (by omega)
  case set =>
    let i := decide (isolate = 1#8)
    have code : (s.replaceZone z i u r).zones[z].state.code = s.zones[z].state.code := by
      rw [State.replaceZone_zones]
      simp [Zone.configured]
    have run := exec_setZone (index?_of_toNat_eq named) (flag?_of_le flag) (rate?_eq_some_iff.mpr ⟨⟨lowU, highU⟩, rfl⟩)
      (rate?_eq_some_iff.mpr ⟨⟨lowR, highR⟩, rfl⟩) s
    rw [code] at run
    refine ⟨_, run, s.replaceZone_pauses z i u r, s.replaceZone_zones z i u r, ?answer, ?whole, ?rest⟩
    case answer => rw [State.answer_answerOf, answerBytes_ok_of_length (n := 7) rfl (by decide)]; rfl
    case whole =>
      have set : ({ s with zones := ((s.replaceZone z i u r).answer .director 0x50#8 6#16 .ok
          ([b, isolate] ++ bytes2 u ++ bytes2 r ++ [s.zones[z].state.code])).zones } : State) = s.updZone z fun x => x.configured i u r := by
        rw [State.answer_zones, State.replaceZone_zones]
        rfl
      dsimp only
      rw [set]
      rfl
    case rest =>
      rw [State.replaceZone_eq]
      dsimp only
      split
      · rfl
      · have kept := rest_steers.syncPause (s.updZone z fun x => x.configured i u r)
        exact congrArg (fun t : State => { t with zones := s.zones }) kept
  case refused =>
    refine exec_reloadZone_of_refused (index?_of_toNat_eq named) (refused.imp_right ?_)
    exact (Zone.hasProtective_iff _).mpr
  case reload =>
    have ready : ¬ (s.zones[z].state ≠ .unloaded ∨ s.zones[z].hasProtective = true) := by
      rw [Zone.hasProtective_iff]
      rintro (away | ⟨e, mem, protects⟩)
      · exact away unloaded
      · exact absurd (bare e mem) (by omega)
    have changed := State.changeZone_of_other (s := s) (z := z) (st := .reloading) (by rw [unloaded]; decide)
    rw [unloaded] at changed
    let told := ((s.enterZone z .reloading).record (.zoneChange z .unloaded .reloading)).addEvent .zoneChange
    have zones : (s.changeZone z .reloading false).zones = s.zones.set z { s.zones[z] with state := .reloading } :=
      s.changeZone_zones z .reloading false
    have state : (s.changeZone z .reloading false).zones[z].state = .reloading := by rw [zones]; simp
    have demand : (s.changeZone z .reloading false).pauseDemand = true := State.pauseDemand_of_reloading state
    have toldDemand : told.pauseDemand = (s.changeZone z .reloading false).pauseDemand := State.pauseDemand_congr zones.symm
    have run := exec_reloadZone (index?_of_toNat_eq named) ready
    rw [state] at run
    refine ⟨_, run, ?pauses, zones, ?answer, demand, fun q => ?event, ?whole, ?rest⟩
    case pauses =>
      have gen : (s.changeZone z .reloading false).gen = s.gen.synced (s.changeZone z .reloading false).pauseDemand := by
        rw [← toldDemand, changed, State.syncPause_gen]
        rfl
      exact Generator.synced_pauses (u := s.changeZone z .reloading false) gen
    case answer => rw [State.answer_answerOf]; rfl
    case event =>
      rw [State.answer_holds, changed]
      exact (latches_composes.syncPause told).holds (by decide) (State.addEvent_holds _ q)
    case whole =>
      have set : ({ s with zones := ((s.changeZone z .reloading false).answer .director 0x52#8 1#16 .ok
          [ZoneState.reloading.code]).zones } : State) = s.enterZone z .reloading := by
        rw [State.answer_zones, zones]
        rfl
      rw [set, changed]
      rfl
    case rest =>
      rw [changed]
      exact congrArg (fun t : State => { t with zones := s.zones, queue := s.queue, ports := s.ports })
        (rest_steers.syncPause told)

end Sys2Proof.Machine


/-! What a removal does (R137 to R142), written out, and from it RELEASE (R140). -/
namespace Sys2Proof.Machine

/-! ### A removal (R137, R142) -/

theorem State.syncPause_tagCounter (s : State) : s.syncPause.tagCounter = s.tagCounter := by
  have tags := congrArg State.tagCounter (rest_steers.syncPause s)
  exact tags

/-- The state a zone takes when an entry leaves its list and these are left. -/
def ZoneState.returned (before : ZoneState) (left : List Entry) (hold : Bool) : ZoneState :=
  if ∃ x ∈ left, 1 ≤ x.action.severity then before
  else if before = .held then .reloading
  else if before = .dumped ∧ hold = false then .unloaded
  else before

theorem ZoneState.returned_eq (before : ZoneState) (left : List Entry) (hold : Bool) :
    before.returned left hold = if left.any Entry.protective then before else before.afterRemoval hold := by
  have protective : left.any Entry.protective = true ↔ ∃ x ∈ left, 1 ≤ x.action.severity := by
    simp [Entry.protective, Nat.one_le_iff_ne_zero, Nat.pos_iff_ne_zero]
  rw [ZoneState.returned]
  simp only [protective]
  refine ite_congr rfl (fun _ => rfl) fun _ => ?_
  cases before <;> cases hold <;> simp [ZoneState.afterRemoval]

theorem eraseP_tag {pre post : List Entry} {e : Entry} (unnamed : ∀ x ∈ pre, x.tag ≠ e.tag) :
    (pre ++ e :: post).eraseP (fun y => y.tag == e.tag) = pre ++ post := by
  rw [List.eraseP_append_right _ (by simpa using unnamed)]
  simp

/-- A zone's entry into a state it can return to: its record, and no output. -/
theorem State.enterZone_of_return (s : State) (z : Fin 4) {st : ZoneState} (h : st ≠ .held ∧ st ≠ .dumped) :
    s.enterZone z st = s.updZone z fun x => { x with state := st } := by
  cases st
  case held => exact absurd rfl h.1
  case dumped => exact absurd rfl h.2
  all_goals rfl

theorem ZoneState.returned_of_other {before : ZoneState} {left : List Entry} {hold : Bool} (h : before.returned left hold ≠ before) :
    before.returned left hold ≠ .held ∧ before.returned left hold ≠ .dumped := by
  unfold ZoneState.returned at h ⊢
  split
  · next protect => exact absurd (if_pos protect) h
  · next bare =>
    split
    · decide
    · next unheld =>
      split
      · decide
      · next stays => exact absurd (by rw [if_neg bare, if_neg unheld, if_neg stays]) h

/-- The zone record a removal leaves. -/
def Zone.returned (x : Zone) (left : List Entry) (hold : Bool) : Zone :=
  { x with state := x.state.returned left hold, entries := left }

section
variable {s : State} {z : Fin 4} {e : Entry} {pre post : List Entry} (entries : s.zones[z].entries = pre ++ e :: post)
  (unnamed : ∀ x ∈ pre, x.tag ≠ e.tag)
include entries unnamed

/-- The removal of an entry, up to the return toward service: the list and the record. -/
theorem State.removeEntry_told (m : Method) (late : Bool) :
    s.removeEntry z e m late =
      State.changeZone
        (State.record { s with zones := s.zones.set z { s.zones[z] with entries := pre ++ post } }
          (.alarmCleared z e.tag e.kind e.source m (s.zones[z].state.returned (pre ++ post) s.stopHold)))
        z (s.zones[z].state.returned (pre ++ post) s.stopHold) late := by
  have erased : s.updZone z (fun x => { x with entries := x.entries.eraseP fun y => y.tag == e.tag })
      = { s with zones := s.zones.set z { s.zones[z] with entries := pre ++ post } } := by
    rw [State.updZone, entries, eraseP_tag unnamed]
    rfl
  unfold State.removeEntry
  dsimp only
  rw [erased, ZoneState.returned_eq]
  simp [Zone.hasProtective]

theorem State.removeEntry_eq (m : Method) (late : Bool) :
    let after := s.zones[z].state.returned (pre ++ post) s.stopHold
    let out : State := { s with zones := s.zones.set z { s.zones[z] with entries := pre ++ post } }
    let told := out.record (.alarmCleared z e.tag e.kind e.source m after)
    let back : State :=
      (State.record { told with zones := s.zones.set z { s.zones[z] with state := after, entries := pre ++ post } }
        (.zoneChange z s.zones[z].state after)).addEvent .zoneChange
    s.removeEntry z e m late = if after = s.zones[z].state then told else if late then back else back.syncPause := by
  intro after out told back
  have state : told.zones[z].state = s.zones[z].state := by simp [told, out]
  rw [State.removeEntry_told entries unnamed, State.changeZone, state]
  by_cases same : s.zones[z].state = after
  · exact (if_pos same).trans (if_pos same.symm).symm
  · have entered : told.enterZone z after
        = { told with zones := s.zones.set z { s.zones[z] with state := after, entries := pre ++ post } } := by
      rw [State.enterZone_of_return _ _ (ZoneState.returned_of_other fun h => same h.symm)]
      simp [State.updZone, State.setZones, told, out]
      rfl
    refine (if_neg same).trans (Eq.trans ?_ (if_neg fun h => same h.symm).symm)
    rw [entered]

theorem State.removeEntry_returned (m : Method) (late : Bool) :
    (s.removeEntry z e m late).zones = s.zones.set z (s.zones[z].returned (pre ++ post) s.stopHold) := by
  rw [State.removeEntry_told entries unnamed, State.changeZone_zones]
  simp [State.updZone, Zone.returned]

/-- A removal leaves the outputs. -/
theorem State.removeEntry_outputs (m : Method) (late : Bool) : (s.removeEntry z e m late).outputs = s.outputs := by
  have eq := State.removeEntry_eq entries unnamed m late
  dsimp only at eq
  rw [eq]
  split
  · rfl
  · split
    · rfl
    · rw [State.syncPause_outputs]; rfl

/-- A removal leaves the tag counter. -/
theorem State.removeEntry_tagCounter (m : Method) (late : Bool) : (s.removeEntry z e m late).tagCounter = s.tagCounter := by
  have eq := State.removeEntry_eq entries unnamed m late
  dsimp only at eq
  rw [eq]
  split
  · rfl
  · split
    · rfl
    · rw [State.syncPause_tagCounter]; rfl

/-- A removal begins with its ALARM_CLEARED record while there is room for all it makes. -/
theorem State.removeEntry_records (m : Method) (late : Bool) (room : s.queue.records.length ≤ 125) :
    s.queue.records ++ [{ seq := s.queue.nextSeq, stamp := s.stamp, cycle := s.gen.cycles
                          body := .alarmCleared z e.tag e.kind e.source m (s.zones[z].state.returned (pre ++ post) s.stopHold) }]
      <+: (s.removeEntry z e m late).queue.records := by
  rw [State.removeEntry_told entries unnamed]
  let out : State := { s with zones := s.zones.set z { s.zones[z] with entries := pre ++ post } }
  let b : Body := .alarmCleared z e.tag e.kind e.source m (s.zones[z].state.returned (pre ++ post) s.stopHold)
  have made := State.record_records (s := out) (show out.queue.records.length < 128 by exact Nat.lt_of_le_of_lt room (by decide)) b
  have begun := (State.Appends.changeZone (out.record b) z (s.zones[z].state.returned (pre ++ post) s.stopHold) late).prefix_of
    (by rw [made, List.length_append]; exact Nat.add_le_add_right (Nat.add_le_add_right room 1) 2)
  rwa [made] at begun
end

/-! ### What a change of zone protection leaves of the part -/

theorem Keeps.generator {s t : State} (h : Keeps s t) :
    { t.gen with state := s.gen.state, lastReason := s.gen.lastReason } = s.gen := by
  rw [h.gen]

/-- Zone protection moves the zones, the tag counter, the outputs, the generator's pause, the queue and the events. -/
theorem Keeps.rest {s t : State} (h : Keeps s t) :
    { t with
      zones := s.zones, tagCounter := s.tagCounter, outputs := s.outputs, gen := s.gen, queue := s.queue, ports := s.ports } = s := by
  obtain ⟨stamp, channels, supervision, activeSet, stagedSet, commit, frames, gauges, links, cracks, stopLine, stopHold, pending, -⟩ :=
    h
  cases s
  cases t
  simp_all

/-! ### RELEASE (R140) -/

theorem exec_release_of_range {b : Byte} {tag : Half} (h : index? 4 b = none) (s : State) :
    exec (.release .director b tag) s = .next (s.answer .director 0x51#8 3#16 .range []) :=
  congrArg Host.Outcome.next (State.serve_refused (r := .release) (n := 3) rfl (by rw [h]))

section
variable {b : Byte} {tag : Half} {z : Fin 4} {s : State} (zone : index? 4 b = some z)
include zone

theorem exec_release_of_notfound (h : (s.zones[z].entries.find? fun e => e.tag == tag) = none) :
    exec (.release .director b tag) s = .next (s.answer .director 0x51#8 3#16 .notfound []) :=
  congrArg Host.Outcome.next (State.serve_refused (r := .release) (n := 3) rfl (by simp only [zone, h]))

variable {e : Entry} (found : (s.zones[z].entries.find? fun e => e.tag == tag) = some e)
include found

theorem exec_release_of_active (active : e.condition = true) :
    exec (.release .director b tag) s = .next (s.answer .director 0x51#8 3#16 .state []) :=
  congrArg Host.Outcome.next (State.serve_refused (r := .release) (n := 3) rfl (by simp only [zone, found]; exact if_pos active))

theorem exec_release_of_clear (clear : e.condition = false) :
    exec (.release .director b tag) s =
      .next ((s.removeEntry z e .manual false).answer .director 0x51#8 3#16 .ok
        [(s.removeEntry z e .manual false).zones[z].state.code, byteOf (s.removeEntry z e .manual false).zones[z].entries.length]) :=
  congrArg Host.Outcome.next (State.serve_ok (r := .release) (n := 3) rfl (by
    simp only [zone, found]
    exact if_neg (by simp [clear])))
end

/-- Settles O50, by the zone, the entry its tag names and that entry's condition. -/
theorem releaseRemovesTheEntry : Obligations.ReleaseRemovesTheEntry := by
  refine ⟨fun b tag s out => exec_release_of_range (index?_of_le out) s, fun z b tag s named => ⟨fun absent => ?absent, ?present⟩⟩
  case absent =>
    exact exec_release_of_notfound (index?_of_toNat_eq named) (List.find?_eq_none.mpr (by simpa using absent))
  case present =>
    rintro before after e entries rfl unnamed
    have zone := index?_of_toNat_eq (n := 4) named
    have found : (s.zones[z].entries.find? fun x => x.tag == e.tag) = some e := by
      rw [entries, List.find?_append, List.find?_eq_none.mpr (by simpa using unnamed)]
      simp
    refine ⟨exec_release_of_active zone found, fun clear => ?_⟩
    intro bare
    have bare_iff : bare ↔ ¬ ∃ x ∈ before ++ after, 1 ≤ x.action.severity := by
      simp [bare, Nat.one_le_iff_ne_zero]
    have zones := State.removeEntry_returned entries unnamed .manual false
    have own : (s.removeEntry z e .manual false).zones[z] = s.zones[z].returned (before ++ after) s.stopHold := by
      rw [zones]
      simp
    have run := exec_release_of_clear zone found clear
    have kept := Keeps.of_removeEntry s z e .manual false
    have outputs := State.removeEntry_outputs entries unnamed .manual false
    rw [own] at run
    refine ⟨_, s.zones[z].state.returned (before ++ after) s.stopHold, run, zones, fun bare held => ?held,
      fun bare dumped free => ?dumped, fun stays => ?stays, ?answer, rfl, outputs,
      State.removeEntry_records entries unnamed .manual false, kept.generator, ?rest⟩
    case held => rw [ZoneState.returned, if_neg (bare_iff.mp bare), if_pos held]
    case dumped =>
      rw [ZoneState.returned, if_neg (bare_iff.mp bare), dumped, if_neg (by decide), if_pos ⟨rfl, free⟩]
    case stays =>
      rw [bare_iff, Classical.not_not] at stays
      unfold ZoneState.returned
      split
      · rfl
      · next unprotected =>
        obtain protect | ⟨dumped, hold⟩ | other := stays
        · exact absurd protect unprotected
        · rw [dumped, hold]; rfl
        · rw [if_neg, if_neg] <;> rintro h <;> simp_all
    case answer => rw [State.answer_answerOf, answerBytes_ok_two]; rfl
    case rest =>
      have rest := kept.rest
      have tags := State.removeEntry_tagCounter entries unnamed .manual false
      rw [← tags] at rest
      exact rest

end Sys2Proof.Machine


/-! One count of the reference timer (R87, R88, R105, R138): which of the schedule's events moves which record, and from this what
the count does to one watchdog and to one stale timer, in whatever order its events come. -/
namespace Sys2Proof.Machine

/-! ### What zone protection leaves -/

/-- A field that zone protection does not write stays over it. -/
theorem protects_of_field {α : Type} (π : State → α) (setGen : ∀ s x, π (s.setGen x) = π s := by intros; rfl)
    (setPorts : ∀ s x, π (s.setPorts x) = π s := by intros; rfl) (setQueue : ∀ s x, π (s.setQueue x) = π s := by intros; rfl)
    (setOutputs : ∀ s x, π (s.setOutputs x) = π s := by intros; rfl) (setZones : ∀ s x, π (s.setZones x) = π s := by intros; rfl)
    (setTagCounter : ∀ s x, π (s.setTagCounter x) = π s := by intros; rfl) : Protects fun s t => π t = π s where
  refl _ := rfl
  trans h k := k.trans h
  setGen := setGen
  addEvent _ _ := setPorts _ _
  record _ _ := setQueue _ _
  setOutputs := setOutputs
  setZones := setZones
  setTagCounter := setTagCounter

/-- What a sample of the inputs leaves. -/
theorem State.sampleInputs_of_field {α : Type} {π : State → α} (h : Protects fun s t => π t = π s)
    (setCracks : ∀ s x, π (s.setCracks x) = π s := by intros; rfl) (setStopLine : ∀ s x, π (s.setStopLine x) = π s := by intros; rfl)
    (setStopHold : ∀ s x, π (s.setStopHold x) = π s := by intros; rfl) (s : State) (ck : BitVec 16) (l : Level) :
    π (s.sampleInputs ck l) = π s := by
  have watches : Watches fun s t => π t = π s := { toHands := h.hands, updCrack := fun _ _ _ _ => setCracks _ _ }
  have cracks := h.foldl (fun s i => watches.sampleCrack s i (crackLevel ck i)) (List.finRange 16) s
  have stop := (h.lists false).sampleStop (fun _ _ _ => setStopLine _ _) setStopHold
    ((List.finRange 16).foldl (fun s i => s.sampleCrack i (crackLevel ck i)) s) l
  exact stop.trans cracks

/-- What a tick of a watchdog leaves. -/
theorem State.watchdogTick_of_field {α : Type} {π : State → α} (h : Protects fun s t => π t = π s)
    (setFrames : ∀ s x, π (s.setFrames x) = π s := by intros; rfl) (setPorts : ∀ s x, π (s.setPorts x) = π s := by intros; rfl)
    (s : State) (f : Fin 4) : π (s.watchdogTick f) = π s := by
  have supervises : Supervises fun s t => π t = π s :=
    { toHands := h.hands, updFrame := fun _ _ _ _ => setFrames _ _, addEventAt := fun _ _ _ => setPorts _ _ }
  exact supervises.watchdogTick s f

/-- What a tick of a stale timer leaves. -/
theorem State.staleTick_of_field {α : Type} {π : State → α} (h : Protects fun s t => π t = π s)
    (setGauges : ∀ s x, π (s.setGauges x) = π s := by intros; rfl) (s : State) (g : Fin 64) : π (s.staleTick g) = π s := by
  have strains : Strains fun s t => π t = π s := { toHands := h.hands, updGauge := fun _ _ _ _ => setGauges _ _ }
  exact strains.staleTick s g

/-- What a tick of a clear-timer leaves. -/
theorem State.clearTimerTick_of_field {α : Type} {π : State → α} (h : Protects fun s t => π t = π s) (s : State) (z : Fin 4)
    (tag : Half) : π (s.clearTimerTick z tag) = π s :=
  (h.lists false).clearTimerTick s z tag

/-! ### A fold of acts around one of them -/

theorem foldl_keeps {α β : Type} {f : State → α → State} {π : State → β} {l : List α}
    (h : ∀ a ∈ l, ∀ s, π (f s a) = π s) (s : State) : π (l.foldl f s) = π s := by
  induction l generalizing s with
  | nil => rfl
  | cons a l ih =>
    rw [List.foldl_cons, ih (fun b mem => h b (List.mem_cons_of_mem a mem)), h a List.mem_cons_self]

theorem nodup_eraseDups {α : Type} [BEq α] [LawfulBEq α] (l : List α) : l.eraseDups.Nodup := by
  match l with
  | [] => simp
  | a :: l =>
    rw [List.eraseDups_cons, List.nodup_cons]
    refine ⟨?_, nodup_eraseDups _⟩
    simp [List.mem_eraseDups]
termination_by l.length
decreasing_by
  have := List.length_filter_le (fun b => !b == a) l
  simp only [List.length_cons]
  omega

theorem foldl_holds {α : Type} {f : State → α → State} {P : State → Prop} {l : List α} (h : ∀ a ∈ l, ∀ s, P s → P (f s a))
    {s : State} (hs : P s) : P (l.foldl f s) := by
  induction l generalizing s with
  | nil => exact hs
  | cons a l ih => exact ih (fun b mem => h b (List.mem_cons_of_mem a mem)) (h a List.mem_cons_self s hs)

/-- A member that a list holds once divides it. -/
theorem exists_split {α : Type} [DecidableEq α] {a : α} {l : List α} (mem : a ∈ l) (once : l.count a ≤ 1) :
    ∃ before after, l = before ++ a :: after ∧ a ∉ before ∧ a ∉ after := by
  obtain ⟨before, after, rfl, first⟩ := List.eq_append_cons_of_mem mem
  refine ⟨before, after, rfl, first, fun again => ?_⟩
  have := List.count_pos_iff.mpr again
  simp only [List.count_append, List.count_cons_self] at once
  omega

/-! ### The schedule (R87, R105, R138) -/

section
variable {s : State} {a : CountArgs} {x : CountAct}

/-- An act that comes once among those of the count comes once in any order of it. -/
theorem State.countSchedule_split (mem : x ∈ s.countActs) (once : s.countActs.count x ≤ 1) :
    ∃ earlier later, s.countSchedule a = earlier ++ x :: later ∧ x ∉ earlier ∧ x ∉ later := by
  refine exists_split ?_ ?_
  · by_cases named : x ∈ a.order
    · exact List.mem_append_left _ (List.mem_eraseDups.mpr named)
    · exact List.mem_append_right _ (List.mem_filter.mpr ⟨mem, by simpa using named⟩)
  · rw [State.countSchedule, List.count_append]
    by_cases named : x ∈ a.order
    · have rest : x ∉ s.countActs.filter fun b => !a.order.contains b := by simp [named]
      rw [List.count_eq_zero.mpr rest]
      exact List.nodup_iff_count.mp (nodup_eraseDups a.order) x
    · have first : x ∉ a.order.eraseDups := by simpa [List.mem_eraseDups] using named
      rw [List.count_eq_zero.mpr first, Nat.zero_add]
      exact Nat.le_trans (List.filter_sublist.count_le x) once
end

theorem count_map_le_one {α : Type} [DecidableEq α] {f : α → CountAct} (inj : ∀ a b, f a = f b → a = b) {l : List α} (nodup : l.Nodup)
    (x : CountAct) : (l.map f).count x ≤ 1 :=
  List.nodup_iff_count.mp (List.Pairwise.map f (fun a b apart same => apart (inj a b same)) nodup) x

theorem State.countActs_watchdog (s : State) (f : Fin 4) :
    (CountAct.watchdog f ∈ s.countActs ↔ s.frames[f].counting = true) ∧ s.countActs.count (.watchdog f) ≤ 1 := by
  have timers : CountAct.watchdog f ∉ allZones.flatMap s.timersOf := by simp [State.timersOf]
  have stales : CountAct.watchdog f ∉ ((List.finRange 64).filter fun g => s.gauges[g].staleCounting).map CountAct.stale := by simp
  constructor
  · simp [State.countActs, State.timersOf]
  · rw [State.countActs, List.count_append, List.count_append, List.count_append, List.count_eq_zero.mpr timers,
      List.count_eq_zero.mpr stales, List.count_eq_zero.mpr (by simp : CountAct.watchdog f ∉ [.sample]), Nat.zero_add]
    exact count_map_le_one (fun _ _ => by simp) (List.Pairwise.filter _ (List.nodup_finRange 4)) _

theorem State.countActs_stale (s : State) (g : Fin 64) :
    (CountAct.stale g ∈ s.countActs ↔ s.gauges[g].staleCounting = true) ∧ s.countActs.count (.stale g) ≤ 1 := by
  have timers : CountAct.stale g ∉ allZones.flatMap s.timersOf := by simp [State.timersOf]
  have dogs : CountAct.stale g ∉ ((List.finRange 4).filter fun f => s.frames[f].counting).map CountAct.watchdog := by simp
  constructor
  · simp [State.countActs, State.timersOf]
  · rw [State.countActs, List.count_append, List.count_append, List.count_append, List.count_eq_zero.mpr timers,
      List.count_eq_zero.mpr dogs, List.count_eq_zero.mpr (by simp : CountAct.stale g ∉ [.sample]), Nat.zero_add]
    exact count_map_le_one (fun _ _ => by simp) (List.Pairwise.filter _ (List.nodup_finRange 64)) _

theorem State.countActs_sample (s : State) : CountAct.sample ∈ s.countActs ∧ s.countActs.count .sample ≤ 1 := by
  have timers : CountAct.sample ∉ allZones.flatMap s.timersOf := by simp [State.timersOf]
  have dogs : CountAct.sample ∉ ((List.finRange 4).filter fun f => s.frames[f].counting).map CountAct.watchdog := by simp
  have stales : CountAct.sample ∉ ((List.finRange 64).filter fun g => s.gauges[g].staleCounting).map CountAct.stale := by simp
  constructor
  · simp [State.countActs]
  · rw [State.countActs, List.count_append, List.count_append, List.count_append, List.count_eq_zero.mpr timers,
      List.count_eq_zero.mpr dogs, List.count_eq_zero.mpr stales]
    simp

/-! ### What the acts of a count leave -/

theorem State.countAct_of_field {α : Type} {π : State → α} (h : Protects fun s t => π t = π s)
    (setPorts : ∀ s x, π (s.setPorts x) = π s := by intros; rfl) (setFrames : ∀ s x, π (s.setFrames x) = π s := by intros; rfl)
    (setGauges : ∀ s x, π (s.setGauges x) = π s := by intros; rfl) (setCracks : ∀ s x, π (s.setCracks x) = π s := by intros; rfl)
    (setStopLine : ∀ s x, π (s.setStopLine x) = π s := by intros; rfl)
    (setStopHold : ∀ s x, π (s.setStopHold x) = π s := by intros; rfl) (a : CountArgs) (x : CountAct) (s : State) :
    π (s.countAct a x) = π s := by
  cases x
  case sample => exact State.sampleInputs_of_field h setCracks setStopLine setStopHold s _ _
  case watchdog f => exact State.watchdogTick_of_field h setFrames setPorts s f
  case stale g => exact State.staleTick_of_field h setGauges s g
  case clearTimer z tag => exact State.clearTimerTick_of_field h s z tag

theorem State.countAct_channels (a : CountArgs) (x : CountAct) (s : State) : (s.countAct a x).channels = s.channels :=
  State.countAct_of_field (protects_of_field State.channels) (a := a) (x := x) (s := s)

theorem State.countAct_stamp (a : CountArgs) (x : CountAct) (s : State) : (s.countAct a x).stamp = s.stamp :=
  State.countAct_of_field (protects_of_field State.stamp) (a := a) (x := x) (s := s)

theorem State.referenceCount_stamp (s : State) (a : CountArgs) : (s.referenceCount a).stamp = s.stamp + 1#32 :=
  foldl_keeps (π := State.stamp) (fun x _ s => s.countAct_stamp a x) (s.setStamp (s.stamp + 1#32))

/-- An event that a count brings at one of its acts stands after the rest of it. -/
theorem State.foldl_countAct_holds {s : State} {a : CountArgs} {q : PortId} {e : Event} (l : List CountAct)
    (h : s.holds q e = true) (latched : e ≠ .logReady := by decide) :
    (l.foldl (fun v x => v.countAct a x) s).holds q e = true :=
  (latches_composes.foldl (fun s x => latches_composes.countAct s a x) l s).holds latched h

theorem State.addEventAt_holds (s : State) (p : PortId) (e : Event) (latched : e ≠ .logReady := by decide) :
    (s.addEventAt p e).holds p e = true := by
  rw [State.holds_iff_latched latched, ← Event.mem_iff]
  simp only [State.addEventAt, State.updPort, State.setPorts, Fin.getElem_fin, Vector.getElem_set_self]
  rw [Event.mem_iff, BitVec.getLsbD_or, Event.bit_own, Bool.or_true]

/-! ### Raises (R132) -/

theorem State.raiseIn_holds (s : State) (z : Fin 4) (r : Raise) (d : Bool) (q : PortId) :
    (s.raiseIn z r d).holds q .alarm = true := by
  unfold State.raiseIn
  dsimp only
  have alarmed (b : Body) (st : ZoneState) :
      ((((s.takeRaise z r).1.record b).addEvent .alarm).changeZone z st d).holds q .alarm = true :=
    (latches_composes.changeZone _ _ _ _).holds (by decide) (State.addEvent_holds _ q)
  split
  · exact ((latches_composes.lists d).removeEntry _ _ _ _).holds (by decide) (alarmed _ _)
  · exact alarmed _ _

/-- A raise into a zone is an ALARM at every port. -/
theorem State.raise_holds (s : State) (r : Raise) {own : List (Fin 4)} (d : Bool) (some : own ≠ []) (q : PortId) :
    (s.raise r own d).holds q .alarm = true := by
  obtain ⟨w, mem⟩ := List.exists_mem_of_ne_nil own some
  have every : ∀ z : Fin 4, z ∈ allZones := by decide
  have placed : w ∈ placement r.action own := by
    unfold placement
    split <;> simp [every, mem]
  obtain ⟨before, after, split, -⟩ := List.eq_append_cons_of_mem placed
  rw [State.raise, split, List.foldl_append, List.foldl_cons]
  exact (latches_composes.foldl (fun s z => (latches_composes.lists d).raiseIn s z r) after _).holds (by decide)
    (State.raiseIn_holds _ w r d q)

/-! ### A watchdog at a count (R88) -/

/-- A frame record after one tick of its watchdog. -/
def FrameRec.ticked (x : FrameRec) : FrameRec :=
  match x.dog with
  | .alive =>
    if x.remaining.toNat ≤ 1 then { x with dog := .late, remaining := x.period, late := true }
    else { x with remaining := x.remaining - 1#16 }
  | .late =>
    if x.remaining.toNat ≤ 1 then { x with dog := .lost, remaining := 0#16, lost := true }
    else { x with remaining := x.remaining - 1#16 }
  | .unwatched | .lost => x

theorem State.updFrame_of_eq {s : State} {f : Fin 4} {x : FrameRec} (h : s.frames[f] = x) (g : FrameRec → FrameRec) :
    s.updFrame f g = s.setFrames (s.frames.set f (g x)) := by
  rw [State.updFrame, h]

theorem State.updFrame_self {s : State} {f : Fin 4} {g : FrameRec → FrameRec} (h : g s.frames[f] = s.frames[f]) :
    s.updFrame f g = s := by
  have same : s.frames.set f s.frames[f] = s.frames := Vector.set_getElem_self _
  rw [State.updFrame, h, same]
  rfl

section
variable {s : State} {f : Fin 4}

theorem State.watchdogTick_of_still (h : s.frames[f].dog = .unwatched ∨ s.frames[f].dog = .lost) : s.watchdogTick f = s := by
  have away : s.frames[f].counting = false := by
    obtain h | h := h <;> simp only [FrameRec.counting, h] <;> rfl
  simp only [State.watchdogTick, FrameRec.due, away, Bool.false_and, Bool.false_eq_true, if_false]

theorem State.watchdogTick_of_counting (h : s.frames[f].counting = true) (left : 2 ≤ s.frames[f].remaining.toNat) :
    s.watchdogTick f = s.updFrame f fun x => { x with remaining := x.remaining - 1#16 } := by
  have notDue : ¬ s.frames[f].remaining.toNat ≤ 1 := by omega
  simp only [State.watchdogTick, FrameRec.due, h, notDue, decide_false, Bool.and_false, Bool.false_eq_true, if_false, if_true]

theorem State.watchdogTick_of_late (alive : s.frames[f].dog = .alive) (left : s.frames[f].remaining.toNat ≤ 1) :
    s.watchdogTick f =
      ((s.updFrame f fun x => { x with dog := .late, remaining := x.period, late := true }).addEventAt (.frame f) .ownLate).raise
        { source := .frameLate f, action := s.frames[f].lateAction, method := s.frames[f].method, seconds := s.frames[f].seconds
          active := true } [s.channels[channelA f].zone, s.channels[channelB f].zone] := by
  have due : s.frames[f].due = true := by simp only [FrameRec.due, FrameRec.counting, alive, left]; rfl
  rw [State.watchdogTick, if_pos due, State.expireDog, alive]
  simp [State.raiseFrame, State.updFrame]

theorem State.watchdogTick_of_lost (late : s.frames[f].dog = .late) (left : s.frames[f].remaining.toNat ≤ 1) :
    s.watchdogTick f =
      (s.updFrame f fun x => { x with dog := .lost, remaining := 0#16, lost := true }).raise
        { source := .frameLost f, action := s.frames[f].lostAction, method := s.frames[f].method, seconds := s.frames[f].seconds
          active := true } [s.channels[channelA f].zone, s.channels[channelB f].zone] := by
  have due : s.frames[f].due = true := by simp only [FrameRec.due, FrameRec.counting, late, left]; rfl
  rw [State.watchdogTick, if_pos due, State.expireDog, late]
  simp [State.raiseFrame, State.updFrame]

/-- A tick turns the one frame record. -/
theorem State.watchdogTick_frames (s : State) (f : Fin 4) : (s.watchdogTick f).frames = s.frames.set f s.frames[f].ticked := by
  unfold FrameRec.ticked
  cases dog : s.frames[f].dog
  case unwatched => rw [State.watchdogTick_of_still (.inl dog)]; exact (Vector.set_getElem_self _).symm
  case lost => rw [State.watchdogTick_of_still (.inr dog)]; exact (Vector.set_getElem_self _).symm
  case alive =>
    dsimp only
    split
    · next left => rw [State.watchdogTick_of_late dog left, State.raise_frames]; rfl
    · next left =>
      rw [State.watchdogTick_of_counting (by simp only [FrameRec.counting, dog]; rfl) (by omega)]
      simp only [State.updFrame, State.setFrames_frames, dog]
  case late =>
    dsimp only
    split
    · next left => rw [State.watchdogTick_of_lost dog left, State.raise_frames]; rfl
    · next left =>
      rw [State.watchdogTick_of_counting (by simp only [FrameRec.counting, dog]; rfl) (by omega)]
      simp only [State.updFrame, State.setFrames_frames, dog]
end

/-- Every other act of a count leaves the frame record. -/
theorem State.countAct_frame {f : Fin 4} {x : CountAct} (other : x ≠ .watchdog f) (a : CountArgs) (s : State) :
    (s.countAct a x).frames[f] = s.frames[f] := by
  have frames := protects_of_field State.frames
  cases x
  case sample => exact congrArg (·[f]) (State.sampleInputs_of_field frames (s := s) (ck := a.ck) (l := a.stopn))
  case stale g => exact congrArg (·[f]) (State.staleTick_of_field frames (s := s) (g := g))
  case clearTimer z tag => exact congrArg (·[f]) (State.clearTimerTick_of_field frames s z tag)
  case watchdog i =>
    have apart : i.val ≠ f.val := fun same => other (congrArg CountAct.watchdog (Fin.ext same))
    have turned := s.watchdogTick_frames i
    simp only [State.countAct, turned, Fin.getElem_fin]
    exact Vector.getElem_set_ne _ _ apart

/-- The count at which a watchdog counts: the events before its own leave its frame, and those after it leave what its own made. -/
theorem State.referenceCount_watchdog {s : State} {f : Fin 4} (counting : s.frames[f].counting = true) (a : CountArgs) :
    ∃ earlier later, s.countSchedule a = earlier ++ .watchdog f :: later
      ∧ (earlier.foldl (fun v x => v.countAct a x) (s.setStamp (s.stamp + 1#32))).frames[f] = s.frames[f]
      ∧ (earlier.foldl (fun v x => v.countAct a x) (s.setStamp (s.stamp + 1#32))).channels = s.channels
      ∧ s.referenceCount a = later.foldl (fun v x => v.countAct a x)
          ((earlier.foldl (fun v x => v.countAct a x) (s.setStamp (s.stamp + 1#32))).watchdogTick f)
      ∧ (s.referenceCount a).frames[f] = s.frames[f].ticked := by
  obtain ⟨acts, once⟩ := s.countActs_watchdog f
  obtain ⟨earlier, later, split, before, after⟩ := State.countSchedule_split (a := a) (acts.mpr counting) once
  have run : s.referenceCount a = later.foldl (fun v x => v.countAct a x)
      ((earlier.foldl (fun v x => v.countAct a x) (s.setStamp (s.stamp + 1#32))).watchdogTick f) := by
    rw [State.referenceCount, split, List.foldl_append, List.foldl_cons]
    rfl
  have reached : (earlier.foldl (fun v x => v.countAct a x) (s.setStamp (s.stamp + 1#32))).frames[f] = s.frames[f] :=
    foldl_keeps (π := fun s : State => s.frames[f])
      (fun x mem s => State.countAct_frame (fun same => before (by rwa [← same])) a s) _
  refine ⟨earlier, later, split, reached, ?_, run, ?_⟩
  · exact foldl_keeps (π := State.channels) (fun x _ s => s.countAct_channels a x) _
  · have kept := foldl_keeps (f := fun v x => v.countAct a x) (π := fun s : State => s.frames[f]) (l := later)
      (fun x mem s => State.countAct_frame (fun same => after (by rwa [← same])) a s)
      ((earlier.foldl (fun v x => v.countAct a x) (s.setStamp (s.stamp + 1#32))).watchdogTick f)
    rw [run, kept, State.watchdogTick_frames]
    simp only [Fin.getElem_fin, Vector.getElem_set_self] at reached ⊢
    rw [reached]

theorem State.referenceCount_frame_of_still {s : State} {f : Fin 4} (still : s.frames[f].dog = .unwatched ∨ s.frames[f].dog = .lost)
    (a : CountArgs) : (s.referenceCount a).frames[f] = s.frames[f] := by
  refine foldl_holds (P := fun t : State => t.frames[f] = s.frames[f]) (fun x _ t reached => ?_) rfl
  by_cases own : x = .watchdog f
  · subst own
    rw [State.countAct, State.watchdogTick_of_still (by rw [reached]; exact still), reached]
  · rw [State.countAct_frame own, reached]

/-- Settles O39, by the watchdog's state and what remains to it. -/
theorem watchdogExpires : Obligations.WatchdogExpires := by
  intro f a s
  refine ⟨_, rfl, s.referenceCount_stamp a, fun still => s.referenceCount_frame_of_still still a, fun counts left => ?counts,
    fun alive out => ?late, fun late out => ?lost⟩
  case counts =>
    have counting : s.frames[f].counting = true := by
      obtain h | h := counts <;> simp only [FrameRec.counting, h] <;> rfl
    have notDue : s.frames[f].due = false := by
      simp only [FrameRec.due, show ¬ s.frames[f].remaining.toNat ≤ 1 by omega, decide_false, Bool.and_false]
    obtain ⟨-, -, -, -, -, -, ticked⟩ := State.referenceCount_watchdog counting a
    refine ⟨ticked.trans ?_, ?_⟩
    · have more : ¬ s.frames[f].remaining.toNat ≤ 1 := by omega
      obtain h | h := counts <;> simp only [FrameRec.ticked, h, if_neg more]
    · exact congrArg Host.Outcome.next (if_neg (by rw [notDue]; decide))
  case late =>
    have counting : s.frames[f].counting = true := by simp only [FrameRec.counting, alive]; rfl
    have due : s.frames[f].due = true := by simp only [FrameRec.due, counting, out]; rfl
    obtain ⟨earlier, later, split, reached, channels, run, ticked⟩ := State.referenceCount_watchdog counting a
    rw [State.watchdogTick_of_late (by rw [reached]; exact alive) (by rw [reached]; exact out), reached, channels] at run
    rw [State.updFrame_of_eq reached] at run
    refine ⟨congrArg Host.Outcome.next (if_pos due), ticked.trans ?_, ?own, fun q => ?alarm, earlier, later, split, reached, run⟩
    · simp only [FrameRec.ticked, alive, if_pos out]
    case own =>
      rw [run]
      exact State.foldl_countAct_holds later
        (((latches_composes.lists false).raise _ _ _).holds (by decide) (State.addEventAt_holds _ _ _))
    case alarm => rw [run]; exact State.foldl_countAct_holds later (State.raise_holds _ _ _ (by simp) q)
  case lost =>
    have counting : s.frames[f].counting = true := by simp only [FrameRec.counting, late]; rfl
    have due : s.frames[f].due = true := by simp only [FrameRec.due, counting, out]; rfl
    obtain ⟨earlier, later, split, reached, channels, run, ticked⟩ := State.referenceCount_watchdog counting a
    rw [State.watchdogTick_of_lost (by rw [reached]; exact late) (by rw [reached]; exact out), reached, channels] at run
    rw [State.updFrame_of_eq reached] at run
    refine ⟨congrArg Host.Outcome.next (if_pos due), ticked.trans ?_, fun q => ?alarm, earlier, later, split, reached, run⟩
    · simp only [FrameRec.ticked, late, if_pos out]
    case alarm => rw [run]; exact State.foldl_countAct_holds later (State.raise_holds _ _ _ (by simp) q)

end Sys2Proof.Machine


/-! A stale timer at a count (R105, R106). -/
namespace Sys2Proof.Machine

/-- The running fields of a gauge whose stale timer expires. -/
def GaugeRun.staled (r : GaugeRun) : GaugeRun :=
  { r with
    stale := .expired, staleLeft := 0#16, fault := some (r.fault.getD .stale), runningFault := r.runningFault || r.fault.isNone }

theorem GaugeRun.staled_of_none {r : GaugeRun} (h : r.fault = none) :
    r.staled = { r with stale := .expired, staleLeft := 0#16, fault := some .stale, runningFault := true } := by
  simp [GaugeRun.staled, h]

theorem State.setGauges_setGauges (s : State) (x y : Vector Gauge 64) : (s.setGauges x).setGauges y = s.setGauges y := rfl

/-- A gauge record after one tick of its stale timer. -/
def Gauge.ticked (x : Gauge) : Gauge :=
  if x.staleCounting then
    if x.run.staleLeft.toNat ≤ 1 then { x with run := x.run.staled }
    else { x with run := { x.run with staleLeft := x.run.staleLeft - 1#16 } }
  else x

section
variable {s : State} {g : Fin 64}

theorem State.staleTick_of_still (h : s.gauges[g].staleCounting = false) : s.staleTick g = s := by
  simp only [State.staleTick, Gauge.staleDue, h, Bool.false_and, Bool.false_eq_true, if_false]

theorem State.staleTick_of_counting (h : s.gauges[g].staleCounting = true) (left : 2 ≤ s.gauges[g].run.staleLeft.toNat) :
    s.staleTick g = s.updGauge g fun r => { r with staleLeft := r.staleLeft - 1#16 } := by
  have notDue : ¬ s.gauges[g].run.staleLeft.toNat ≤ 1 := by omega
  simp only [State.staleTick, Gauge.staleDue, h, notDue, decide_false, Bool.and_false, Bool.false_eq_true, if_false, if_true]

/-- A timer that runs out makes the fault, with its raise where there was none. -/
theorem State.staleTick_of_due (h : s.gauges[g].staleCounting = true) (out : s.gauges[g].run.staleLeft.toNat ≤ 1) :
    s.staleTick g =
      if s.gauges[g].run.fault.isSome then s.updGauge g GaugeRun.staled
      else (s.updGauge g GaugeRun.staled).raise
        { source := .gaugeFault g, action := s.gauges[g].config.faultAction, method := s.gauges[g].config.method
          seconds := s.gauges[g].config.seconds, active := true } [s.gauges[g].config.zone] := by
  have due : s.gauges[g].staleDue = true := by simp only [Gauge.staleDue, h, out]; rfl
  rw [State.staleTick, if_pos due, State.expireStale]
  cases fault : s.gauges[g].run.fault with
  | some cause =>
    simp only [Option.isSome_some, if_true, State.updGauge, GaugeRun.staled, fault, Option.getD_some, Option.isNone_some,
      Bool.or_false]
  | none =>
    simp only [Option.isSome_none, Bool.false_eq_true, if_false, State.enterFault, State.raiseGauge, State.updGauge,
      GaugeRun.staled_of_none fault]
    simp only [State.setGauges_gauges, Fin.getElem_fin, Vector.getElem_set_self, Vector.set_set, State.setGauges_setGauges]

/-- A tick turns the one gauge record. -/
theorem State.staleTick_gauges (s : State) (g : Fin 64) : (s.staleTick g).gauges = s.gauges.set g s.gauges[g].ticked := by
  unfold Gauge.ticked
  split
  · next counting =>
    split
    · next out =>
      rw [State.staleTick_of_due counting out]
      split
      · rfl
      · rw [State.raise_gauges]; rfl
    · next left =>
      rw [State.staleTick_of_counting counting (by omega)]
      rfl
  · next still =>
    rw [State.staleTick_of_still (by simpa using still)]
    exact (Vector.set_getElem_self _).symm
end

/-- Every other act of a count leaves the gauge record. -/
theorem State.countAct_gauge {g : Fin 64} {x : CountAct} (other : x ≠ .stale g) (a : CountArgs) (s : State) :
    (s.countAct a x).gauges[g] = s.gauges[g] := by
  have gauges := protects_of_field State.gauges
  cases x
  case sample => exact congrArg (·[g]) (State.sampleInputs_of_field gauges (s := s) (ck := a.ck) (l := a.stopn))
  case watchdog f => exact congrArg (·[g]) (State.watchdogTick_of_field gauges (s := s) (f := f))
  case clearTimer z tag => exact congrArg (·[g]) (State.clearTimerTick_of_field gauges s z tag)
  case stale i =>
    have apart : i.val ≠ g.val := fun same => other (congrArg CountAct.stale (Fin.ext same))
    have turned := s.staleTick_gauges i
    simp only [State.countAct, turned, Fin.getElem_fin]
    exact Vector.getElem_set_ne _ _ apart

/-- The count at which a stale timer counts: the events before its own leave its gauge, and those after it leave what its own made. -/
theorem State.referenceCount_stale {s : State} {g : Fin 64} (counting : s.gauges[g].staleCounting = true) (a : CountArgs) :
    ∃ earlier later, s.countSchedule a = earlier ++ .stale g :: later
      ∧ (earlier.foldl (fun v x => v.countAct a x) (s.setStamp (s.stamp + 1#32))).gauges[g] = s.gauges[g]
      ∧ s.referenceCount a = later.foldl (fun v x => v.countAct a x)
          ((earlier.foldl (fun v x => v.countAct a x) (s.setStamp (s.stamp + 1#32))).staleTick g)
      ∧ (s.referenceCount a).gauges[g] = s.gauges[g].ticked := by
  obtain ⟨acts, once⟩ := s.countActs_stale g
  obtain ⟨earlier, later, split, before, after⟩ := State.countSchedule_split (a := a) (acts.mpr counting) once
  have run : s.referenceCount a = later.foldl (fun v x => v.countAct a x)
      ((earlier.foldl (fun v x => v.countAct a x) (s.setStamp (s.stamp + 1#32))).staleTick g) := by
    rw [State.referenceCount, split, List.foldl_append, List.foldl_cons]
    rfl
  have reached : (earlier.foldl (fun v x => v.countAct a x) (s.setStamp (s.stamp + 1#32))).gauges[g] = s.gauges[g] :=
    foldl_keeps (π := fun s : State => s.gauges[g])
      (fun x mem s => State.countAct_gauge (fun same => before (by rwa [← same])) a s) _
  refine ⟨earlier, later, split, reached, run, ?_⟩
  have kept := foldl_keeps (f := fun v x => v.countAct a x) (π := fun s : State => s.gauges[g]) (l := later)
    (fun x mem s => State.countAct_gauge (fun same => after (by rwa [← same])) a s)
    ((earlier.foldl (fun v x => v.countAct a x) (s.setStamp (s.stamp + 1#32))).staleTick g)
  rw [run, kept, State.staleTick_gauges]
  simp only [Fin.getElem_fin, Vector.getElem_set_self] at reached ⊢
  rw [reached]

theorem State.referenceCount_gauge_of_still {s : State} {g : Fin 64} (still : s.gauges[g].staleCounting = false) (a : CountArgs) :
    (s.referenceCount a).gauges[g] = s.gauges[g] := by
  refine foldl_holds (P := fun t : State => t.gauges[g] = s.gauges[g]) (fun x _ t reached => ?_) rfl
  by_cases own : x = .stale g
  · subst own
    rw [State.countAct, State.staleTick_of_still (by rw [reached]; exact still), reached]
  · rw [State.countAct_gauge own, reached]

theorem Gauge.staleCounting_iff (x : Gauge) : x.staleCounting = true ↔ x.config.enabled = true ∧ x.run.stale = .running := by
  simp [Gauge.staleCounting]

/-- Settles O44, by whether the timer runs and what remains to it. -/
theorem staleTimerExpires : Obligations.StaleTimerExpires := by
  intro g a s
  refine ⟨_, rfl, s.referenceCount_stamp a, fun still => ?still, fun enabled running left => ?counts,
    fun enabled running out => ?due⟩
  case still =>
    refine s.referenceCount_gauge_of_still (Bool.eq_false_iff.mpr fun counting => ?_) a
    obtain ⟨enabled, running⟩ := (Gauge.staleCounting_iff _).mp counting
    simp_all
  case counts =>
    have counting := (Gauge.staleCounting_iff _).mpr ⟨enabled, running⟩
    have more : ¬ s.gauges[g].run.staleLeft.toNat ≤ 1 := by omega
    obtain ⟨-, -, -, -, -, ticked⟩ := State.referenceCount_stale counting a
    refine ⟨ticked.trans ?_, congrArg Host.Outcome.next (if_neg ?_)⟩
    · rw [Gauge.ticked, if_pos counting, if_neg more]
    · simp only [Gauge.staleDue, more, decide_false, Bool.and_false]
      decide
  case due =>
    have counting := (Gauge.staleCounting_iff _).mpr ⟨enabled, running⟩
    have due : s.gauges[g].staleDue = true := by simp only [Gauge.staleDue, counting, out]; rfl
    obtain ⟨earlier, later, split, reached, run, ticked⟩ := State.referenceCount_stale counting a
    have left : (s.referenceCount a).gauges[g] = { s.gauges[g] with run := s.gauges[g].run.staled } := by
      rw [ticked, Gauge.ticked, if_pos counting, if_pos out]
    rw [State.staleTick_of_due (by rw [reached]; exact counting) (by rw [reached]; exact out), reached, State.updGauge, reached,
      ← left] at run
    refine ⟨congrArg Host.Outcome.next (if_pos due), left, fun none q => ?alarm, earlier, later, split, reached, run⟩
    case alarm =>
      rw [run, if_neg (by rw [none]; decide)]
      exact State.foldl_countAct_holds later (State.raise_holds _ _ _ (by simp) q)

end Sys2Proof.Machine


/-! A property of the alarm lists that the raises and clears of other sources keep: what has to be shown of it, and from this that
every act of a count but its own keeps it (R87, R105, R116, R123, R138). -/
namespace Sys2Proof.Machine

/-! ### One sample of a crack input (R116 to R119) -/

/-- The sample makes a qualification that the input's sense detects. -/
def Crack.detects (c : Crack) (l : Level) : Bool :=
  (c.qualifier.sampled l).qualifies c.config.n l
    && (if c.config.sense.lasting then c.config.sense.sensed == some l else c.config.sense.edgeDetected c.qualifier.level l)

/-- The sample makes a qualification at which the condition of a LEVEL sense ends. -/
def Crack.ends (c : Crack) (l : Level) : Bool :=
  (c.qualifier.sampled l).qualifies c.config.n l
    && (c.config.sense.lasting && c.config.sense.sensed != some l && c.qualifier.level.isSome)

/-- An input's record after one sample. -/
def Crack.sampled (c : Crack) (l : Level) : Crack :=
  { c with
    qualifier :=
      if (c.qualifier.sampled l).qualifies c.config.n l then { c.qualifier.sampled l with level := some l } else c.qualifier.sampled l
    condition := if c.ends l then false else c.condition || (c.detects l && c.config.sense.lasting)
    detected := c.detected || c.detects l }

theorem State.updCrack_updCrack (s : State) (i : Fin 16) (f g : Crack → Crack) :
    (s.updCrack i f).updCrack i g = s.updCrack i fun c => g (f c) := by
  simp [State.updCrack, State.setCracks]

theorem State.updCrack_of_eq {s : State} {i : Fin 16} {f g : Crack → Crack} (h : f s.cracks[i] = g s.cracks[i]) :
    s.updCrack i f = s.updCrack i g := by
  rw [State.updCrack, State.updCrack, h]

theorem State.updCrack_clear_of_eq {s : State} {i : Fin 16} {f g : Crack → Crack} (h : f s.cracks[i] = g s.cracks[i]) {x : Source} :
    (s.updCrack i f).clear x = (s.updCrack i g).clear x := by
  rw [State.updCrack_of_eq h]

/-- A sample replaces the input's record, and hands over the raise of a detection or the clear of a condition that ends. -/
theorem State.sampleCrack_eq (s : State) (i : Fin 16) (l : Level) :
    s.sampleCrack i l =
      if s.cracks[i].detects l then (s.updCrack i fun c => c.sampled l).raiseCrack i s.cracks[i].config.sense.lasting
      else if s.cracks[i].ends l then (s.updCrack i fun c => c.sampled l).clear (.crack i)
      else s.updCrack i fun c => c.sampled l := by
  obtain ⟨c, record⟩ : ∃ c, c = s.cracks[i] := ⟨_, rfl⟩
  unfold State.sampleCrack
  dsimp only
  rw [← record]
  by_cases qualifies : (c.qualifier.sampled l).qualifies c.config.n l = true
  · rw [if_pos qualifies]
    unfold State.qualified
    have config : (s.updCrack i fun c' => { c' with qualifier := { c.qualifier.sampled l with level := some l } }).cracks[i].config
        = c.config := by
      rw [Fin.getElem_fin, State.updCrack_same, record]
    simp only [config, State.updCrack_updCrack]
    split
    · next lasting =>
      split
      · next sensed =>
        have detects : c.detects l = true := by simp [Crack.detects, qualifies, lasting, sensed]
        have ends : c.ends l = false := by simp [Crack.ends, sensed]
        rw [if_pos detects, lasting]
        congr 1
        refine State.updCrack_of_eq ?_
        rw [← record]
        simp [Crack.sampled, qualifies, detects, ends, lasting]
      · next unsensed =>
        have detects : c.detects l = false := by simp [Crack.detects, lasting, unsensed]
        split
        · next some =>
          have ends : c.ends l = true := by simp [Crack.ends, qualifies, lasting, unsensed, some]
          rw [if_neg (by simp [detects]), if_pos ends]
          refine State.updCrack_clear_of_eq ?_
          rw [← record]
          simp [Crack.sampled, qualifies, detects, ends]
        · next first =>
          have ends : c.ends l = false := by simp [Crack.ends, first]
          rw [if_neg (by simp [detects]), if_neg (by simp [ends])]
          refine State.updCrack_of_eq ?_
          rw [← record]
          simp [Crack.sampled, qualifies, detects, ends]
    · next momentary =>
      have ends : c.ends l = false := by simp [Crack.ends, momentary]
      split
      · next edge =>
        have detects : c.detects l = true := by simp [Crack.detects, qualifies, momentary, edge]
        rw [if_pos detects, Bool.eq_false_iff.mpr momentary]
        congr 1
        refine State.updCrack_of_eq ?_
        rw [← record]
        simp [Crack.sampled, qualifies, detects, ends, momentary]
      · next still =>
        have detects : c.detects l = false := by simp [Crack.detects, momentary, still]
        rw [if_neg (by simp [detects]), if_neg (by simp [ends])]
        refine State.updCrack_of_eq ?_
        rw [← record]
        simp [Crack.sampled, qualifies, detects, ends]
  · have notDetects : c.detects l = false := by simp [Crack.detects, qualifies]
    have notEnds : c.ends l = false := by simp [Crack.ends, qualifies]
    rw [if_neg qualifies, if_neg (by simp [notDetects]), if_neg (by simp [notEnds])]
    refine State.updCrack_of_eq ?_
    rw [← record]
    simp [Crack.sampled, qualifies, notDetects, notEnds]

/-! ### A property of the lists that other sources spare -/

/-- A property of the alarm lists that the raises and clears of other sources keep. -/
structure Spares (src : Source) (P : State → Prop) : Prop where
  of_zones {s t : State} : P s → t.zones = s.zones → P t
  raiseIn (s : State) (z : Fin 4) {r : Raise} (d : Bool) : r.source ≠ src → P s → P (s.raiseIn z r d)
  clearIn (s : State) (z : Fin 4) {x : Source} : x ≠ src → P s → P (s.clearIn z x)
  changeZone (s : State) (z : Fin 4) (st : ZoneState) (d : Bool) : P s → P (s.changeZone z st d)

namespace Spares
section
variable {src : Source} {P : State → Prop} (h : Spares src P)
include h

theorem raise (s : State) {r : Raise} (own : List (Fin 4)) (d : Bool) (other : r.source ≠ src) (hs : P s) : P (s.raise r own d) :=
  foldl_holds (fun z _ s => h.raiseIn s z d other) hs

theorem clear (s : State) {x : Source} (other : x ≠ src) (hs : P s) : P (s.clear x) :=
  foldl_holds (fun z _ s => h.clearIn s z other) hs

theorem clearStop (s : State) (other : src ≠ .stop) (hs : P s) : P s.clearStop := by
  have released : P ((s.clear .stop).setStopHold false) :=
    h.of_zones (h.clear s other.symm hs) (State.setStopHold_zones (s.clear .stop) false)
  unfold State.clearStop
  refine foldl_holds (P := P) (fun z _ s hs => ?_) released
  split
  · exact h.changeZone s z _ _ hs
  · exact hs

theorem sampleStop (s : State) (l : Level) (other : src ≠ .stop) (hs : P s) : P (s.sampleStop l) := by
  have line := h.of_zones (t := s.setStopLine (s.stopLine.after l)) hs rfl
  obtain ⟨run, -⟩ | ⟨run, -⟩ | ⟨run, -⟩ := s.sampleStop_cases l <;> rw [run]
  · exact line
  · exact h.raise _ _ _ other.symm (h.of_zones line rfl)
  · exact h.clearStop _ other line

theorem sampleCrack (s : State) (i : Fin 16) (l : Level) (other : src ≠ .crack i) (hs : P s) : P (s.sampleCrack i l) := by
  have record := h.of_zones (t := s.updCrack i fun c => c.sampled l) hs rfl
  rw [State.sampleCrack_eq]
  split
  · unfold State.raiseCrack
    dsimp only
    split
    · exact h.raise _ _ _ other.symm record
    · exact record
  · split
    · exact h.clear _ other.symm record
    · exact record

theorem sampleInputs (s : State) (ck : BitVec 16) (l : Level) (crack : ∀ i, src ≠ .crack i) (stop : src ≠ .stop) (hs : P s) :
    P (s.sampleInputs ck l) :=
  h.sampleStop _ l stop (foldl_holds (fun i _ s => h.sampleCrack s i _ (crack i)) hs)

theorem watchdogTick (s : State) (f : Fin 4) (late : src ≠ .frameLate f) (lost : src ≠ .frameLost f) (hs : P s) :
    P (s.watchdogTick f) := by
  unfold State.watchdogTick
  split
  · unfold State.expireDog
    split
    · exact h.raise _ _ _ late.symm (h.of_zones hs rfl)
    · exact h.raise _ _ _ lost.symm (h.of_zones hs rfl)
    · exact hs
    · exact hs
  · split
    · exact h.of_zones hs rfl
    · exact hs

theorem staleTick (s : State) (g : Fin 64) (other : src ≠ .gaugeFault g) (hs : P s) : P (s.staleTick g) := by
  by_cases counting : s.gauges[g].staleCounting = true
  · by_cases out : s.gauges[g].run.staleLeft.toNat ≤ 1
    · rw [State.staleTick_of_due counting out]
      split
      · exact h.of_zones hs rfl
      · exact h.raise _ _ _ other.symm (h.of_zones hs rfl)
    · rw [State.staleTick_of_counting counting (by omega)]
      exact h.of_zones hs rfl
  · rwa [State.staleTick_of_still (Bool.eq_false_iff.mpr counting)]

/-- What the acts of a count keep of a source that none of them raises, as long as the clear-timers keep it. -/
theorem countAct (a : CountArgs) {x : CountAct} (crack : ∀ i, src ≠ .crack i) (stop : src ≠ .stop) (fault : ∀ g, src ≠ .gaugeFault g)
    (late : ∀ f, src ≠ .frameLate f) (lost : ∀ f, src ≠ .frameLost f)
    (timer : ∀ z tag, x = .clearTimer z tag → ∀ s, P s → P (s.clearTimerTick z tag)) (s : State) (hs : P s) : P (s.countAct a x) := by
  cases x with
  | sample => exact h.sampleInputs s _ _ crack stop hs
  | watchdog f => exact h.watchdogTick s f (late f) (lost f) hs
  | stale g => exact h.staleTick s g (fault g) hs
  | clearTimer z tag => exact timer z tag rfl s hs
end
end Spares

/-- A property of one zone's entries that other sources spare. -/
theorem Spares.of_zone {src : Source} {Q : Zone → Prop} {z : Fin 4} (state : ∀ {x : Zone} (st : ZoneState), Q x → Q { x with state := st })
    (raised : ∀ {x : Zone} {r : Raise} {new spill : Entry} (hold : Bool), r.source ≠ src → new.source = r.source →
      spill.kind = .overflow → Q x → Q (x.raised hold r new spill))
    (clearedOf : ∀ {x : Zone} {y : Source} (hold : Bool), y ≠ src → Q x → Q (x.clearedOf hold y)) :
    Spares src fun s => Q s.zones[z] := by
  have moved {s t : State} {w : Fin 4} {f : Zone → Zone} (zones : t.zones = (s.updZone w f).zones) (keeps : ∀ x, Q x → Q (f x))
      (hs : Q s.zones[z]) : Q t.zones[z] := by
    rw [zones, State.updZone_get]
    split
    · next same => exact keeps _ (same ▸ hs)
    · exact hs
  exact {
    of_zones := fun hs zones => by rwa [zones]
    raiseIn := fun s w r d other => moved (s.raiseIn_zones w r d) fun x => raised _ other rfl rfl
    clearIn := fun s w x other => moved (s.clearIn_zones w x) fun y => clearedOf _ other
    changeZone := fun s w st d => moved (s.changeZone_zones w st d) fun x => state st }

end Sys2Proof.Machine


/-! What other sources spare of the lists, the clear-timers (R137, R138), the clears and the removals (R137, R139). -/
namespace Sys2Proof.Machine

theorem Spares.all {src : Source} {P : Fin 4 → State → Prop} (h : ∀ z, Spares src (P z)) : Spares src fun s => ∀ z, P z s where
  of_zones hs zones z := (h z).of_zones (hs z) zones
  raiseIn s w r d other hs z := (h z).raiseIn s w d other (hs z)
  clearIn s w x other hs z := (h z).clearIn s w other (hs z)
  changeZone s w st d hs z := (h z).changeZone s w st d (hs z)

/-- That a source has no active entry is spared by the others. -/
theorem Spares.inactive (src : Source) : Spares src (State.Inactive src) :=
  .all fun z => .of_zone (fun _ => id) (fun hold other source kind h => h.raised hold other source kind)
    fun hold _ h => h.clearedOf hold _

/-! ### No entry of a source -/

/-- No entry of the list is of the source. -/
def Zone.Lacks (src : Source) (x : Zone) : Prop := ∀ e ∈ x.entries, e.isOf src = false

section
variable {x : Zone} {src : Source}

theorem Zone.Lacks.without (h : x.Lacks src) (hold : Bool) (e : Entry) : (x.without hold e).Lacks src :=
  fun y mem => h y (Zone.mem_without mem)

theorem Zone.Lacks.foldl_without (h : x.Lacks src) (hold : Bool) (l : List Entry) :
    (l.foldl (fun y e => y.without hold e) x).Lacks src :=
  fun y mem => h y ((Zone.foldl_without_sublist l hold x).subset mem)

theorem Zone.Lacks.clearedOf (h : x.Lacks src) (hold : Bool) (y : Source) : (x.clearedOf hold y).Lacks src := by
  refine Zone.Lacks.foldl_without (fun e mem => ?_) hold _
  obtain ⟨e, listed, rfl⟩ := List.mem_map.mp mem
  split
  · exact h e listed
  · exact h e listed

theorem Zone.Lacks.raised {r : Raise} {new spill : Entry} (h : x.Lacks src) (hold : Bool) (other : r.source ≠ src)
    (source : new.source = r.source) (kind : spill.kind = .overflow) : (x.raised hold r new spill).Lacks src := by
  have escalated : (x.escalated r new spill).Lacks src :=
    Zone.takes_forall (Q := fun e => e.isOf src = false) h (fun _ => id) (fun e spilled _ => Entry.isOf_of_overflow (e := e.folded r) spilled src)
      (by simp [Entry.isOf, source, other]) (Entry.isOf_of_overflow kind src)
  unfold Zone.raised
  dsimp only
  split
  · exact escalated.without hold _
  · exact escalated
end

/-- That a list has no entry of a source is spared by the others. -/
theorem Spares.lacks (src : Source) (z : Fin 4) : Spares src fun s => s.zones[z].Lacks src :=
  .of_zone (fun _ => id) (fun hold other source kind h => h.raised hold other source kind) fun hold _ h => h.clearedOf hold _

/-! ### A source entry that stands -/

/-- The lists are lawful and the entry stands in the zone's. -/
def State.Stands (z : Fin 4) (e : Entry) (s : State) : Prop := s.ListsLawful ∧ e ∈ s.zones[z].entries

section
variable {x : Zone} {e : Entry}

theorem Zone.mem_without_of_other {y : Entry} (mem : e ∈ x.entries) (hold : Bool) (other : e.tag ≠ y.tag) :
    e ∈ (x.without hold y).entries := by
  refine (List.mem_eraseP_of_neg ?_).mpr mem
  simpa using other

theorem Zone.mem_foldl_without {l : List Entry} (mem : e ∈ x.entries) (hold : Bool) (other : ∀ y ∈ l, e.tag ≠ y.tag) :
    e ∈ (l.foldl (fun y e => y.without hold e) x).entries := by
  induction l generalizing x with
  | nil => exact mem
  | cons y l ih =>
    exact ih (Zone.mem_without_of_other mem hold (other y List.mem_cons_self)) fun w mem => other w (List.mem_cons_of_mem y mem)

theorem Zone.mem_clearedOf {y : Source} (mem : e ∈ x.entries) (hold : Bool) (distinct : x.tags.Nodup) (other : e.isOf y = false) :
    e ∈ (x.clearedOf hold y).entries := by
  refine Zone.mem_foldl_without (List.mem_map.mpr ⟨e, mem, by simp [other]⟩) hold fun w gone same => ?_
  obtain ⟨listed, own⟩ := List.mem_filter.mp gone
  have : e = w := inj_of_nodup_map distinct mem listed same
  simp [← this, other] at own

theorem Zone.mem_raised {r : Raise} {new spill : Entry} (mem : e ∈ x.entries) (hold : Bool) (source : e.kind = .source)
    (other : r.source ≠ e.source) (free : new.tag ≠ e.tag) : e ∈ (x.raised hold r new spill).entries := by
  have notOf : e.isOf r.source = false := by simp [Entry.isOf, other.symm]
  have taken : e ∈ (x.takes r new spill).1 ∧ ((x.takes r new spill).2.2 = true → (x.takes r new spill).2.1 = new) := by
    obtain ⟨y, -, h⟩ | ⟨-, -, h⟩ | ⟨-, -, y, -, h⟩ | ⟨-, -, -, h⟩ := x.takes_cases r new spill <;> rw [h]
    · exact ⟨List.mem_map.mpr ⟨e, mem, by simp [notOf]⟩, nofun⟩
    · exact ⟨List.mem_append_left _ mem, fun _ => rfl⟩
    · exact ⟨List.mem_map.mpr ⟨e, mem, by simp [source]⟩, nofun⟩
    · exact ⟨List.mem_append_left _ mem, nofun⟩
  unfold Zone.raised
  dsimp only
  split
  · next gone =>
    simp only [Bool.and_eq_true] at gone
    exact Zone.mem_without_of_other taken.1 hold (by rw [taken.2 gone.1.1]; exact free.symm)
  · exact taken.1
end

/-- A source entry stands through the raises and clears of other sources. -/
theorem Spares.stands {e : Entry} (source : e.kind = .source) (z : Fin 4) : Spares e.source (State.Stands z e) where
  of_zones hs zones := ⟨hs.1.of_eq zones, by rw [zones]; exact hs.2⟩
  raiseIn s w r d other hs := by
    refine ⟨hs.1.raiseIn w r d, ?_⟩
    rw [State.raiseIn_zones, State.updZone_get]
    split
    · next same =>
      subst same
      exact Zone.mem_raised hs.2 _ source other fun used =>
        hs.1.nextTag_free.2 (State.tags_used (List.mem_map.mpr ⟨e, hs.2, used.symm⟩))
    · exact hs.2
  clearIn s w x other hs := by
    refine ⟨hs.1.clearIn w x, ?_⟩
    rw [State.clearIn_zones, State.updZone_get]
    split
    · next same =>
      subst same
      exact Zone.mem_clearedOf hs.2 _ (hs.1.becomes_self w).nodup (by simp [Entry.isOf, other.symm])
    · exact hs.2
  changeZone s w st d hs := by
    refine ⟨hs.1.changeZone w st d, ?_⟩
    rw [State.changeZone_zones, State.updZone_get]
    split
    · next same => subst same; exact hs.2
    · exact hs.2

end Sys2Proof.Machine


/-! The clears and the removals (R137 to R139): by the entry's method, at its clear-timer, at a boundary. -/
namespace Sys2Proof.Machine

/-! ### One list (R137, R139) -/

section
variable {x : Zone} {pre post : List Entry} {e : Entry}

/-- The other entries of a lawful list carry another tag, and are of another source. -/
theorem Zone.others_apart (lawful : x.Lawful) (distinct : x.tags.Nodup) (entries : x.entries = pre ++ e :: post) :
    (∀ y ∈ pre ++ post, y.tag ≠ e.tag) ∧ ∀ src, e.isOf src = true → ∀ y ∈ pre ++ post, y.isOf src = false := by
  have tags : ∀ y ∈ pre ++ post, y.tag ≠ e.tag := by
    rw [Zone.tags, entries, List.map_append, List.map_cons, nodup_middle, List.nodup_cons, ← List.map_append] at distinct
    exact fun y mem same => distinct.1 (List.mem_map.mpr ⟨y, mem, same⟩)
  refine ⟨tags, fun src own y mem => ?_⟩
  refine Bool.eq_false_iff.mpr fun same => tags y mem (congrArg Entry.tag ?_)
  simp only [Entry.isOf, Bool.and_eq_true, beq_iff_eq] at own same
  have listed : y ∈ x.entries := by
    rw [entries]
    obtain before | after := List.mem_append.mp mem
    · exact List.mem_append_left _ before
    · exact List.mem_append_right _ (List.mem_cons_of_mem e after)
  refine inj_of_nodup_map lawful.2.1 (List.mem_filter.mpr ⟨listed, ?_⟩) (List.mem_filter.mpr ⟨?_, ?_⟩) (same.2.trans own.2.symm)
  · simpa using same.1
  · simp [entries]
  · simpa using own.1

/-- Taking entries out by their distinct tags takes out exactly these. -/
theorem foldl_eraseP_filter {l : List Entry} (distinct : (l.map Entry.tag).Nodup) (p : Entry → Bool) :
    (l.filter p).foldl (fun m e => m.eraseP fun y => y.tag == e.tag) l = l.filter fun e => !p e := by
  have past {y : Entry} {gone : List Entry} (apart : ∀ e ∈ gone, y.tag ≠ e.tag) (m : List Entry) :
      gone.foldl (fun m e => m.eraseP fun y => y.tag == e.tag) (y :: m)
        = y :: gone.foldl (fun m e => m.eraseP fun y => y.tag == e.tag) m := by
    induction gone generalizing m with
    | nil => rfl
    | cons e gone ih =>
      rw [List.foldl_cons, List.eraseP_cons_of_neg (by simpa using apart e List.mem_cons_self), List.foldl_cons]
      exact ih (fun w mem => apart w (List.mem_cons_of_mem e mem)) _
  induction l with
  | nil => rfl
  | cons y l ih =>
    obtain ⟨first, distinct⟩ := List.nodup_cons.mp distinct
    by_cases taken : p y = true
    · simpa [taken] using ih distinct
    · simp only [List.filter_cons, taken, Bool.false_eq_true, if_false, Bool.not_false, if_true]
      rw [past (fun e mem same => first (List.mem_map.mpr ⟨e, (List.mem_filter.mp mem).1, same.symm⟩)), ih distinct]

theorem Zone.foldl_without_entries (l : List Entry) (hold : Bool) (x : Zone) :
    (l.foldl (fun y e => y.without hold e) x).entries = l.foldl (fun m e => m.eraseP fun y => y.tag == e.tag) x.entries := by
  induction l generalizing x with
  | nil => rfl
  | cons e l ih => exact ih _

/-- The boundary notice takes the entries that await it out of a list with distinct tags. -/
theorem Zone.boundaryCleared_entries (distinct : x.tags.Nodup) (hold : Bool) :
    (x.boundaryCleared hold).entries = x.entries.filter fun e => !e.boundaryDue := by
  rw [Zone.boundaryCleared, Zone.foldl_without_entries, foldl_eraseP_filter distinct]
end

/-! ### A clear, by the entry's method (R137) -/

/-- Writing a zone's entries back changes nothing. -/
theorem State.relist_self (s : State) (z : Fin 4) :
    ({ s with zones := s.zones.set z { s.zones[z] with entries := s.zones[z].entries } } : State) = s :=
  congrArg (fun v => ({ s with zones := v } : State)) (Vector.set_getElem_self z.isLt)

/-- A clear does nothing to a list without an entry of the source. -/
theorem State.clearIn_of_lacks {s : State} {z : Fin 4} {x : Source} (lacks : s.zones[z].Lacks x) : s.clearIn z x = s := by
  have gone : (s.zones[z].entries.filter fun e => e.isOf x && e.condition && e.method == .auto) = [] :=
    List.filter_eq_nil_iff.mpr fun e mem => by simp [lacks e mem]
  have same : (s.zones[z].entries.map fun e => if e.isOf x then e.cleared else e) = s.zones[z].entries := by
    refine (List.map_congr_left fun e mem => ?_).trans (List.map_id _)
    simp [lacks e mem]
  unfold State.clearIn
  dsimp only
  rw [gone, List.foldl_nil, State.updZone, same]
  exact s.relist_self z

section
variable {s : State} (lawful : s.ListsLawful) {z : Fin 4} {pre post : List Entry} {e : Entry}
  (entries : s.zones[z].entries = pre ++ e :: post) {x : Source} (own : e.isOf x = true)
include lawful entries own

/-- A clear acts on the source's one entry in the list. -/
theorem State.clearIn_eq :
    s.clearIn z x =
      let out := s.updZone z fun y => { y with entries := pre ++ e.cleared :: post }
      if e.condition && e.method == .auto then out.removeEntry z e .auto false else out := by
  obtain ⟨-, apart⟩ := Zone.others_apart (lawful.becomes_self z).lawful (lawful.becomes_self z).nodup entries
  have before : ∀ y ∈ pre, y.isOf x = false := fun y mem => apart x own y (List.mem_append_left _ mem)
  have after : ∀ y ∈ post, y.isOf x = false := fun y mem => apart x own y (List.mem_append_right _ mem)
  have gone : (s.zones[z].entries.filter fun e => e.isOf x && e.condition && e.method == .auto)
      = if e.condition && e.method == .auto then [e] else [] := by
    have pre_none : (pre.filter fun e => e.isOf x && e.condition && e.method == .auto) = [] :=
      List.filter_eq_nil_iff.mpr fun y mem => by simp [before y mem]
    have post_none : (post.filter fun e => e.isOf x && e.condition && e.method == .auto) = [] :=
      List.filter_eq_nil_iff.mpr fun y mem => by simp [after y mem]
    rw [entries, List.filter_append, List.filter_cons, pre_none, post_none, own]
    simp
  have mapped : (s.zones[z].entries.map fun e => if e.isOf x then e.cleared else e) = pre ++ e.cleared :: post := by
    rw [entries, List.map_append, List.map_cons, own]
    congr 1
    · exact (List.map_congr_left fun y mem => by simp [before y mem]).trans (List.map_id _)
    · congr 1
      exact (List.map_congr_left fun y mem => by simp [after y mem]).trans (List.map_id _)
  unfold State.clearIn
  dsimp only
  rw [gone, State.updZone, mapped]
  split <;> rfl

theorem State.clearIn_auto (active : e.condition = true) (auto : e.method = .auto) :
    s.clearIn z x = s.removeEntry z e .auto false := by
  have unnamed : ∀ y ∈ pre, y.tag ≠ e.tag := fun y mem =>
    (Zone.others_apart (lawful.becomes_self z).lawful (lawful.becomes_self z).nodup entries).1 y (List.mem_append_left _ mem)
  rw [State.clearIn_eq lawful entries own]
  dsimp only
  rw [if_pos (by simp [active, auto])]
  let out := s.updZone z fun y => { y with entries := pre ++ e.cleared :: post }
  have cleared : out = s.updZone z fun y => { y with entries := pre ++ e.cleared :: post } := rfl
  have listed : out.zones[z].entries = pre ++ e.cleared :: post := by simp [cleared, State.updZone]
  have gone := State.removeEntry_told listed (e := e.cleared) unnamed .auto false
  have taken := State.removeEntry_told entries unnamed .auto false
  rw [show out.removeEntry z e .auto false = out.removeEntry z e.cleared .auto false from rfl, gone, taken]
  have state : out.zones[z].state = s.zones[z].state := by simp [cleared, State.updZone]
  have same : ({ out with zones := out.zones.set z { out.zones[z] with entries := pre ++ post } } : State)
      = { s with zones := s.zones.set z { s.zones[z] with entries := pre ++ post } } := by
    simp [cleared, State.updZone, State.setZones]
  rw [same, state]
  rfl

/-- The entry of another method stays, with the condition clear. -/
theorem State.clearIn_kept (other : e.method ≠ .auto ∨ e.condition = false) :
    s.clearIn z x = { s with zones := s.zones.set z { s.zones[z] with entries := pre ++ e.cleared :: post } } := by
  rw [State.clearIn_eq lawful entries own]
  dsimp only
  rw [if_neg (by simp only [Bool.and_eq_true, beq_iff_eq]; rintro ⟨active, auto⟩; simp_all)]
  rfl

theorem State.clearIn_timed (active : e.condition = true) (timed : e.method = .timed) :
    s.clearIn z x =
      { s with
        zones := s.zones.set z
          { s.zones[z] with
            entries := pre ++ { e with condition := false, timer := BitVec.ofNat 32 (e.seconds.toNat * 1000) } :: post } } := by
  rw [State.clearIn_kept lawful entries own (.inl (by simp [timed])), Entry.cleared, if_pos ⟨active, timed⟩]
  rfl

theorem State.clearIn_left (untimed : e.method = .manual ∨ e.method = .boundary) :
    s.clearIn z x =
      { s with zones := s.zones.set z { s.zones[z] with entries := pre ++ { e with condition := false } :: post } } := by
  rw [State.clearIn_kept lawful entries own (.inl (by rintro auto; simp [auto] at untimed)), Entry.cleared,
    if_neg (by rintro ⟨-, timed⟩; simp [timed] at untimed)]

theorem State.clearIn_repeated (clear : e.condition = false) : s.clearIn z x = s := by
  have same : e.cleared = e := by
    rw [Entry.cleared, if_neg (by simp [clear])]
    simp [← clear]
  rw [State.clearIn_kept lawful entries own (.inr clear), same, ← entries]
  exact s.relist_self z
end

end Sys2Proof.Machine


/-! The clear-timer at a count, the removals at a boundary (R138, R139), and O51. -/
namespace Sys2Proof.Machine

/-! ### The clear-timer of an entry (R138) -/

section
variable {s : State} {z : Fin 4} {e : Entry}

/-- The tag of an entry that stands names it. -/
theorem State.Stands.found (h : s.Stands z e) : s.entry? z e.tag = some e := by
  rw [State.entry?, List.find?_eq_some_iff_append]
  obtain ⟨pre, post, entries⟩ := List.append_of_mem h.2
  have apart := (Zone.others_apart (h.1.becomes_self z).lawful (h.1.becomes_self z).nodup entries).1
  exact ⟨by simp, pre, post, entries, fun y mem => by simpa using apart y (List.mem_append_left _ mem)⟩

theorem State.clearTimerTick_of_due (found : s.entry? z e.tag = some e) (due : e.due = true) :
    s.clearTimerTick z e.tag = s.removeEntry z e .timed false := by
  simp only [State.clearTimerTick, found, due, if_true]

theorem State.clearTimerTick_of_timing (found : s.entry? z e.tag = some e) (left : e.due = false) (timing : e.timing = true) :
    s.clearTimerTick z e.tag = s.updZone z fun x =>
      { x with entries := x.entries.map fun y => if y.tag = e.tag then { y with timer := y.timer - 1#32 } else y } := by
  simp only [State.clearTimerTick, found, left, timing, Bool.false_eq_true, if_false, if_true]

/-- A removal takes the one entry of the source out of its list. -/
theorem State.Stands.removed (h : s.Stands z e) (source : e.kind = .source) (m : Method) (d : Bool) :
    (s.removeEntry z e m d).zones[z].Lacks e.source := by
  obtain ⟨pre, post, entries⟩ := List.append_of_mem h.2
  obtain ⟨tags, apart⟩ := Zone.others_apart (h.1.becomes_self z).lawful (h.1.becomes_self z).nodup entries
  rw [State.removeEntry_returned entries fun y mem => tags y (List.mem_append_left _ mem)]
  simpa [Zone.Lacks, Zone.returned] using apart e.source (by simp [Entry.isOf, source])

/-- The clear-timer's decrement leaves the entry standing with 1 ms less. -/
theorem State.Stands.ticked (h : s.Stands z e) (left : e.due = false) (timing : e.timing = true) :
    (s.clearTimerTick z e.tag).Stands z { e with timer := e.timer - 1#32 } := by
  rw [State.clearTimerTick_of_timing h.found left timing]
  refine ⟨h.1.of_updZone rfl ((h.1.becomes_self z).of_map fun y => ?_), ?_⟩
  · split <;> exact ⟨rfl, rfl, fun _ => rfl⟩
  · rw [State.updZone_get, if_pos rfl]
    exact List.mem_map.mpr ⟨e, h.2, if_pos rfl⟩

/-- A removal keeps the lists lawful. -/
theorem State.ListsLawful.removeEntry (h : s.ListsLawful) (w : Fin 4) (y : Entry) (m : Method) (d : Bool) :
    (s.removeEntry w y m d).ListsLawful :=
  h.of_updZone (s.removeEntry_zones w y m d) ((h.becomes_self w).of_sublist (Zone.without_entries_sublist _ _ _))

/-- The tick of another entry's clear-timer leaves the entry standing. -/
theorem State.Stands.other (h : s.Stands z e) {w : Fin 4} {tag : Half} (other : ¬ (w = z ∧ tag = e.tag)) :
    (s.clearTimerTick w tag).Stands z e := by
  unfold State.clearTimerTick
  split
  · exact h
  · next y found =>
    have named : y.tag = tag := by simpa using List.find?_some found
    split
    · refine ⟨h.1.removeEntry w y _ _, ?_⟩
      rw [State.removeEntry_zones, State.updZone_get]
      split
      · next same =>
        subst same
        exact Zone.mem_without_of_other h.2 _ fun same => other ⟨rfl, named.symm.trans same.symm⟩
      · exact h.2
    · split
      · refine ⟨h.1.of_updZone rfl ((h.1.becomes_self w).of_map fun y => ?_), ?_⟩
        · split <;> exact ⟨rfl, rfl, fun _ => rfl⟩
        · rw [State.updZone_get]
          split
          · next same =>
            subst same
            exact List.mem_map.mpr ⟨e, h.2, if_neg fun same => other ⟨rfl, same.symm⟩⟩
          · exact h.2
      · exact h

theorem State.lacks_of_updZone {src : Source} (h : s.zones[z].Lacks src) {t : State} {w : Fin 4} {f : Zone → Zone}
    (zones : t.zones = (s.updZone w f).zones) (keeps : ∀ x : Zone, x.Lacks src → (f x).Lacks src) : t.zones[z].Lacks src := by
  rw [zones, State.updZone_get]
  split
  · next same => subst same; exact keeps _ h
  · exact h

/-- The ticks of the clear-timers bring no entry. -/
theorem State.lacks_clearTimerTick {src : Source} (h : s.zones[z].Lacks src) (w : Fin 4) (tag : Half) :
    (s.clearTimerTick w tag).zones[z].Lacks src := by
  unfold State.clearTimerTick
  split
  · exact h
  · split
    · exact State.lacks_of_updZone h (s.removeEntry_zones w _ _ _) fun x lacks => lacks.without _ _
    · split
      · refine State.lacks_of_updZone h rfl fun x lacks y mem => ?_
        obtain ⟨y, listed, rfl⟩ := List.mem_map.mp mem
        split <;> exact lacks y listed
      · exact h
end

/-- The clear-timers of a count: those of the entries whose timer runs, each once. -/
theorem State.countActs_clearTimer {s : State} (lawful : s.ListsLawful) (z : Fin 4) (tag : Half) :
    (CountAct.clearTimer z tag ∈ s.countActs ↔ ∃ e ∈ s.zones[z].entries, e.timing = true ∧ e.tag = tag)
      ∧ s.countActs.count (.clearTimer z tag) ≤ 1 := by
  have every : ∀ z : Fin 4, z ∈ allZones := by decide
  have dogs : CountAct.clearTimer z tag ∉ ((List.finRange 4).filter fun f => s.frames[f].counting).map CountAct.watchdog := by simp
  have stales : CountAct.clearTimer z tag ∉ ((List.finRange 64).filter fun g => s.gauges[g].staleCounting).map CountAct.stale := by
    simp
  constructor
  · have named (w : Fin 4) : CountAct.clearTimer z tag ∈ s.timersOf w ↔
        w = z ∧ ∃ e ∈ s.zones[w].entries, e.timing = true ∧ e.tag = tag := by
      simp only [State.timersOf, List.mem_map, List.mem_filter, CountAct.clearTimer.injEq]
      exact ⟨fun ⟨e, ⟨mem, timing⟩, at_, tagged⟩ => ⟨at_, e, mem, timing, tagged⟩,
        fun ⟨at_, e, mem, timing, tagged⟩ => ⟨e, ⟨mem, timing⟩, at_, tagged⟩⟩
    have acts : CountAct.clearTimer z tag ∈ s.countActs ↔ CountAct.clearTimer z tag ∈ allZones.flatMap s.timersOf := by
      simp only [State.countActs, List.mem_append, dogs, stales, false_or, or_false, List.mem_singleton, reduceCtorEq]
    rw [acts, List.mem_flatMap]
    constructor
    · rintro ⟨w, -, act⟩
      obtain ⟨rfl, entry⟩ := (named w).mp act
      exact entry
    · exact fun entry => ⟨z, every z, (named z).mpr ⟨rfl, entry⟩⟩
  · rw [State.countActs, List.count_append, List.count_append, List.count_append, List.count_eq_zero.mpr dogs,
      List.count_eq_zero.mpr stales, List.count_eq_zero.mpr (by simp : CountAct.clearTimer z tag ∉ [.sample])]
    simp only [Nat.zero_add]
    refine List.nodup_iff_count.mp (List.pairwise_flatMap.mpr ⟨fun w _ => ?_, ?_⟩) _
    · have distinct := ((lawful.becomes_self w).nodup.sublist (List.filter_sublist.map Entry.tag) :
        ((s.zones[w].entries.filter Entry.timing).map Entry.tag).Nodup)
      have tagged := List.Pairwise.map (S := (· ≠ ·)) (CountAct.clearTimer w) (fun _ _ apart same => apart (CountAct.clearTimer.inj same).2) distinct
      rwa [List.map_map] at tagged
    · refine List.Pairwise.imp (fun {v w} apart => ?_) (by decide : allZones.Nodup)
      intro act one act' other same
      obtain ⟨y, -, rfl⟩ := List.mem_map.mp one
      obtain ⟨x, -, rfl⟩ := List.mem_map.mp other
      exact apart (CountAct.clearTimer.inj same).1

/-- The sources that no act of a count raises. -/
def Source.uncounted : Source → Prop
  | .crack _ | .stop | .gaugeFault _ | .frameLate _ | .frameLost _ => False
  | .restart _ | .gaugeWindow _ | .gaugeDrift _ | .tracking _ | .overforce _ | .stroke _ | .frameTrip _ => True

theorem Spares.countAct_of_uncounted {src : Source} {P : State → Prop} (h : Spares src P) (uncounted : src.uncounted) (a : CountArgs)
    {x : CountAct} (timer : ∀ z tag, x = .clearTimer z tag → ∀ s, P s → P (s.clearTimerTick z tag)) (s : State) (hs : P s) :
    P (s.countAct a x) := by
  refine h.countAct a ?_ ?_ ?_ ?_ ?_ timer s hs
  all_goals
    intros
    rintro rfl
    exact uncounted

/-- A count takes the tick of a running clear-timer where the entry still stands, and no other act brings an entry of its source. -/
theorem State.referenceCount_clearTimer {s : State} (lawful : s.ListsLawful) {z : Fin 4} {e : Entry} (mem : e ∈ s.zones[z].entries)
    (source : e.kind = .source) (timing : e.timing = true) (uncounted : e.source.uncounted) (a : CountArgs) :
    (e.due = false → { e with timer := e.timer - 1#32 } ∈ (s.referenceCount a).zones[z].entries)
      ∧ (e.due = true → (s.referenceCount a).zones[z].Lacks e.source) := by
  obtain ⟨acts, once⟩ := State.countActs_clearTimer lawful z e.tag
  obtain ⟨earlier, later, split, before, after⟩ :=
    State.countSchedule_split (a := a) (acts.mpr ⟨e, mem, timing, rfl⟩) once
  have other {l : List CountAct} (apart : CountAct.clearTimer z e.tag ∉ l) {y : Entry} (tag : y.tag = e.tag)
      (kind : y.kind = .source) (counted : y.source.uncounted) {t : State} (stands : t.Stands z y) :
      (l.foldl (fun v x => v.countAct a x) t).Stands z y := by
    refine foldl_holds (P := State.Stands z y) (fun x mem t stands => ?_) stands
    refine (Spares.stands kind z).countAct_of_uncounted counted a (fun w named act t stands => stands.other ?_) t stands
    rintro ⟨rfl, rfl⟩
    exact apart (by rwa [← tag, ← act])
  have start : (s.setStamp (s.stamp + 1#32)).Stands z e := ⟨lawful.of_eq rfl, mem⟩
  have reached := other before rfl source uncounted start
  have run : s.referenceCount a = later.foldl (fun v x => v.countAct a x)
      ((earlier.foldl (fun v x => v.countAct a x) (s.setStamp (s.stamp + 1#32))).clearTimerTick z e.tag) := by
    rw [State.referenceCount, split, List.foldl_append, List.foldl_cons]
    rfl
  constructor
  · intro left
    rw [run]
    exact (other after (y := { e with timer := e.timer - 1#32 }) rfl source uncounted (reached.ticked left timing)).2
  · intro due
    rw [run, State.clearTimerTick_of_due reached.found due]
    refine foldl_holds (P := fun t : State => t.zones[z].Lacks e.source) (fun x _ t lacks => ?_) (reached.removed source _ _)
    exact (Spares.lacks e.source z).countAct_of_uncounted uncounted a (fun w tag _ t lacks => State.lacks_clearTimerTick lacks w tag)
      t lacks

/-! ### The removals of a boundary (R139) -/

theorem State.boundaryRemovalIn_entries {s : State} {z : Fin 4} (distinct : s.zones[z].tags.Nodup) (w : Fin 4) :
    (s.boundaryRemovalIn w).zones[z].entries
      = if w = z then s.zones[z].entries.filter fun e => !e.boundaryDue else s.zones[z].entries := by
  rw [State.boundaryRemovalIn_zones, State.updZone_get]
  split
  · next same => subst same; exact Zone.boundaryCleared_entries distinct _
  · rfl

/-- The notice takes the entries that await it, and these alone, out of every list. -/
theorem State.boundaryRemovals_entries {s : State} (distinct : ∀ z : Fin 4, s.zones[z].tags.Nodup) (z : Fin 4) :
    s.boundaryRemovals.zones[z].entries = s.zones[z].entries.filter fun e => !e.boundaryDue := by
  have every : ∀ z : Fin 4, z ∈ allZones := by decide
  refine (foldl_establishes (f := State.boundaryRemovalIn)
    (I := fun t => ∀ w : Fin 4, t.zones[w].tags.Nodup
      ∧ (t.zones[w].entries.filter fun e => !e.boundaryDue) = s.zones[w].entries.filter fun e => !e.boundaryDue)
    (D := fun w t => t.zones[w].entries = s.zones[w].entries.filter fun e => !e.boundaryDue) ?_ ?_ ?_ allZones
    fun w => ⟨distinct w, rfl⟩).2 z (.inl (every z))
  · intro t v reached w
    obtain ⟨nodup, same⟩ := reached w
    have turned := State.boundaryRemovalIn_entries nodup v
    rw [Zone.tags, turned]
    split
    · exact ⟨nodup.sublist (List.filter_sublist.map _), by rw [List.filter_filter]; simpa using same⟩
    · exact ⟨nodup, same⟩
  · intro t v reached
    rw [State.boundaryRemovalIn_entries (reached v).1, if_pos rfl]
    exact (reached v).2
  · intro t v w reached done
    rw [State.boundaryRemovalIn_entries (reached w).1]
    split
    · exact (reached w).2
    · exact done

/-- What an update does up to a boundary's notice leaves the lists. -/
theorem State.arrive_entries (s : State) (d : Int) (z : Fin 4) : (s.arrive d).zones[z].entries = s.zones[z].entries := by
  refine foldl_keeps (π := fun s : State => s.zones[z].entries) (fun w _ s => ?_) s
  have changed (st : ZoneState) : (s.changeZone w st false).zones[z].entries = s.zones[z].entries := by
    rw [State.changeZone_zones, State.updZone_get]
    split
    · next same => rw [same]
    · rfl
  unfold State.arriveIn
  split
  · exact changed _
  · split
    · exact changed _
    · rfl

/-- A field that the generator's part of an update does not write stays over it. -/
theorem generates_of_field {α : Type} (π : State → α) (setGen : ∀ s x, π (s.setGen x) = π s := by intros; rfl)
    (setPorts : ∀ s x, π (s.setPorts x) = π s := by intros; rfl) (setQueue : ∀ s x, π (s.setQueue x) = π s := by intros; rfl)
    (setActiveSet : ∀ s x, π (s.setActiveSet x) = π s := by intros; rfl)
    (setCommit : ∀ s x, π (s.setCommit x) = π s := by intros; rfl) : Generates fun s t => π t = π s where
  refl _ := rfl
  trans h k := k.trans h
  setGen := setGen
  addEvent _ _ := setPorts _ _
  record _ _ := setQueue _ _
  setActiveSet := setActiveSet
  setCommit := setCommit

theorem State.updateGenerator_zones (s : State) : s.updateGenerator.zones = s.zones :=
  (generates_of_field State.zones).updateGenerator s

/-- An update's report leaves the lists. -/
theorem State.reported_entries (s : State) (z : Fin 4) :
    (s.updateSetpoints.arrive s.updateDemand).zones[z].entries = s.zones[z].entries := by
  rw [State.arrive_entries]
  exact congrArg (fun v : Vector Zone 4 => v[z].entries) s.updateGenerator_zones

theorem State.removalDue_iff (s : State) :
    s.removalDue = true ↔ ∃ z : Fin 4, ∃ e ∈ s.zones[z].entries, e.method = .boundary ∧ e.condition = false := by
  have every : ∀ z : Fin 4, z ∈ allZones := by decide
  simp [State.removalDue, Entry.boundaryDue, every]

/-- A clear-timer taken alone and first: the removal, and then the count's other events. -/
theorem State.referenceCount_of_first {s : State} {z : Fin 4} {e : Entry} {a : CountArgs} (found : s.entry? z e.tag = some e)
    (due : e.due = true) (order : a.order = [.clearTimer z e.tag]) :
    s.referenceCount a = (s.countActs.filter fun x => !a.order.contains x).foldl (fun u x => u.countAct a x)
      ((s.setStamp (s.stamp + 1#32)).removeEntry z e .timed false) := by
  have first : s.countSchedule a = .clearTimer z e.tag :: s.countActs.filter fun x => !a.order.contains x := by
    simp [State.countSchedule, order, List.eraseDups_cons]
  rw [State.referenceCount, first, List.foldl_cons, State.countAct,
    State.clearTimerTick_of_due (s := s.setStamp (s.stamp + 1#32)) (by exact found) due]

/-- A clear reaches the four lists in ascending order. -/
theorem State.clear_eq (s : State) (x : Source) : s.clear x = (((s.clearIn 0 x).clearIn 1 x).clearIn 2 x).clearIn 3 x := by
  have zones : allZones = [0, 1, 2, 3] := by decide
  rw [State.clear, zones, List.foldl_cons, List.foldl_cons, List.foldl_cons, List.foldl_cons, List.foldl_nil]

/-- Settles O51: the clear-timer taken first and in any order, the clear by the entry's method, the removal, and the removals of a
boundary. -/
theorem timedAndBoundaryRemovals : Obligations.TimedAndBoundaryRemovals := by
  intro s
  refine ⟨fun z e a found timed clear out order => ?first, fun lawful z a e mem source timed clear uncounted => ?timed, s.clear_eq,
    fun z x lacks => State.clearIn_of_lacks lacks, fun lawful z x pre post e entries own => ?cleared,
    fun z e m late pre post entries unnamed => State.removeEntry_eq entries unnamed m late, fun carries waits => ?boundary⟩
  case first =>
    have timing : e.timing = true := by simp [Entry.timing, timed, clear]
    have due : e.due = true := by simp [Entry.due, timing, out]
    have found : s.entry? z e.tag = some e := found
    have now : ((s.entry? z e.tag).any Entry.due) = true := by rw [found]; exact due
    refine ⟨s.countActs.filter fun x => !a.order.contains x, ?_, ?_, ?_⟩
    · exact congrArg Host.Outcome.next ((if_pos now).trans (State.referenceCount_of_first found due order))
    · exact List.mem_filter.mpr ⟨s.countActs_sample.1, by simp [order]⟩
    · simp [order]
  case timed =>
    have timing : e.timing = true := by simp [Entry.timing, timed, clear]
    obtain ⟨runs, leaves⟩ := State.referenceCount_clearTimer lawful mem source timing uncounted a
    have found : s.entry? z e.tag = some e := State.Stands.found ⟨lawful, mem⟩
    have now : ((s.entry? z e.tag).any Entry.due) = e.due := by rw [found]; rfl
    refine ⟨_, rfl, fun left => ?_, fun out => ?_⟩
    · have left : e.due = false := by simp [Entry.due, timing]; omega
      exact ⟨runs left, congrArg Host.Outcome.next (if_neg (by rw [now, left]; decide))⟩
    · have due : e.due = true := by simp [Entry.due, timing, out]
      exact ⟨congrArg Host.Outcome.next (if_pos (by rw [now, due])), leaves due⟩
  case cleared =>
    exact ⟨State.clearIn_auto lawful entries own, State.clearIn_timed lawful entries own,
      fun _ => State.clearIn_left lawful entries own, State.clearIn_repeated lawful entries own⟩
  case boundary =>
    have due : (s.gen.carries && s.removalDue) = true := by rw [carries, s.removalDue_iff.mpr waits]; rfl
    refine ⟨congrArg Host.Outcome.next ((if_pos due).trans (if_pos carries)), fun lawful z => ?_⟩
    have entries := s.reported_entries
    rw [State.boundaryRemovals_entries (fun w => by rw [Zone.tags, entries]; exact (lawful.becomes_self w).nodup), entries]
    rfl

end Sys2Proof.Machine


/-! Zone protection does not read the records of the gauges, the links, the frames, the supervision and the inputs: its operations
commute with a change of these (`Unread`). -/
namespace Sys2Proof.Machine

/-- The state with the records that zone protection does not read taken from another one. -/
def State.aside (s x : State) : State :=
  { s with
    supervision := x.supervision, frames := x.frames, gauges := x.gauges, links := x.links, cracks := x.cracks
    stopLine := x.stopLine }

theorem Unread.of_aside (x : State) : Unread fun s => s.aside x := by
  constructor <;> intros <;> rfl

theorem State.raise_aside (s x : State) (r : Raise) (own : List (Fin 4)) (d : Bool) :
    (s.aside x).raise r own d = (s.raise r own d).aside x :=
  (Unread.of_aside x).raise s r own d

theorem State.clear_aside (s x : State) (y : Source) : (s.aside x).clear y = (s.clear y).aside x :=
  (Unread.of_aside x).clear s y

/-- What commutes with `aside` commutes with a change of one of the records. -/
theorem commutes_of_aside {f g : State → State} (h : ∀ s x, f (State.aside s x) = (f s).aside x)
    (own : ∀ s, g s = s.aside (g s) := by intros; rfl) (rest : ∀ s t : State, t.aside (g s) = g (t.aside s) := by intros; rfl)
    (s : State) : f (g s) = g (f s) :=
  calc f (g s) = f (s.aside (g s)) := congrArg f (own s)
    _ = (f s).aside (g s) := h s (g s)
    _ = g ((f s).aside s) := rest s (f s)
    _ = g (f s) := congrArg g (h s s).symm

section
variable {f : State → State} (h : ∀ s x, f (State.aside s x) = (f s).aside x) (s : State)
include h

theorem commutes_setCracks (c : Vector Crack 16) : f (s.setCracks c) = (f s).setCracks c :=
  commutes_of_aside (g := fun s => s.setCracks c) h (s := s)

theorem commutes_setStopLine (x : StopLine) : f (s.setStopLine x) = (f s).setStopLine x :=
  commutes_of_aside (g := fun s => s.setStopLine x) h (s := s)

theorem commutes_setGauges (v : Vector Gauge 64) : f (s.setGauges v) = (f s).setGauges v :=
  commutes_of_aside (g := fun s => s.setGauges v) h (s := s)

theorem commutes_setSupervision (v : Vector Supervision 8) : f (s.setSupervision v) = (f s).setSupervision v :=
  commutes_of_aside (g := fun s => s.setSupervision v) h (s := s)

theorem kept_cracks : (f s).cracks = s.cracks := by
  have same := congrArg State.cracks (h s s)
  exact same

theorem kept_stopLine : (f s).stopLine = s.stopLine := by
  have same := congrArg State.stopLine (h s s)
  exact same
end

end Sys2Proof.Machine


/-! One count's sample of the crack inputs and of STOPn (R116 to R123), in whatever order its events come. -/
namespace Sys2Proof.Machine

/-! ### One qualifier and one input (R116 to R119) -/

theorem Qualifier.sampled_last (q : Qualifier) (l : Level) : (q.sampled l).last = some l := by
  unfold Qualifier.sampled
  split
  · assumption
  · rfl

theorem Qualifier.sampled_run (q : Qualifier) (l : Level) :
    (q.sampled l).run = if q.last = some l then min (q.run + 1) (max q.run 15) else 1 := by
  unfold Qualifier.sampled
  split
  · dsimp only
    split <;> omega
  · rfl

/-- A qualifier after one sample: the run of samples, and the level it qualifies. -/
def Qualifier.after (q : Qualifier) (n : Nat) (l : Level) : Qualifier :=
  if (q.sampled l).qualifies n l then { q.sampled l with level := some l } else q.sampled l

section
variable (q : Qualifier) (n : Nat) (l : Level)

theorem Qualifier.after_last : (q.after n l).last = some l := by
  unfold Qualifier.after
  split <;> exact q.sampled_last l

theorem Qualifier.after_run : (q.after n l).run = if q.last = some l then min (q.run + 1) (max q.run 15) else 1 := by
  unfold Qualifier.after
  split <;> exact q.sampled_run l

theorem Qualifier.after_level : (q.after n l).level = if n ≤ (q.after n l).run then some l else q.level := by
  have run : (q.after n l).run = (q.sampled l).run := by
    unfold Qualifier.after
    split <;> rfl
  rw [run]
  unfold Qualifier.after
  by_cases enough : n ≤ (q.sampled l).run
  · rw [if_pos enough]
    split
    · rfl
    · next same => simpa [Qualifier.qualifies, enough] using same
  · rw [if_neg enough, if_neg (by simp [Qualifier.qualifies, enough]), Qualifier.sampled_level]

/-- The level moves exactly at a qualification. -/
theorem Qualifier.after_level_ne_iff : (q.after n l).level ≠ q.level ↔ (q.sampled l).qualifies n l = true := by
  unfold Qualifier.after
  split
  · next yes =>
    have other : q.level ≠ some l := by
      have := yes
      simp only [Qualifier.qualifies, Qualifier.sampled_level, Bool.and_eq_true, bne_iff_ne] at this
      exact this.2
    simp [yes, Ne.symm other]
  · next no => simp [Qualifier.sampled_level, no]

theorem Qualifier.level_of_qualifies (yes : (q.sampled l).qualifies n l = true) : (q.after n l).level = some l ∧ q.level ≠ some l := by
  have := yes
  simp only [Qualifier.qualifies, Qualifier.sampled_level, Bool.and_eq_true, bne_iff_ne] at this
  exact ⟨by rw [Qualifier.after, if_pos yes], this.2⟩
end

section
variable (c : Crack) (l : Level)

theorem Crack.sampled_qualifier : (c.sampled l).qualifier = c.qualifier.after c.config.n l := rfl

/-- A sample detects at a qualification by the input's sense. -/
theorem Crack.detects_iff :
    c.detects l = true ↔ (c.sampled l).qualifier.level ≠ c.qualifier.level
      ∧ (c.config.sense = .levelHigh ∧ l = .high ∨ c.config.sense = .levelLow ∧ l = .low
        ∨ (c.qualifier.level ≠ none
          ∧ (c.config.sense = .anyChange ∨ c.config.sense = .rising ∧ l = .high ∨ c.config.sense = .falling ∧ l = .low))) := by
  rw [Crack.sampled_qualifier, Qualifier.after_level_ne_iff, Crack.detects, Bool.and_eq_true]
  refine and_congr_right fun yes => ?_
  have other := (Qualifier.level_of_qualifies c.qualifier c.config.n l yes).2
  revert other
  generalize c.qualifier.level = before
  cases c.config.sense <;> cases l <;> rcases before with _ | _ | _ <;> decide

theorem Crack.sampled_condition :
    (c.sampled l).condition = if c.ends l then false else c.condition || (c.detects l && c.config.sense.lasting) := rfl

theorem Crack.sampled_detected : (c.sampled l).detected = (c.detected || c.detects l) := rfl

/-- A sample without a qualification moves neither the condition nor the latch. -/
theorem Crack.sampled_of_still (still : (c.sampled l).qualifier.level = c.qualifier.level) :
    c.detects l = false ∧ c.ends l = false ∧ (c.sampled l).condition = c.condition ∧ (c.sampled l).detected = c.detected := by
  have no : ¬ (c.qualifier.sampled l).qualifies c.config.n l = true := by
    rw [← Qualifier.after_level_ne_iff]
    exact not_not_intro still
  have detects : c.detects l = false := by simp [Crack.detects, no]
  have ends : c.ends l = false := by simp [Crack.ends, no]
  simp [Crack.sampled_condition, Crack.sampled_detected, detects, ends]

/-- What a qualification does to condition and latch by the sense (R119). -/
theorem Crack.sampled_of_turned (turned : (c.sampled l).qualifier.level ≠ c.qualifier.level) :
    (∀ sensed, (c.config.sense = .levelHigh ∧ sensed = .high) ∨ (c.config.sense = .levelLow ∧ sensed = .low) →
        (l = sensed → (c.sampled l).condition = true ∧ (c.sampled l).detected = true)
          ∧ (l ≠ sensed → (c.sampled l).detected = c.detected
            ∧ (c.qualifier.level = some sensed → (c.sampled l).condition = false)))
      ∧ (c.config.sense ∈ [Sense.rising, .falling, .anyChange] → (c.sampled l).condition = c.condition
        ∧ (c.sampled l).detected = (c.detected || decide (c.qualifier.level ≠ none
          ∧ (c.config.sense = .rising → l = .high) ∧ (c.config.sense = .falling → l = .low)))) := by
  have yes := (Qualifier.after_level_ne_iff c.qualifier c.config.n l).mp turned
  have other := (Qualifier.level_of_qualifies c.qualifier c.config.n l yes).2
  rw [Crack.sampled_condition, Crack.sampled_detected, Crack.ends, Crack.detects, yes]
  simp only [Bool.true_and]
  refine ⟨fun sensed sense => ?_, fun sense => ?_⟩
  · have lasting : c.config.sense.lasting = true ∧ c.config.sense.sensed = some sensed := by
      obtain ⟨sense, rfl⟩ | ⟨sense, rfl⟩ := sense <;> rw [sense] <;> exact ⟨rfl, rfl⟩
    refine ⟨fun same => ?_, fun apart => ?_⟩
    · simp [lasting, same]
    · have other : (sensed == l) = false := by simpa using Ne.symm apart
      simp +contextual [lasting, other, apart.symm]
  · have momentary : c.config.sense.lasting = false := by
      simp only [List.mem_cons, List.not_mem_nil, or_false] at sense
      obtain sense | sense | sense := sense <;> rw [sense] <;> rfl
    have edge : c.config.sense.edgeDetected c.qualifier.level l = decide (c.qualifier.level ≠ none
        ∧ (c.config.sense = .rising → l = .high) ∧ (c.config.sense = .falling → l = .low)) := by
      revert other sense
      generalize c.qualifier.level = before
      cases c.config.sense <;> cases l <;> rcases before with _ | _ | _ <;> decide
    simp [momentary, edge]

/-- Where the condition of a LEVEL sense goes, the sample ends it. -/
theorem Crack.ends_of_cleared (active : c.condition = true) (cleared : (c.sampled l).condition = false) :
    c.ends l = true ∧ c.detects l = false := by
  have ends : c.ends l = true := by
    refine Classical.byContradiction fun no => ?_
    simp [Crack.sampled_condition, no, active] at cleared
  refine ⟨ends, ?_⟩
  simp only [Crack.ends, Bool.and_eq_true, bne_iff_ne] at ends
  obtain ⟨-, ⟨lasting, sensed⟩, -⟩ := ends
  simp [Crack.detects, lasting, sensed]
end

/-! ### The inputs at one count -/

theorem State.raiseCrack_of_field {α : Type} {π : State → α} (h : Protects fun s t => π t = π s) (s : State) (i : Fin 16) (b : Bool) :
    π (s.raiseCrack i b) = π s := by
  unfold State.raiseCrack
  dsimp only
  split
  · exact (h.lists false).raise _ _ _
  · rfl

theorem State.sampleCrack_cracks (s : State) (i : Fin 16) (l : Level) :
    (s.sampleCrack i l).cracks = s.cracks.set i (s.cracks[i].sampled l) := by
  have cracks := protects_of_field State.cracks
  rw [State.sampleCrack_eq]
  split
  · exact State.raiseCrack_of_field cracks _ _ _
  · split
    · exact (cracks.lists false).clear _ _
    · rfl

theorem State.foldl_sampleCrack_cracks {l : List (Fin 16)} (distinct : l.Nodup) (s : State) (ck : BitVec 16) (i : Fin 16) :
    (l.foldl (fun s i => s.sampleCrack i (crackLevel ck i)) s).cracks[i]
      = if i ∈ l then s.cracks[i].sampled (crackLevel ck i) else s.cracks[i] := by
  induction l generalizing s with
  | nil => simp
  | cons j l ih =>
    obtain ⟨first, distinct⟩ := List.nodup_cons.mp distinct
    have turned := s.sampleCrack_cracks j (crackLevel ck j)
    rw [List.foldl_cons, ih distinct, turned]
    by_cases same : i = j
    · subst same
      simp [first]
    · have apart : j.val ≠ i.val := fun h => same (Fin.ext h.symm)
      simp [same, Vector.getElem_set_ne _ _ apart]

/-- A sample of the inputs samples each of them. -/
theorem State.sampleInputs_crack (s : State) (ck : BitVec 16) (l : Level) (i : Fin 16) :
    (s.sampleInputs ck l).cracks[i] = s.cracks[i].sampled (crackLevel ck i) := by
  have stop (t : State) : (t.sampleStop l).cracks = t.cracks :=
    ((protects_of_field State.cracks).lists false).sampleStop (fun _ _ _ => rfl) (fun _ _ => rfl) t l
  rw [State.sampleInputs, stop, State.foldl_sampleCrack_cracks (List.nodup_finRange 16), if_pos (List.mem_finRange i)]

theorem State.foldl_sampleCrack_of_field {α : Type} {π : State → α} (h : Protects fun s t => π t = π s)
    (setCracks : ∀ s x, π (s.setCracks x) = π s := by intros; rfl) (l : List (Fin 16)) (s : State) (ck : BitVec 16) :
    π (l.foldl (fun s i => s.sampleCrack i (crackLevel ck i)) s) = π s := by
  refine foldl_keeps (fun i _ s => ?_) s
  rw [State.sampleCrack_eq]
  split
  · exact (State.raiseCrack_of_field h _ _ _).trans (setCracks _ _)
  · split
    · exact ((h.lists false).clear _ _).trans (setCracks _ _)
    · exact setCracks _ _

/-- A sample of STOPn moves its line, and at a qualification raises STOP or clears it. -/
theorem State.sampleStop_eq (s : State) (l : Level) :
    s.sampleStop l =
      if s.stopLine.qualifier.level = (s.stopLine.after l).qualifier.level then s.setStopLine (s.stopLine.after l)
      else if (s.stopLine.after l).qualifier.level = some .low then (s.setStopLine (s.stopLine.after l)).raiseStop
      else if s.stopLine.qualifier.level = some .low then (s.setStopLine (s.stopLine.after l)).clearStop
      else s.setStopLine (s.stopLine.after l) := by
  by_cases qualifies : (s.stopLine.qualifier.sampled l).qualifies Config.stopSamples l = true
  · have after : s.stopLine.after l
        = { qualifier := { s.stopLine.qualifier.sampled l with level := some l }, condition := l == .low } := if_pos qualifies
    have other := (Qualifier.level_of_qualifies _ _ l qualifies).2
    unfold State.sampleStop
    dsimp only
    rw [if_pos qualifies, after, if_neg other]
    cases l with
    | low => rfl
    | high => rfl
  · have after : s.stopLine.after l = { s.stopLine with qualifier := s.stopLine.qualifier.sampled l } := if_neg qualifies
    unfold State.sampleStop
    dsimp only
    rw [if_neg qualifies, after, if_pos (Qualifier.sampled_level _ l).symm]

theorem State.sampleStop_stopLine (s : State) (l : Level) : (s.sampleStop l).stopLine = s.stopLine.after l := by
  have line := protects_of_field State.stopLine
  rw [State.sampleStop_eq]
  split
  · rfl
  · split
    · exact (line.lists false).raise _ _ _
    · split
      · exact (line.lists false).clearStop (fun _ _ => rfl) _
      · rfl

theorem State.sampleInputs_stopLine (s : State) (ck : BitVec 16) (l : Level) :
    (s.sampleInputs ck l).stopLine = s.stopLine.after l := by
  rw [State.sampleInputs, State.sampleStop_stopLine, State.foldl_sampleCrack_of_field (protects_of_field State.stopLine)]

end Sys2Proof.Machine


/-! O47: where the sample stands among a count's events, what comes of it alone, and the unloading at the end of STOP. -/
namespace Sys2Proof.Machine

/-! ### The sample among the events of a count -/

/-- The events of a count but the sample leave what they do not write. -/
theorem State.countAct_of_unsampled {α : Type} {π : State → α} (h : Protects fun s t => π t = π s)
    (setPorts : ∀ s x, π (s.setPorts x) = π s := by intros; rfl) (setFrames : ∀ s x, π (s.setFrames x) = π s := by intros; rfl)
    (setGauges : ∀ s x, π (s.setGauges x) = π s := by intros; rfl) {x : CountAct} (other : x ≠ .sample) (a : CountArgs) (s : State) :
    π (s.countAct a x) = π s := by
  cases x
  case sample => exact absurd rfl other
  case watchdog f => exact State.watchdogTick_of_field h setFrames setPorts s f
  case stale g => exact State.staleTick_of_field h setGauges s g
  case clearTimer z tag => exact State.clearTimerTick_of_field h s z tag

/-- The state in which a count's events before the sample leave the part. -/
def State.eventsBefore (s : State) (a : CountArgs) (earlier : List CountAct) : State :=
  earlier.foldl (fun v x => v.countAct a x) (s.setStamp (s.stamp + 1#32))

/-- A count takes its sample of the inputs and of STOPn as they stood at its begin. -/
theorem State.referenceCount_sample (s : State) (a : CountArgs) :
    ∃ earlier later, s.countSchedule a = earlier ++ .sample :: later ∧ CountAct.sample ∉ earlier ∧ CountAct.sample ∉ later
      ∧ (s.eventsBefore a earlier).cracks = s.cracks ∧ (s.eventsBefore a earlier).stopLine = s.stopLine
      ∧ (s.eventsBefore a earlier).stopHold = s.stopHold
      ∧ s.referenceCount a
          = later.foldl (fun v x => v.countAct a x) ((s.eventsBefore a earlier).sampleInputs a.ck a.stopn) := by
  obtain ⟨mem, once⟩ := s.countActs_sample
  obtain ⟨earlier, later, split, before, after⟩ := State.countSchedule_split (a := a) mem once
  have kept {α : Type} {π : State → α} (h : Protects fun s t => π t = π s)
      (setPorts : ∀ s x, π (s.setPorts x) = π s := by intros; rfl) (setFrames : ∀ s x, π (s.setFrames x) = π s := by intros; rfl)
      (setGauges : ∀ s x, π (s.setGauges x) = π s := by intros; rfl)
      (setStamp : ∀ s x, π (State.setStamp s x) = π s := by intros; rfl) : π (s.eventsBefore a earlier) = π s :=
    (foldl_keeps (fun x mem s => State.countAct_of_unsampled h setPorts setFrames setGauges (fun same => before (same ▸ mem)) a s)
      _).trans (setStamp _ _)
  refine ⟨earlier, later, split, before, after, kept (protects_of_field State.cracks), kept (protects_of_field State.stopLine),
    kept (protects_of_field State.stopHold), ?_⟩
  rw [State.referenceCount, split, List.foldl_append, List.foldl_cons]
  rfl

theorem State.foldl_countAct_inputs {a : CountArgs} {l : List CountAct} (unsampled : CountAct.sample ∉ l) (s : State) :
    (l.foldl (fun v x => v.countAct a x) s).cracks = s.cracks ∧ (l.foldl (fun v x => v.countAct a x) s).stopLine = s.stopLine :=
  ⟨foldl_keeps (π := State.cracks) (fun x mem s =>
      State.countAct_of_unsampled (protects_of_field State.cracks) (other := fun same => unsampled (same ▸ mem)) (a := a) (s := s)) s,
    foldl_keeps (π := State.stopLine) (fun x mem s =>
      State.countAct_of_unsampled (protects_of_field State.stopLine) (other := fun same => unsampled (same ▸ mem)) (a := a) (s := s)) s⟩

/-- A count samples each input once. -/
theorem State.referenceCount_crack (s : State) (a : CountArgs) (i : Fin 16) :
    (s.referenceCount a).cracks[i] = s.cracks[i].sampled (crackLevel a.ck i) := by
  obtain ⟨earlier, later, -, -, after, cracks, -, -, run⟩ := s.referenceCount_sample a
  have rest := (State.foldl_countAct_inputs (a := a) after ((s.eventsBefore a earlier).sampleInputs a.ck a.stopn)).1
  have sampled := (s.eventsBefore a earlier).sampleInputs_crack a.ck a.stopn i
  simp only [cracks] at sampled
  simp only [run, rest, sampled]

/-- A count samples STOPn once. -/
theorem State.referenceCount_stopLine (s : State) (a : CountArgs) : (s.referenceCount a).stopLine = s.stopLine.after a.stopn := by
  obtain ⟨earlier, later, -, -, after, -, line, -, run⟩ := s.referenceCount_sample a
  rw [run, (State.foldl_countAct_inputs after _).2, State.sampleInputs_stopLine, line]

/-! ### A sample at which one input alone may qualify -/

theorem State.sampleCrack_of_still {s : State} {i : Fin 16} {l : Level}
    (still : (s.cracks[i].sampled l).qualifier.level = s.cracks[i].qualifier.level) :
    s.sampleCrack i l = s.updCrack i fun c => c.sampled l := by
  obtain ⟨detects, ends, -, -⟩ := s.cracks[i].sampled_of_still l still
  rw [State.sampleCrack_eq, detects, ends]
  rfl

/-- Inputs that do not qualify move their records only. -/
theorem State.foldl_sampleCrack_of_still {l : List (Fin 16)} (distinct : l.Nodup) {s : State} {ck : BitVec 16}
    (still : ∀ j ∈ l, (s.cracks[j].sampled (crackLevel ck j)).qualifier.level = s.cracks[j].qualifier.level) :
    ∃ c, l.foldl (fun s i => s.sampleCrack i (crackLevel ck i)) s = s.setCracks c := by
  induction l generalizing s with
  | nil => exact ⟨s.cracks, rfl⟩
  | cons j l ih =>
    obtain ⟨first, distinct⟩ := List.nodup_cons.mp distinct
    rw [List.foldl_cons, State.sampleCrack_of_still (still j List.mem_cons_self)]
    obtain ⟨c, run⟩ := ih distinct (s := s.updCrack j fun c => c.sampled (crackLevel ck j)) fun i mem => by
      have apart : j.val ≠ i.val := fun same => first (Fin.ext same ▸ mem)
      have kept : (s.updCrack j fun c => c.sampled (crackLevel ck j)).cracks[i] = s.cracks[i] :=
        Vector.getElem_set_ne j.isLt i.isLt apart
      rw [kept]
      exact still i (List.mem_cons_of_mem j mem)
    exact ⟨c, run⟩

/-- Where one input alone may qualify, the sample is what that input does, the records of the others moving beside it. -/
theorem State.sampleInputs_alone {s : State} {i : Fin 16} {ck : BitVec 16} {l : Level} {f : State → State}
    (beside : ∀ s x, f (State.aside s x) = (f s).aside x)
    (still : ∀ j, j ≠ i → (s.cracks[j].sampled (crackLevel ck j)).qualifier.level = s.cracks[j].qualifier.level)
    (line : (s.stopLine.after l).qualifier.level = s.stopLine.qualifier.level)
    (own : ∀ v : State, v.cracks[i] = s.cracks[i] →
      v.sampleCrack i (crackLevel ck i) = f (v.updCrack i fun c => c.sampled (crackLevel ck i))) :
    s.sampleInputs ck l
      = f { s with cracks := (s.sampleInputs ck l).cracks, stopLine := (s.sampleInputs ck l).stopLine } := by
  obtain ⟨pre, post, split, before, after⟩ := exists_split (List.mem_finRange i)
    (List.nodup_iff_count.mp (List.nodup_finRange 16) i)
  have distinct := List.nodup_finRange 16
  rw [split] at distinct
  obtain ⟨distinctPre, distinctPost, -⟩ := List.nodup_append.mp distinct
  replace distinctPost := (List.nodup_cons.mp distinctPost).2
  obtain ⟨c, first⟩ := State.foldl_sampleCrack_of_still distinctPre (s := s) (ck := ck) fun j mem =>
    still j fun same => before (same ▸ mem)
  have reached (j : Fin 16) (out : j ∉ pre) : (s.setCracks c).cracks[j] = s.cracks[j] := by
    rw [← first, State.foldl_sampleCrack_cracks distinctPre, if_neg out]
  let v := (s.setCracks c).updCrack i fun c => c.sampled (crackLevel ck i)
  have sampled : v = (s.setCracks c).updCrack i fun c => c.sampled (crackLevel ck i) := rfl
  obtain ⟨c', rest⟩ := State.foldl_sampleCrack_of_still distinctPost (s := f v) (ck := ck) fun j mem => by
    have apart : i.val ≠ j.val := fun same => after (Fin.ext same ▸ mem)
    have out : j ∉ pre := fun early => (List.nodup_append.mp distinct).2.2 _ early _ (List.mem_cons_of_mem i mem) rfl
    have kept : (f v).cracks[j] = s.cracks[j] := by
      simp only [kept_cracks beside]
      exact (Vector.getElem_set_ne i.isLt j.isLt apart).trans (reached j out)
    rw [kept]
    exact still j fun same => apart (congrArg Fin.val same.symm)
  have all : (List.finRange 16).foldl (fun s i => s.sampleCrack i (crackLevel ck i)) s = f (s.setCracks c') := by
    rw [split, List.foldl_append, first, List.foldl_cons, own _ (reached i before), ← sampled, rest, ← commutes_setCracks beside]
    rfl
  have run : s.sampleInputs ck l = f ((s.setCracks c').setStopLine (s.stopLine.after l)) := by
    rw [State.sampleInputs, all, State.sampleStop_eq, kept_stopLine beside]
    exact (if_pos line.symm).trans (commutes_setStopLine beside _ _).symm
  have run_cracks : (s.sampleInputs ck l).cracks = c' := by rw [run, kept_cracks beside]; rfl
  rw [run_cracks, State.sampleInputs_stopLine]
  exact run

end Sys2Proof.Machine


/-! O47, from the sample of the inputs and of STOPn. -/
namespace Sys2Proof.Machine

/-! ### The events that do nothing -/

/-- No watchdog and no stale timer runs. -/
def State.Quiet (s : State) : Prop :=
  (∀ f : Fin 4, s.frames[f].dog = .unwatched ∨ s.frames[f].dog = .lost) ∧ ∀ g : Fin 64, s.gauges[g].staleCounting = false

theorem State.Quiet.of_eq {s t : State} (h : s.Quiet) (frames : t.frames = s.frames) (gauges : t.gauges = s.gauges) : t.Quiet := by
  rwa [State.Quiet, frames, gauges]

/-- Where no timer runs, the events of a count but the sample and the clear-timers do nothing. -/
theorem State.Quiet.foldl_countAct {s : State} (h : s.Quiet) {a : CountArgs} {l : List CountAct} (unsampled : CountAct.sample ∉ l)
    (untimed : ∀ z tag, CountAct.clearTimer z tag ∉ l) : l.foldl (fun v x => v.countAct a x) s = s := by
  induction l with
  | nil => rfl
  | cons x l ih =>
    have nothing : s.countAct a x = s := by
      cases x with
      | sample => exact absurd List.mem_cons_self unsampled
      | watchdog f => exact State.watchdogTick_of_still (h.1 f)
      | stale g => exact State.staleTick_of_still (h.2 g)
      | clearTimer z tag => exact absurd List.mem_cons_self (untimed z tag)
    rw [List.foldl_cons, nothing]
    exact ih (fun mem => unsampled (List.mem_cons_of_mem x mem)) fun z tag mem => untimed z tag (List.mem_cons_of_mem x mem)

/-- A count that names no clear-timer, with none running, takes none. -/
theorem State.countSchedule_untimed {s : State} {a : CountArgs} (order : ∀ z tag, CountAct.clearTimer z tag ∉ a.order)
    (idle : ∀ z : Fin 4, ∀ e ∈ s.zones[z].entries, e.method = .timed → e.condition = true) (z : Fin 4) (tag : Half) :
    CountAct.clearTimer z tag ∉ s.countSchedule a := by
  have none : CountAct.clearTimer z tag ∉ s.countActs := by
    simp only [State.countActs, State.timersOf, List.mem_append, List.mem_map, List.mem_flatMap, List.mem_filter]
    rintro (((h | ⟨f, -, h⟩) | ⟨g, -, h⟩) | ⟨w, -, e, ⟨listed, timing⟩, -⟩)
    · simp at h
    · exact nomatch h
    · exact nomatch h
    · simp only [Entry.timing, Bool.and_eq_true, beq_iff_eq, Bool.not_eq_true'] at timing
      simp [idle w e listed timing.1] at timing
  simp only [State.countSchedule, List.mem_append, List.mem_eraseDups, List.mem_filter, not_or, not_and]
  exact ⟨order z tag, fun mem => absurd mem none⟩

theorem Gauge.staleCounting_eq_false {x : Gauge} (h : x.config.enabled = true → x.run.stale ≠ .running) : x.staleCounting = false := by
  refine Bool.eq_false_iff.mpr fun counting => ?_
  obtain ⟨enabled, running⟩ := x.staleCounting_iff.mp counting
  exact h enabled running

/-- A count at which nothing else comes about is its sample. -/
theorem State.referenceCount_of_quiet {s : State} {a : CountArgs} (quiet : s.Quiet)
    (order : ∀ z tag, CountAct.clearTimer z tag ∉ a.order)
    (idle : ∀ z : Fin 4, ∀ e ∈ s.zones[z].entries, e.method = .timed → e.condition = true) :
    s.referenceCount a = (s.setStamp (s.stamp + 1#32)).sampleInputs a.ck a.stopn := by
  obtain ⟨earlier, later, split, before, after, -, -, -, run⟩ := s.referenceCount_sample a
  have untimed := State.countSchedule_untimed order idle
  rw [split] at untimed
  have first : s.eventsBefore a earlier = s.setStamp (s.stamp + 1#32) :=
    (quiet.of_eq (t := s.setStamp (s.stamp + 1#32)) rfl rfl).foldl_countAct before
      fun z tag mem => untimed z tag (List.mem_append_left _ mem)
  rw [run, first]
  refine State.Quiet.foldl_countAct ?_ after fun z tag mem => untimed z tag (List.mem_append_right _ (List.mem_cons_of_mem _ mem))
  exact quiet.of_eq (State.sampleInputs_of_field (protects_of_field State.frames) (s := s.setStamp (s.stamp + 1#32)) (ck := a.ck) (l := a.stopn))
    (State.sampleInputs_of_field (protects_of_field State.gauges) (s := s.setStamp (s.stamp + 1#32)) (ck := a.ck) (l := a.stopn))

/-! ### A detection, and the end of a condition -/

section
variable {s : State} {i : Fin 16} {l : Level}

theorem State.sampleCrack_of_detects (detects : s.cracks[i].detects l = true) :
    s.sampleCrack i l =
      if s.cracks[i].config.enable then
        (s.updCrack i fun c => c.sampled l).raise
          { source := .crack i, action := s.cracks[i].config.action, method := s.cracks[i].config.method
            seconds := s.cracks[i].config.seconds, active := s.cracks[i].config.sense.lasting } [s.cracks[i].config.zone]
      else s.updCrack i fun c => c.sampled l := by
  have config : (s.updCrack i fun c => c.sampled l).cracks[i].config = s.cracks[i].config := by
    simp only [State.updCrack, State.setCracks_cracks, Fin.getElem_fin, Vector.getElem_set_self, Crack.sampled]
  rw [State.sampleCrack_eq, if_pos detects]
  unfold State.raiseCrack
  simp only [config]

theorem State.sampleCrack_holds (detects : s.cracks[i].detects l = true) (enabled : s.cracks[i].config.enable = true) (q : PortId) :
    (s.sampleCrack i l).holds q .alarm = true := by
  rw [State.sampleCrack_of_detects detects, if_pos enabled]
  exact State.raise_holds _ _ _ (by simp) q

theorem State.sampleCrack_inactive (ends : s.cracks[i].ends l = true) (detects : s.cracks[i].detects l = false) :
    (s.sampleCrack i l).Inactive (.crack i) := by
  rw [State.sampleCrack_eq, if_neg (by rw [detects]; decide), if_pos ends]
  exact State.clear_inactive _ _
end

/-- What one input's sample establishes and what follows keeps holds after the sample of the inputs. -/
theorem State.sampleInputs_establishes {P : State → Prop} {s : State} {i : Fin 16} {ck : BitVec 16} {l : Level}
    (own : ∀ v : State, v.cracks[i] = s.cracks[i] → P (v.sampleCrack i (crackLevel ck i)))
    (crack : ∀ (v : State) (j : Fin 16), j ≠ i → P v → P (v.sampleCrack j (crackLevel ck j)))
    (stop : ∀ v : State, P v → P (v.sampleStop l)) : P (s.sampleInputs ck l) := by
  obtain ⟨pre, post, split, before, after⟩ := exists_split (List.mem_finRange i)
    (List.nodup_iff_count.mp (List.nodup_finRange 16) i)
  have distinct := List.nodup_finRange 16
  rw [split] at distinct
  rw [State.sampleInputs, split, List.foldl_append, List.foldl_cons]
  refine stop _ (foldl_holds (fun j mem v hv => crack v j (fun same => after (same ▸ mem)) hv) (own _ ?_))
  rw [State.foldl_sampleCrack_cracks (List.nodup_append.mp distinct).1, if_neg before]

theorem State.clearTimerTick_inactive {src : Source} {s : State} (h : s.Inactive src) (z : Fin 4) (tag : Half) :
    (s.clearTimerTick z tag).Inactive src := by
  unfold State.clearTimerTick
  split
  · exact h
  · split
    · exact h.of_updZone (s.removeEntry_zones z _ _ _) ((h z).without _ _)
    · split
      · refine h.of_updZone rfl (.mapped fun e mem own => ?_)
        have same : (if e.tag = tag then { e with timer := e.timer - 1#32 } else e).isOf src = e.isOf src
            ∧ (if e.tag = tag then { e with timer := e.timer - 1#32 } else e).condition = e.condition := by
          split <;> exact ⟨rfl, rfl⟩
        rw [same.2]
        exact h z e mem (same.1 ▸ own)
      · exact h

/-- A LEVEL input back at the other level leaves no active entry over the count (R123). -/
theorem State.referenceCount_inactive {s : State} {i : Fin 16} {a : CountArgs} (active : s.cracks[i].condition = true)
    (cleared : (s.referenceCount a).cracks[i].condition = false) : (s.referenceCount a).Inactive (.crack i) := by
  rw [State.referenceCount_crack] at cleared
  obtain ⟨ends, detects⟩ := s.cracks[i].ends_of_cleared _ active cleared
  obtain ⟨earlier, later, -, -, after, cracks, -, -, run⟩ := s.referenceCount_sample a
  have spares := Spares.inactive (.crack i)
  rw [run]
  refine foldl_holds (fun x mem v hv => ?_) (State.sampleInputs_establishes (fun v same => ?_)
    (fun v j other hv => spares.sampleCrack v j _ (fun same => other (Source.crack.inj same).symm) hv)
    fun v hv => spares.sampleStop v _ nofun hv)
  · cases x with
    | sample => exact absurd mem after
    | watchdog f => exact spares.watchdogTick v f nofun nofun hv
    | stale g => exact spares.staleTick v g nofun hv
    | clearTimer z tag => exact State.clearTimerTick_inactive hv z tag
  · have record : v.cracks[i] = s.cracks[i] := by rw [same]; exact congrArg (·[i]) cracks
    exact State.sampleCrack_inactive (by rw [record]; exact ends) (by rw [record]; exact detects)

/-- A detection of an input whose alarm is enabled is an ALARM at every port. -/
theorem State.referenceCount_holds {s : State} {i : Fin 16} {a : CountArgs} (detects : s.cracks[i].detects (crackLevel a.ck i) = true)
    (enabled : s.cracks[i].config.enable = true) (q : PortId) : (s.referenceCount a).holds q .alarm = true := by
  obtain ⟨earlier, later, -, -, -, cracks, -, -, run⟩ := s.referenceCount_sample a
  rw [run]
  refine State.foldl_countAct_holds later (State.sampleInputs_establishes (P := fun v => v.holds q .alarm = true) (i := i)
    (fun v same => ?_) (fun v j _ hv => (latches_composes.watches.sampleCrack v j _).holds (by decide) hv)
    fun v hv => (latches_composes.sampleStop v _).holds (by decide) hv)
  have record : v.cracks[i] = s.cracks[i] := by rw [same]; exact congrArg (·[i]) cracks
  exact State.sampleCrack_holds (by rw [record]; exact detects) (by rw [record]; exact enabled) q

/-! ### The unloading at the end of STOP (R121, R142) -/

/-- A DUMPED zone without a protective entry, unloaded with its record and event. -/
def State.unloadFree (v : State) (z : Fin 4) : State :=
  if v.zones[z].state = .dumped ∧ v.zones[z].entries.all (fun e => e.action.severity == 0) = true then
    ((State.record { v with zones := v.zones.set z { v.zones[z] with state := .unloaded } }
      (.zoneChange z .dumped .unloaded)).addEvent .zoneChange).syncPause
  else v

theorem State.unloadFree_eq (v : State) (z : Fin 4) :
    v.unloadFree z = if v.zones[z].state = .dumped ∧ v.zones[z].hasProtective = false then v.changeZone z .unloaded false else v := by
  have free : v.zones[z].entries.all (fun e => e.action.severity == 0) = true ↔ v.zones[z].hasProtective = false := by
    simp [Zone.hasProtective, Entry.protective]
  unfold State.unloadFree
  simp only [free]
  refine ite_congr rfl (fun dumped => ?_) fun _ => rfl
  unfold State.changeZone
  rw [dumped.1, if_neg (by decide)]
  rfl

theorem State.clearStop_eq (s : State) :
    s.clearStop = [0, 1, 2, 3].foldl State.unloadFree { s.clear .stop with stopHold := false } := by
  have step : (fun (v : State) (z : Fin 4) => v.unloadFree z) = fun v z =>
      if v.zones[z].state = .dumped ∧ v.zones[z].hasProtective = false then v.changeZone z .unloaded false else v :=
    funext fun v => funext fun z => v.unloadFree_eq z
  rw [State.clearStop]
  show _ = List.foldl (fun (v : State) (z : Fin 4) => v.unloadFree z) _ _
  rw [step]
  rfl

theorem State.sampleStop_split (u : State) (l : Level) :
    let sampled : State := { u with stopLine := u.stopLine.after l }
    u.sampleStop l =
      if u.stopLine.qualifier.level = (u.stopLine.after l).qualifier.level then sampled
      else if (u.stopLine.after l).qualifier.level = some .low then
        State.raise { sampled with stopHold := true }
          { source := .stop, action := .dumpAll, method := .manual, seconds := 60#16, active := true } [0, 1, 2, 3]
      else if u.stopLine.qualifier.level = some .low then
        [0, 1, 2, 3].foldl State.unloadFree { sampled.clear .stop with stopHold := false }
      else sampled := by
  intro sampled
  rw [State.sampleStop_eq]
  refine ite_congr rfl (fun _ => rfl) fun _ => ite_congr rfl (fun _ => rfl) fun _ => ite_congr rfl (fun _ => ?_) fun _ => rfl
  exact State.clearStop_eq sampled

theorem StopLine.after_qualifier (x : StopLine) (l : Level) : (x.after l).qualifier = x.qualifier.after Config.stopSamples l := by
  unfold StopLine.after Qualifier.after
  split <;> rfl

/-- What the statement says of a count at which an input's detection is all that comes about. -/
def State.CountsAlone (s t : State) (a : CountArgs) (i : Fin 16) : Prop :=
  (∀ j : Fin 16, j ≠ i → t.cracks[j].qualifier.level = s.cracks[j].qualifier.level)
    ∧ t.stopLine.qualifier.level = s.stopLine.qualifier.level
    ∧ (∀ f : Fin 4, s.frames[f].dog = .unwatched ∨ s.frames[f].dog = .lost)
    ∧ (∀ g : Fin 64, s.gauges[g].config.enabled = true → s.gauges[g].run.stale ≠ .running)
    ∧ (∀ z : Fin 4, ∀ e ∈ s.zones[z].entries, e.method = .timed → e.condition = true)
    ∧ ∀ z tag, CountAct.clearTimer z tag ∉ a.order

theorem State.referenceCount_alone {s : State} {a : CountArgs} {i : Fin 16} {f : State → State}
    (beside : ∀ s x, f (State.aside s x) = (f s).aside x) (alone : s.CountsAlone (s.referenceCount a) a i)
    (own : ∀ v : State, v.cracks[i] = s.cracks[i] →
      v.sampleCrack i (crackLevel a.ck i) = f (v.updCrack i fun c => c.sampled (crackLevel a.ck i))) :
    s.referenceCount a = f { s with stamp := s.stamp + 1#32, cracks := (s.referenceCount a).cracks
                                    stopLine := (s.referenceCount a).stopLine } := by
  obtain ⟨still, line, dogs, stales, idle, order⟩ := alone
  have quiet : s.Quiet := ⟨dogs, fun g => Gauge.staleCounting_eq_false (stales g)⟩
  rw [State.referenceCount_stopLine] at line
  have run := State.sampleInputs_alone (s := s.setStamp (s.stamp + 1#32)) beside
    (fun j other => by have level := still j other; rwa [State.referenceCount_crack] at level) line own
  rw [State.referenceCount_of_quiet quiet order idle]
  exact run

/-- Settles O47: each input's and STOPn's record from its one sample, what the raise or clear that comes of it leaves, and the sample
of STOPn among the count's events. -/
theorem countsSampleTheInputs : Obligations.CountsSampleTheInputs := by
  intro a s obeyed
  have crack := s.referenceCount_crack a
  have line := s.referenceCount_stopLine a
  obtain ⟨condition, hold, dumped, -⟩ := stopObeyed_invariant.count s a obeyed
  refine ⟨_, rfl, s.referenceCount_stamp a, ?qualifiers, fun i => ?record, fun i => ?raised, fun low => ?low, fun other => ?other,
    ?stop⟩
  case qualifiers =>
    rintro q q' n level (⟨rfl, rfl, rfl, rfl⟩ | ⟨i, rfl, rfl, rfl, rfl⟩)
    · rw [line, StopLine.after_qualifier]
      exact ⟨Qualifier.after_last _ _ _, Qualifier.after_run _ _ _, Qualifier.after_level _ _ _⟩
    · rw [crack, Crack.sampled_qualifier]
      exact ⟨Qualifier.after_last _ _ _, Qualifier.after_run _ _ _, Qualifier.after_level _ _ _⟩
  case record =>
    dsimp only
    rw [crack]
    refine ⟨rfl, fun still => ?_, fun turned => Crack.sampled_of_turned _ _ turned⟩
    obtain ⟨-, -, condition, detected⟩ := Crack.sampled_of_still _ _ still
    exact ⟨condition, detected⟩
  case raised =>
    have lasting : (s.cracks[i].config.sense == .levelHigh || s.cracks[i].config.sense == .levelLow)
        = s.cracks[i].config.sense.lasting := by
      cases s.cracks[i].config.sense <;> rfl
    dsimp only
    simp only [lasting]
    rw [crack, show (if a.ck.getLsbD i.val then Level.high else Level.low) = crackLevel a.ck i from rfl, ← Crack.detects_iff]
    refine ⟨fun detects enabled q => State.referenceCount_holds detects enabled q, fun detects alone enabled => ?_,
      fun detects alone disabled => ?_, fun _ active cleared => State.referenceCount_inactive active (by rw [crack]; exact cleared)⟩
    · have run := State.referenceCount_alone (f := fun v => v.raise
        { source := .crack i, action := s.cracks[i].config.action, method := s.cracks[i].config.method
          seconds := s.cracks[i].config.seconds, active := s.cracks[i].config.sense.lasting } [s.cracks[i].config.zone])
        (fun s x => State.raise_aside s x _ _ _) alone fun v same => by
          rw [State.sampleCrack_of_detects (by rw [same]; exact detects), same, if_pos enabled]
      exact run
    · have run := State.referenceCount_alone (f := id) (fun s x => rfl) alone fun v same => by
        rw [State.sampleCrack_of_detects (by rw [same]; exact detects), same, if_neg (by rw [disabled]; decide)]
        rfl
      exact run
  case low =>
    have active : (s.referenceCount a).stopLine.condition = true := by rw [condition]; exact decide_eq_true low
    exact ⟨active, hold.trans active, dumped active⟩
  case other =>
    have clear : (s.referenceCount a).stopLine.condition = false := by rw [condition]; exact decide_eq_false other
    exact ⟨clear, hold.trans clear⟩
  case stop =>
    obtain ⟨earlier, later, split, -, -, -, stopLine, stopHold, run⟩ := s.referenceCount_sample a
    have kept {α : Type} {π : State → α} (h : Protects fun s t => π t = π s)
        (setCracks : ∀ s x, π (s.setCracks x) = π s := by intros; rfl) :=
      State.foldl_sampleCrack_of_field h setCracks (List.finRange 16) (s.eventsBefore a earlier) a.ck
    refine ⟨earlier, later, split, (kept (protects_of_field State.stopLine)).trans stopLine,
      (kept (protects_of_field State.stopHold)).trans stopHold, ?_⟩
    have sampled := State.sampleStop_split
      ((List.finRange 16).foldl (fun s i => s.sampleCrack i (crackLevel a.ck i)) (s.eventsBefore a earlier)) a.stopn
    rw [(kept (protects_of_field State.stopLine)).trans stopLine] at sampled
    rw [line, run]
    exact congrArg (fun v : State => later.foldl (fun v x => v.countAct a x) v) sampled

end Sys2Proof.Machine


/-! Gauge frames (R94, R100 to R104): what an OK frame makes of a gauge's running fields, and what it hands over. -/
namespace Sys2Proof.Machine

/-! ### The window check (R103) -/

/-- A gauge's running fields after the window check of a strain. -/
def GaugeRun.windowed (x : GaugeConfig) (strain : Half) (r : GaugeRun) : GaugeRun :=
  if r.window then
    if x.outside strain then { r with inCount := 0 }
    else if r.inCount + 1 < x.n then { r with inCount := r.inCount + 1 }
    else { r with inCount := 0, window := false }
  else if x.outside strain then
    if r.outCount + 1 < x.n then { r with outCount := r.outCount + 1 } else { r with outCount := 0, inCount := 0, window := true }
  else { r with outCount := 0 }

/-- What a moved WINDOW condition hands over. -/
def State.windowHanded (s : State) (g : Fin 64) (x : GaugeConfig) (before after : Bool) : State :=
  if before = after then s
  else if before then s.clear (.gaugeWindow g)
  else s.raise
    { source := .gaugeWindow g, action := x.windowAction, method := x.method, seconds := x.seconds, active := true } [x.zone]

/-- What the clear of an active fault hands over. -/
def State.faultHanded (s : State) (g : Fin 64) (active : Bool) : State :=
  if active then s.clear (.gaugeFault g) else s

theorem State.windowHanded_aside (g : Fin 64) (c : GaugeConfig) (before after : Bool) (s x : State) :
    (s.aside x).windowHanded g c before after = (s.windowHanded g c before after).aside x := by
  unfold State.windowHanded
  split
  · rfl
  · split
    · exact State.clear_aside s x _
    · exact State.raise_aside s x _ _ _

theorem State.faultHanded_aside (g : Fin 64) (active : Bool) (s x : State) :
    (s.aside x).faultHanded g active = (s.faultHanded g active).aside x := by
  unfold State.faultHanded
  split
  · exact State.clear_aside s x _
  · rfl

theorem State.windowHanded_setGauges (s : State) (g : Fin 64) (c : GaugeConfig) (before after : Bool) (v : Vector Gauge 64) :
    (s.setGauges v).windowHanded g c before after = (s.windowHanded g c before after).setGauges v :=
  commutes_setGauges (f := fun s => s.windowHanded g c before after) (State.windowHanded_aside g c before after) s v

theorem State.faultHanded_setGauges (s : State) (g : Fin 64) (active : Bool) (v : Vector Gauge 64) :
    (s.setGauges v).faultHanded g active = (s.faultHanded g active).setGauges v :=
  commutes_setGauges (f := fun s => s.faultHanded g active) (State.faultHanded_aside g active) s v

/-- A gauge's raise, from the configuration that a change of its running fields leaves. -/
theorem State.raiseGauge_updGauge (s : State) (g : Fin 64) (f : GaugeRun → GaugeRun) (source : Source) (action : Action)
    (active late : Bool) :
    (s.updGauge g f).raiseGauge g source action active late =
      (s.updGauge g f).raise
        { source := source, action := action, method := s.gauges[g].config.method, seconds := s.gauges[g].config.seconds
          active := active } [s.gauges[g].config.zone] late := by
  have config : (s.updGauge g f).gauges[g].config = s.gauges[g].config := by simp [State.updGauge]
  rw [State.raiseGauge, config]

theorem State.updGauge_of_eq {s : State} {g : Fin 64} {f k : GaugeRun → GaugeRun} (h : f s.gauges[g].run = k s.gauges[g].run) :
    s.updGauge g f = s.updGauge g k := by
  rw [State.updGauge, State.updGauge, h]

/-- The window check turns the running fields, and hands over what the condition's move brings. -/
theorem State.windowCheck_eq (s : State) (g : Fin 64) (strain : Half) :
    s.windowCheck g strain =
      (s.updGauge g fun r => r.windowed s.gauges[g].config strain).windowHanded g s.gauges[g].config s.gauges[g].run.window
        (s.gauges[g].run.windowed s.gauges[g].config strain).window := by
  have turned {f : GaugeRun → GaugeRun} (h : s.gauges[g].run.windowed s.gauges[g].config strain = f s.gauges[g].run) :
      (s.updGauge g fun r => r.windowed s.gauges[g].config strain) = s.updGauge g f := State.updGauge_of_eq h
  unfold State.windowCheck
  dsimp only
  by_cases window : s.gauges[g].run.window = true
  · rw [if_pos window]
    by_cases out : s.gauges[g].config.outside strain = true
    · have after : s.gauges[g].run.windowed s.gauges[g].config strain = { s.gauges[g].run with inCount := 0 } := by
        rw [GaugeRun.windowed, if_pos window, if_pos out]
      rw [if_pos out, turned (f := fun r => { r with inCount := 0 }) after, after]
      exact (if_pos rfl).symm
    · rw [if_neg out]
      by_cases few : s.gauges[g].run.inCount + 1 < s.gauges[g].config.n
      · have after : s.gauges[g].run.windowed s.gauges[g].config strain
            = { s.gauges[g].run with inCount := s.gauges[g].run.inCount + 1 } := by
          rw [GaugeRun.windowed, if_pos window, if_neg out, if_pos few]
        rw [if_pos few, turned (f := fun r => { r with inCount := r.inCount + 1 }) after, after]
        exact (if_pos rfl).symm
      · have after : s.gauges[g].run.windowed s.gauges[g].config strain
            = { s.gauges[g].run with inCount := 0, window := false } := by
          rw [GaugeRun.windowed, if_pos window, if_neg out, if_neg few]
        rw [if_neg few, turned (f := fun r => { r with inCount := 0, window := false }) after, after, State.windowHanded, window]
        rfl
  · rw [if_neg window]
    by_cases out : s.gauges[g].config.outside strain = true
    · rw [if_pos out]
      by_cases few : s.gauges[g].run.outCount + 1 < s.gauges[g].config.n
      · have after : s.gauges[g].run.windowed s.gauges[g].config strain
            = { s.gauges[g].run with outCount := s.gauges[g].run.outCount + 1 } := by
          rw [GaugeRun.windowed, if_neg window, if_pos out, if_pos few]
        rw [if_pos few, turned (f := fun r => { r with outCount := r.outCount + 1 }) after, after]
        exact (if_pos rfl).symm
      · have after : s.gauges[g].run.windowed s.gauges[g].config strain
            = { s.gauges[g].run with outCount := 0, inCount := 0, window := true } := by
          rw [GaugeRun.windowed, if_neg window, if_pos out, if_neg few]
        rw [if_neg few, turned (f := fun r => { r with outCount := 0, inCount := 0, window := true }) after, after,
          State.raiseGauge_updGauge, State.windowHanded, Bool.eq_false_iff.mpr window]
        rfl
    · have after : s.gauges[g].run.windowed s.gauges[g].config strain = { s.gauges[g].run with outCount := 0 } := by
        rw [GaugeRun.windowed, if_neg window, if_neg out]
      rw [if_neg out, turned (f := fun r => { r with outCount := 0 }) after, after]
      exact (if_pos rfl).symm

end Sys2Proof.Machine


/-! Gauge frames: the five steps of an OK frame together, and O41 and O42. -/
namespace Sys2Proof.Machine

/-! ### An OK frame (R101) -/

/-- A gauge's running fields after an OK frame. -/
def GaugeRun.framed (x : GaugeConfig) (raw : Raw24) (r : GaugeRun) : GaugeRun :=
  ((({ r with fault := none } : GaugeRun).sampled x raw).windowed x (saturatedStrain x raw)).gathered (saturatedStrain x raw)

theorem State.updGauge_set (s : State) (v : Vector Gauge 64) (g : Fin 64) (y : Gauge) (f : GaugeRun → GaugeRun) :
    (s.setGauges (v.set g y)).updGauge g f = s.setGauges (v.set g { y with run := f y.run }) := by
  simp [State.updGauge, State.setGauges]

theorem State.clearFault_eq (s : State) (g : Fin 64) :
    s.clearFault g = (s.faultHanded g s.gauges[g].run.fault.isSome).setGauges
      (s.gauges.set g { s.gauges[g] with run := { s.gauges[g].run with fault := none } }) := by
  rw [← State.faultHanded_setGauges]
  unfold State.clearFault State.faultHanded
  split
  · rfl
  · next clear =>
    have none : s.gauges[g].run.fault = none := by simpa using clear
    have same : ({ s.gauges[g] with run := { s.gauges[g].run with fault := Option.none } } : Gauge) = s.gauges[g] := by rw [← none]
    rw [same]
    exact congrArg s.setGauges (Vector.set_getElem_self g.isLt).symm

/-- An OK frame hands over the clear of the fault, then what the window check brings, and turns the running fields. -/
theorem State.okFrame_eq (s : State) (g : Fin 64) (raw : Raw24) :
    s.okFrame g raw =
      ((s.faultHanded g s.gauges[g].run.fault.isSome).windowHanded g s.gauges[g].config s.gauges[g].run.window
        (s.gauges[g].run.framed s.gauges[g].config raw).window).setGauges
          (s.gauges.set g { s.gauges[g] with run := s.gauges[g].run.framed s.gauges[g].config raw }) := by
  have self (t : State) (y : Gauge) : (t.setGauges (s.gauges.set g y)).gauges[g] = y := by
    simp only [State.setGauges_gauges, Fin.getElem_fin, Vector.getElem_set_self]
  unfold State.okFrame
  dsimp only
  rw [State.clearFault_eq, State.updGauge_set, State.windowCheck_eq]
  simp only [self]
  rw [State.updGauge_set, State.windowHanded_setGauges, State.updGauge_set]
  rfl

section
variable (x : GaugeConfig) (raw : Raw24) (strain : Half) (r : GaugeRun)

/-- The window check moves the two counts and the condition only. -/
theorem GaugeRun.windowed_rest :
    { r.windowed x strain with outCount := r.outCount, inCount := r.inCount, window := r.window } = r := by
  unfold GaugeRun.windowed
  split
  · split
    · rfl
    · split <;> rfl
  · split
    · split <;> rfl
    · rfl

/-- What an OK frame leaves of the running fields, but for the window check's. -/
theorem GaugeRun.framed_rest :
    { r.framed x raw with outCount := r.outCount, inCount := r.inCount, window := r.window }
      = (({ r with fault := none } : GaugeRun).sampled x raw).gathered (saturatedStrain x raw) := by
  have rest := GaugeRun.windowed_rest x (saturatedStrain x raw) (({ r with fault := none } : GaugeRun).sampled x raw)
  exact congrArg (fun r => GaugeRun.gathered r (saturatedStrain x raw)) rest

theorem GaugeRun.framed_window :
    (r.framed x raw).window = (r.windowed x (saturatedStrain x raw)).window
      ∧ (r.framed x raw).outCount = (r.windowed x (saturatedStrain x raw)).outCount
      ∧ (r.framed x raw).inCount = (r.windowed x (saturatedStrain x raw)).inCount := by
  simp only [GaugeRun.framed, GaugeRun.gathered, GaugeRun.windowed, GaugeRun.sampled]
  split
  · split
    · exact ⟨rfl, rfl, rfl⟩
    · split <;> exact ⟨rfl, rfl, rfl⟩
  · split
    · split <;> exact ⟨rfl, rfl, rfl⟩
    · exact ⟨rfl, rfl, rfl⟩
end

theorem saturatedStrain_toInt (x : GaugeConfig) (raw : Raw24) :
    (saturatedStrain x raw).toInt = max (-32767) (min (roundDiv ((raw.toInt - x.zero.toInt) * x.scale.toInt) 65536) 32767) := by
  have limited : limitInt (strainOf x raw) (-32767) 32767 = max (-32767) (min (strainOf x raw) 32767) := by
    unfold limitInt
    split
    · omega
    · split <;> omega
  rw [saturatedStrain, limited, half, BitVec.toInt_ofInt, Int.bmod_eq_of_le] <;> simp only [strainOf] <;> omega

theorem greater_toInt (a b : Half) : (greater a b).toInt = max a.toInt b.toInt := by
  unfold greater
  split <;> omega

theorem lesser_toInt (a b : Half) : (lesser a b).toInt = min a.toInt b.toInt := by
  unfold lesser
  split <;> omega

theorem GaugeRun.framed_current (x : GaugeConfig) (raw : Raw24) (r : GaugeRun) :
    (r.framed x raw).current = some (saturatedStrain x raw) :=
  congrArg GaugeRun.current (r.framed_rest x raw)

theorem GaugeConfig.outside_iff (x : GaugeConfig) (strain : Half) :
    x.outside strain = true ↔ ¬ (x.lo.toInt ≤ strain.toInt ∧ strain.toInt ≤ x.hi.toInt) := by
  simp only [GaugeConfig.outside, Bool.or_eq_true, decide_eq_true_eq]
  omega

/-- The counts and the condition that the window check leaves, by the condition, the strain and the count (R103). -/
theorem GaugeRun.windowed_counts {x : GaugeConfig} {strain : Half} {r u : GaugeRun}
    (window : u.window = (r.windowed x strain).window) (out : u.outCount = (r.windowed x strain).outCount)
    (into : u.inCount = (r.windowed x strain).inCount) :
    let inside : Prop := x.lo.toInt ≤ strain.toInt ∧ strain.toInt ≤ x.hi.toInt
    let counts (o i : Nat) (w : Bool) : Prop := u.outCount = o ∧ u.inCount = i ∧ u.window = w
    (r.window = false → inside → counts 0 r.inCount false)
      ∧ (r.window = false → ¬ inside → r.outCount + 1 < x.n → counts (r.outCount + 1) r.inCount false)
      ∧ (r.window = false → ¬ inside → x.n ≤ r.outCount + 1 → counts 0 0 true)
      ∧ (r.window = true → ¬ inside → counts r.outCount 0 true)
      ∧ (r.window = true → inside → r.inCount + 1 < x.n → counts r.outCount (r.inCount + 1) true)
      ∧ (r.window = true → inside → x.n ≤ r.inCount + 1 → counts r.outCount 0 false) := by
  intro inside counts
  have outside (no : ¬ inside) : x.outside strain = true := (x.outside_iff strain).mpr no
  have within (yes : inside) : x.outside strain = false := by
    refine Classical.byContradiction fun no => ?_
    exact (x.outside_iff strain).mp (by simpa using no) yes
  simp only [counts, window, out, into]
  refine ⟨fun clear yes => ?_, fun clear no few => ?_, fun clear no many => ?_, fun active no => ?_, fun active yes few => ?_,
    fun active yes many => ?_⟩
  · simp [GaugeRun.windowed, clear, within yes]
  · simp [GaugeRun.windowed, clear, outside no, few]
  · simp [GaugeRun.windowed, clear, outside no, Nat.not_lt.mpr many]
  · simp [GaugeRun.windowed, active, outside no]
  · simp [GaugeRun.windowed, active, within yes, few]
  · simp [GaugeRun.windowed, active, within yes, Nat.not_lt.mpr many]

/-- What an OK frame leaves of the running fields (R101, R102, R104). -/
theorem GaugeRun.framed_fields {x : GaugeConfig} {raw : Raw24} {r u : GaugeRun} (framed : u = r.framed x raw) :
    let quotient := roundDiv ((raw.toInt - x.zero.toInt) * x.scale.toInt) 65536
    let strain := max (-32767) (min quotient 32767)
    u.lastRaw = some raw ∧ u.current.map BitVec.toInt = some strain
      ∧ u.currentSat = decide (quotient < -32767 ∨ 32767 < quotient) ∧ u.fault = none
      ∧ (r.stale = .off → u.stale = .off) ∧ (r.stale ≠ .off → u.stale = .running ∧ u.staleLeft = x.staleTime)
      ∧ u.running.map (fun e => (e.peak.toInt, e.valley.toInt)) =
          some (match r.running with
            | none => (strain, strain)
            | some e => (max e.peak.toInt strain, min e.valley.toInt strain))
      ∧ u.runningSat = (r.runningSat || u.currentSat) ∧ u.runningFault = r.runningFault
      ∧ u.last = r.last ∧ u.baseline = r.baseline ∧ u.capture = r.capture ∧ u.driftCount = r.driftCount := by
  have rest := r.framed_rest x raw
  rw [← framed] at rest
  have field {α : Type} (π : GaugeRun → α) :
      π { u with outCount := r.outCount, inCount := r.inCount, window := r.window }
        = π ((({ r with fault := none } : GaugeRun).sampled x raw).gathered (saturatedStrain x raw)) := congrArg π rest
  have strain := saturatedStrain_toInt x raw
  have saturates : u.currentSat = strainSaturates x raw := field GaugeRun.currentSat
  refine ⟨field GaugeRun.lastRaw, ?current, ?saturated, field GaugeRun.fault, fun off => ?off, fun on => ⟨?running, ?left⟩, ?extremes,
    ?sat, field GaugeRun.runningFault, field GaugeRun.last, field GaugeRun.baseline, field GaugeRun.capture,
    field GaugeRun.driftCount⟩
  case current =>
    have current : u.current = some (saturatedStrain x raw) := field GaugeRun.current
    rw [current, Option.map_some, strain]
  case saturated => rw [saturates, strainSaturates, strainOf, Bool.decide_or]
  case off => exact (field GaugeRun.stale).trans (if_pos off)
  case running => exact (field GaugeRun.stale).trans (if_neg on)
  case left => exact (field GaugeRun.staleLeft).trans (if_neg on)
  case extremes =>
    have running : u.running = some (match r.running with
        | none => { peak := saturatedStrain x raw, valley := saturatedStrain x raw }
        | some e => { peak := greater e.peak (saturatedStrain x raw), valley := lesser e.valley (saturatedStrain x raw) }) :=
      field GaugeRun.running
    rw [running, Option.map_some]
    cases r.running <;> simp only [greater_toInt, lesser_toInt, strain]
  case sat =>
    have sat : u.runningSat = (r.runningSat || strainSaturates x raw) := field GaugeRun.runningSat
    rw [sat, saturates]

end Sys2Proof.Machine


/-! O41 and O42: a complete gauge frame by its check byte, its channel and its status. -/
namespace Sys2Proof.Machine

/-! ### The fields of a frame (R94, R166) -/

section
variable (bits : BitVec 40)

theorem frameSum_iff :
    frameSum bits = 0xFF#8 ↔ (bits.toNat / 2 ^ 32 + bits.toNat / 2 ^ 24 % 256 + bits.toNat / 2 ^ 16 % 256 + bits.toNat / 2 ^ 8 % 256
      + bits.toNat % 256) % 256 = 255 := by
  have range := bits.isLt
  rw [← BitVec.toNat_inj, frameSum]
  simp only [BitVec.toNat_add, BitVec.extractLsb'_toNat, Nat.shiftRight_eq_div_pow, BitVec.toNat_ofNat]
  omega

theorem linkGauge_iff (link : Fin 2) (g : Fin 64) :
    linkGauge link (bits.extractLsb' 34 6) = some g ↔ g.val = 32 * link.val + bits.toNat / 2 ^ 34 ∧ bits.toNat / 2 ^ 34 ≤ 31 := by
  have channel : (bits.extractLsb' 34 6).toNat = bits.toNat / 2 ^ 34 := by
    have range := bits.isLt
    rw [BitVec.extractLsb'_toNat, Nat.shiftRight_eq_div_pow]
    omega
  by_cases named : bits.toNat / 2 ^ 34 ≤ 31
  · have gauge : linkGauge link (bits.extractLsb' 34 6) = some ⟨32 * link.val + bits.toNat / 2 ^ 34, by omega⟩ := by
      simp only [linkGauge, channel, Nat.lt_succ_of_le named, dite_true]
    rw [gauge, Option.some_inj, Fin.ext_iff]
    exact ⟨fun h => ⟨h.symm, named⟩, fun h => h.1.symm⟩
  · have none : linkGauge link (bits.extractLsb' 34 6) = none := dif_neg (by rw [channel]; omega)
    simp only [none, reduceCtorEq, false_iff, not_and]
    omega

theorem linkGauge_none (link : Fin 2) (h : 31 < bits.toNat / 2 ^ 34) : linkGauge link (bits.extractLsb' 34 6) = none := by
  cases named : linkGauge link (bits.extractLsb' 34 6) with
  | none => rfl
  | some g =>
    have := ((linkGauge_iff bits link g).mp named).2
    omega

theorem status_toNat : (bits.extractLsb' 32 2).toNat = bits.toNat / 2 ^ 32 % 4 := by
  rw [BitVec.extractLsb'_toNat, Nat.shiftRight_eq_div_pow]
end

/-! ### Taking a frame (R94, R100) -/

section
variable {s : State} {link : Fin 2} {bits : BitVec 40} {g : Fin 64}

theorem State.takeFrame_of_sum (h : frameSum bits ≠ 0xFF#8) : s.takeFrame link bits = s := if_pos h

theorem State.takeFrame_of_unnamed (h : linkGauge link (bits.extractLsb' 34 6) = none) : s.takeFrame link bits = s := by
  unfold State.takeFrame
  simp only [h, ite_self]

theorem State.takeFrame_of_status (h : bits.toNat / 2 ^ 32 % 4 = 3) : s.takeFrame link bits = s := by
  rw [← status_toNat] at h
  unfold State.takeFrame
  split
  · rfl
  · split
    · rfl
    · split
      · rfl
      · rw [h]; rfl

variable (sum : frameSum bits = 0xFF#8) (named : linkGauge link (bits.extractLsb' 34 6) = some g)
include sum named

theorem State.takeFrame_of_disabled (h : s.gauges[g].config.enabled = false) : s.takeFrame link bits = s := by
  unfold State.takeFrame
  rw [if_neg (by simp [sum]), named]
  exact if_pos h

variable (enabled : s.gauges[g].config.enabled = true)
include enabled

theorem State.takeFrame_of_ok (h : bits.toNat / 2 ^ 32 % 4 = 0) : s.takeFrame link bits = s.okFrame g (bits.extractLsb' 8 24) := by
  rw [← status_toNat] at h
  unfold State.takeFrame
  rw [if_neg (by simp [sum]), named]
  dsimp only
  rw [if_neg (by rw [enabled]; decide), h]
  rfl

/-- A frame with status OVER or OPEN makes the fault, with its raise where there was none. -/
theorem State.takeFrame_of_fault (h : bits.toNat / 2 ^ 32 % 4 = 1 ∨ bits.toNat / 2 ^ 32 % 4 = 2) :
    s.takeFrame link bits =
      let r := s.gauges[g].run
      let faulted := s.updGauge g fun r =>
        { r with
          fault := some (if bits.toNat / 2 ^ 32 % 4 = 1 then .over else .open), runningFault := r.runningFault || r.fault.isNone }
      if r.fault.isSome then faulted
      else faulted.raise
        { source := .gaugeFault g, action := s.gauges[g].config.faultAction, method := s.gauges[g].config.method
          seconds := s.gauges[g].config.seconds, active := true } [s.gauges[g].config.zone] := by
  have taken (cause : FaultCause) : s.faultFrame g cause =
      let r := s.gauges[g].run
      let faulted := s.updGauge g fun r => { r with fault := some cause, runningFault := r.runningFault || r.fault.isNone }
      if r.fault.isSome then faulted
      else faulted.raise
        { source := .gaugeFault g, action := s.gauges[g].config.faultAction, method := s.gauges[g].config.method
          seconds := s.gauges[g].config.seconds, active := true } [s.gauges[g].config.zone] := by
    unfold State.faultFrame State.enterFault
    rw [State.raiseGauge_updGauge]
    refine ite_congr rfl (fun active => ?_) fun clear => ?_
    · obtain ⟨cause', fault⟩ := Option.isSome_iff_exists.mp active
      refine State.updGauge_of_eq ?_
      simp only [fault, Option.isNone_some, Bool.or_false]
    · have fault : s.gauges[g].run.fault = none := by simpa using clear
      refine congrArg (fun u => State.raise u _ _ _) (State.updGauge_of_eq ?_)
      simp only [fault, Option.isNone_none, Bool.or_true]
  unfold State.takeFrame
  rw [if_neg (by simp [sum]), named]
  dsimp only
  rw [if_neg (by rw [enabled]; decide), status_toNat]
  obtain status | status := h <;> rw [status] <;> exact taken _
end

/-- What taking a frame leaves. -/
theorem State.takeFrame_of_field {α : Type} {π : State → α} (h : Protects fun s t => π t = π s)
    (setGauges : ∀ s x, π (s.setGauges x) = π s := by intros; rfl) (s : State) (link : Fin 2) (bits : BitVec 40) :
    π (s.takeFrame link bits) = π s := by
  have strains : Strains fun s t => π t = π s := { toHands := h.hands, updGauge := fun _ _ _ _ => setGauges _ _ }
  exact strains.takeFrame s link bits

/-- The receiver waits, the frame in it. -/
def State.linked (s : State) (link : Fin 2) (bits : BitVec 40) : State :=
  s.updLink link fun _ => { state := .waiting, count := 40, bits := bits }

theorem exec_gaugeFrame (link : Fin 2) (bits : BitVec 40) (s : State) :
    exec (.gaugeFrame link bits) s = .next ((s.linked link bits).takeFrame link bits) := rfl

theorem State.linked_takeFrame_links (s : State) (link : Fin 2) (bits : BitVec 40) :
    ((s.linked link bits).takeFrame link bits).links = s.links.set link { state := .waiting, count := 40, bits := bits } :=
  State.takeFrame_of_field (protects_of_field State.links) (s := s.linked link bits) (link := link) (bits := bits)

/-- A frame that acts on no gauge moves the receiver only. -/
theorem State.linked_discarded {s t : State} {link : Fin 2} {bits : BitVec 40} (h : t = s.linked link bits) :
    { t with links := s.links } = s := by
  rw [h]
  rfl

section
variable {s : State} {g : Fin 64}

theorem State.faultHanded_gauges (active : Bool) : (s.faultHanded g active).gauges = s.gauges := by
  have same := congrArg State.gauges (State.faultHanded_aside g active s s)
  exact same

theorem State.windowHanded_holds (s : State) (g : Fin 64) (x : GaugeConfig) (q : PortId) :
    (s.windowHanded g x false true).holds q .alarm = true :=
  State.raise_holds _ _ _ (by simp) q

theorem State.windowHanded_inactive (s : State) (g : Fin 64) (x : GaugeConfig) :
    (s.windowHanded g x true false).Inactive (.gaugeWindow g) := by
  rw [State.windowHanded, if_neg (by decide), if_pos rfl]
  exact s.clear_inactive (.gaugeWindow g)

/-- The clear of the fault leaves no active entry of it, and what the window check hands over brings none. -/
theorem State.handed_inactive {active : Bool} (was : active = true) (x : GaugeConfig) (before after : Bool) :
    ((s.faultHanded g active).windowHanded g x before after).Inactive (.gaugeFault g) := by
  have cleared : (s.faultHanded g active).Inactive (.gaugeFault g) := .of_ite was
  unfold State.windowHanded
  split
  · exact cleared
  · split
    · exact cleared.clear _
    · exact cleared.raise (by simp) _ _
end

/-- Taking a frame moves the running fields of the gauge it names only. -/
theorem State.takeFrame_apart {s : State} {link : Fin 2} {bits : BitVec 40} {g : Fin 64} (sum : frameSum bits = 0xFF#8)
    (named : linkGauge link (bits.extractLsb' 34 6) = some g) :
    ∃ r, (s.takeFrame link bits).gauges = s.gauges.set g { s.gauges[g] with run := r } := by
  have same : s.gauges = s.gauges.set g { s.gauges[g] with run := s.gauges[g].run } := (Vector.set_getElem_self g.isLt).symm
  by_cases enabled : s.gauges[g].config.enabled = true
  · by_cases ok : bits.toNat / 2 ^ 32 % 4 = 0
    · rw [State.takeFrame_of_ok sum named enabled ok, State.okFrame_eq]
      exact ⟨_, rfl⟩
    · by_cases status : bits.toNat / 2 ^ 32 % 4 = 3
      · rw [State.takeFrame_of_status status]
        exact ⟨_, same⟩
      · rw [State.takeFrame_of_fault sum named enabled (by omega)]
        dsimp only
        split
        · exact ⟨_, rfl⟩
        · exact ⟨_, ((protects_of_field State.gauges).lists false).raise _ _ _⟩
  · rw [State.takeFrame_of_disabled sum named (Bool.eq_false_iff.mpr enabled)]
    exact ⟨_, same⟩

/-- Settles O41, by the check byte, the channel, the gauge and the status. -/
theorem gaugeFramesActByStatus : Obligations.GaugeFramesActByStatus := by
  intro link bits s
  refine ⟨_, rfl, s.linked_takeFrame_links link bits, fun discarded => ?_, fun g named channel sum => ?_⟩
  · refine State.linked_discarded (link := link) (bits := bits) ?_
    obtain sum | status | unnamed := discarded
    · exact State.takeFrame_of_sum fun check => sum ((frameSum_iff bits).mp check)
    · exact State.takeFrame_of_status status
    · exact State.takeFrame_of_unnamed (linkGauge_none bits link unnamed)
  have sum := (frameSum_iff bits).mpr sum
  have named := (linkGauge_iff bits link g).mpr ⟨named, channel⟩
  obtain ⟨run, gauges⟩ := State.takeFrame_apart (s := s.linked link bits) sum named
  refine ⟨fun disabled => State.linked_discarded (State.takeFrame_of_disabled sum named disabled), fun g' other => ?_, ?_,
    fun enabled ok => ?ok, fun enabled status => ?fault⟩
  · have apart : g.val ≠ g'.val := fun same => other (Fin.ext same.symm)
    simp only [State.linked] at gauges
    simp only [gauges]
    exact Vector.getElem_set_ne g.isLt g'.isLt apart
  · simp only [State.linked] at gauges
    simp only [gauges, Fin.getElem_fin, Vector.getElem_set_self]
    rfl
  case ok =>
    let x := s.gauges[g].config
    let raw := bits.extractLsb' 8 24
    let r := s.gauges[g].run
    have taken : (s.linked link bits).takeFrame link bits = _ :=
      (State.takeFrame_of_ok (s := s.linked link bits) sum named enabled ok).trans (State.okFrame_eq _ _ _)
    have record : ((s.linked link bits).takeFrame link bits).gauges[g].run = r.framed x raw := by
      rw [taken]
      simp only [State.setGauges_gauges, Fin.getElem_fin, Vector.getElem_set_self]
      rfl
    obtain ⟨lastRaw, current, currentSat, fault, off, on, running, runningSat, runningFault, last, baseline, capture, count⟩ :=
      GaugeRun.framed_fields record
    refine ⟨lastRaw, current, currentSat, fault, off, on, running, runningSat, runningFault, last, baseline, capture, count,
      fun active => ?_⟩
    have cleared : ((s.linked link bits).takeFrame link bits).Inactive (.gaugeFault g) := by
      rw [taken]
      exact (State.handed_inactive (Option.isSome_iff_ne_none.mpr active) _ _ _).of_zones
    exact cleared
  case fault =>
    have taken := State.takeFrame_of_fault (s := s.linked link bits) sum named enabled status
    dsimp only at taken
    have linked : (s.linked link bits).gauges = s.gauges := rfl
    have links := s.linked_takeFrame_links link bits
    simp only [linked] at taken
    by_cases active : s.gauges[g].run.fault.isSome = true
    · rw [if_pos active] at taken
      have record := congrArg (fun t : State => t.gauges[g].run) taken
      simp only [State.updGauge, linked, State.setGauges_gauges, Fin.getElem_fin, Vector.getElem_set_self] at record
      refine ⟨record, fun none => by rw [none] at active; exact absurd active (by decide), fun _ => ?_⟩
      exact (congrArg (fun t : State => { t with links := s.links, gauges := s.gauges }) taken).trans rfl
    · rw [if_neg active] at taken
      have raised := (congrArg State.gauges taken).trans (((protects_of_field State.gauges).lists false).raise _ _ _)
      have record := congrArg (fun v : Vector Gauge 64 => v[g].run) raised
      simp only [State.updGauge, linked, State.setGauges_gauges, Fin.getElem_fin, Vector.getElem_set_self] at record
      refine ⟨record, fun _ => ⟨fun q => ?_, ?_⟩, fun some => absurd (Option.isSome_iff_ne_none.mpr some) active⟩
      · have alarm : ((s.linked link bits).takeFrame link bits).holds q .alarm = true := by
          rw [taken]
          exact State.raise_holds _ _ _ (by simp) q
        exact alarm
      · have whole : (s.linked link bits).takeFrame link bits = State.raise
            { s with links := ((s.linked link bits).takeFrame link bits).links
                     gauges := ((s.linked link bits).takeFrame link bits).gauges }
            { source := .gaugeFault g, action := s.gauges[g].config.faultAction, method := s.gauges[g].config.method
              seconds := s.gauges[g].config.seconds, active := true } [s.gauges[g].config.zone] := by
          rw [links, raised]
          exact taken
        exact whole

/-- Settles O42, from what an OK frame hands over and the window check makes of the running fields. -/
theorem windowCheckCountsSamples : Obligations.WindowCheckCountsSamples := by
  intro link bits g s sum status named enabled
  have status : bits.toNat / 2 ^ 32 % 4 = 0 := by rw [← status_toNat, status]; rfl
  have run : (s.linked link bits).takeFrame link bits = _ :=
    (State.takeFrame_of_ok (s := s.linked link bits) sum named enabled status).trans (State.okFrame_eq _ _ _)
  have linked : (s.linked link bits).gauges = s.gauges := rfl
  have links := s.linked_takeFrame_links link bits
  let x := s.gauges[g].config
  let raw := bits.extractLsb' 8 24
  let r := s.gauges[g].run
  have gauges := congrArg State.gauges run
  have record : ((s.linked link bits).takeFrame link bits).gauges[g].run = r.framed x raw := by
    rw [run]
    simp only [State.setGauges_gauges, Fin.getElem_fin, Vector.getElem_set_self]
    rfl
  let t := (s.linked link bits).takeFrame link bits
  have handed : t = ((({ s with links := t.links } : State).faultHanded g r.fault.isSome).windowHanded g x r.window
      t.gauges[g].run.window).setGauges t.gauges := by
    rw [links, record, gauges]
    exact run
  obtain ⟨window, out, into⟩ := r.framed_window x raw
  rw [← record] at window out into
  obtain ⟨still, more, raised, back, again, cleared⟩ := GaugeRun.windowed_counts window out into
  refine ⟨_, rfl, handed, _, (congrArg GaugeRun.current record).trans (r.framed_current x raw), still, more,
    fun clear no many => ⟨raised clear no many, fun q => ?alarm⟩, back, again,
    fun active yes many => ⟨cleared active yes many, ?inactive⟩⟩
  case alarm =>
    have alarm : t.holds q .alarm = true := by
      obtain ⟨-, -, after⟩ := raised clear no many
      rw [handed, clear, after]
      exact State.windowHanded_holds _ g x q
    exact alarm
  case inactive =>
    have inactive : t.Inactive (.gaugeWindow g) := by
      obtain ⟨-, -, after⟩ := cleared active yes many
      have zones := (congrArg State.zones handed).trans (State.setGauges_zones _ _)
      rw [active, after] at zones
      exact (State.windowHanded_inactive _ g x).of_zones zones
    exact inactive

end Sys2Proof.Machine


/-! The cycle picture of the strain unit (R108 to R110) and O45. -/
namespace Sys2Proof.Machine

/-! ### Turning the records of a vector one by one -/

/-- A fold that turns the record of each index it visits, over distinct indices. -/
theorem foldl_turns {α : Type} {n : Nat} {f : State → Fin n → State} {π : State → Vector α n} {k : α → α}
    (turn : ∀ s i, π (f s i) = (π s).set i (k (π s)[i])) {l : List (Fin n)} (distinct : l.Nodup) (s : State) (i : Fin n) :
    (π (l.foldl f s))[i] = if i ∈ l then k (π s)[i] else (π s)[i] := by
  induction l generalizing s with
  | nil => simp
  | cons j l ih =>
    obtain ⟨first, distinct⟩ := List.nodup_cons.mp distinct
    have turned := turn s j
    rw [List.foldl_cons, ih distinct, turned]
    by_cases same : i = j
    · subst same
      simp [first]
    · have apart : j.val ≠ i.val := fun h => same (Fin.ext h.symm)
      simp [same, Vector.getElem_set_ne _ _ apart]

theorem toList_eq_map {α : Type} {n : Nat} (v : Vector α n) : v.toList = (List.finRange n).map fun i => v[i] := by
  refine List.ext_getElem (by simp) fun i h k => ?_
  simp

/-! ### One gauge's cycle (R108 to R110) -/

theorem half_sub (a b : Half) : half (a.toInt - b.toInt) = a - b := by
  rw [half]
  refine BitVec.eq_of_toInt_eq ?_
  rw [BitVec.toInt_ofInt, BitVec.toInt_sub]

/-- The drift count that the check leaves, where it is made. -/
def GaugeRun.driftChecked (x : GaugeConfig) (d : Nat) (r : GaugeRun) : GaugeRun :=
  if d ≤ x.driftLimit.toNat then { r with driftCount := 0 }
  else if r.driftCount + 1 < x.m then { r with driftCount := r.driftCount + 1 }
  else { r with driftCount := 0 }

/-- The check is made and raises: the drift is above the limit for the M-th time in a row. -/
def Gauge.drifts (x : Gauge) : Bool :=
  x.drift?.any fun d => !decide (d ≤ x.config.driftLimit.toNat) && !decide (x.run.driftCount + 1 < x.config.m)

/-- A gauge after its drift check. -/
def Gauge.checked (x : Gauge) : Gauge :=
  match x.drift? with
  | none => x
  | some d => { x with run := x.run.driftChecked x.config d }

/-- A gauge after its part of a boundary. -/
def Gauge.closed (x : Gauge) : Gauge :=
  if x.config.enabled then ({ x with run := x.run.transferred } : Gauge).checked else x

/-- What a drift check hands over. -/
def State.driftRaised (s : State) (g : Fin 64) (x : Gauge) : State :=
  if x.drifts then
    s.raise
      { source := .gaugeDrift g, action := x.config.driftAction, method := x.config.method, seconds := x.config.seconds
        active := false } [x.config.zone] true
  else s

theorem State.driftRaised_setGauges (s : State) (g : Fin 64) (x : Gauge) (v : Vector Gauge 64) :
    (s.setGauges v).driftRaised g x = (s.driftRaised g x).setGauges v := by
  refine commutes_setGauges (f := fun s => s.driftRaised g x) (fun s y => ?_) s v
  unfold State.driftRaised
  split
  · exact State.raise_aside s y _ _ _
  · rfl

theorem State.driftCheck_eq (s : State) (g : Fin 64) :
    s.driftCheck g = (s.driftRaised g s.gauges[g]).setGauges (s.gauges.set g s.gauges[g].checked) := by
  rw [← State.driftRaised_setGauges]
  unfold State.driftCheck Gauge.checked State.driftRaised Gauge.drifts
  cases drift : s.gauges[g].drift? with
  | none =>
    dsimp only [Option.any_none]
    exact congrArg s.setGauges (Vector.set_getElem_self g.isLt).symm
  | some d =>
    dsimp only [Option.any_some]
    unfold GaugeRun.driftChecked
    by_cases low : d ≤ s.gauges[g].config.driftLimit.toNat
    · simp only [low, decide_true, Bool.not_true, Bool.false_and, Bool.false_eq_true, if_true, if_false]
      rfl
    · by_cases few : s.gauges[g].run.driftCount + 1 < s.gauges[g].config.m
      · simp only [low, few, decide_true, decide_false, Bool.not_true, Bool.not_false, Bool.and_false, Bool.false_eq_true, if_true,
          if_false]
        rfl
      · rw [if_neg low, if_neg few, if_neg low, if_neg few, State.raiseGauge_updGauge]
        simp only [low, few, decide_false, Bool.not_false, Bool.and_self, if_true]
        rfl

/-- One gauge's part of a boundary turns its record, and hands over the drift raise. -/
theorem State.closeCycle_eq (s : State) (g : Fin 64) :
    s.closeCycle g =
      (if s.gauges[g].config.enabled then s.driftRaised g { s.gauges[g] with run := s.gauges[g].run.transferred } else s).setGauges
        (s.gauges.set g s.gauges[g].closed) := by
  have record : (s.updGauge g GaugeRun.transferred).gauges[g] = { s.gauges[g] with run := s.gauges[g].run.transferred } := by
    simp only [State.updGauge, State.setGauges_gauges, Fin.getElem_fin, Vector.getElem_set_self]
  unfold State.closeCycle Gauge.closed
  split
  · rw [State.driftCheck_eq, record, State.updGauge, State.driftRaised_setGauges]
    simp only [State.setGauges_gauges, Vector.set_set]
    rfl
  · exact congrArg s.setGauges (Vector.set_getElem_self g.isLt).symm

theorem State.closeCycle_gauges (s : State) (g : Fin 64) : (s.closeCycle g).gauges = s.gauges.set g s.gauges[g].closed := by
  rw [State.closeCycle_eq]
  rfl

theorem State.closeCycles_gauge (s : State) (g : Fin 64) : s.closeCycles.gauges[g] = s.gauges[g].closed := by
  have closed := foldl_turns (f := State.closeCycle) (π := State.gauges) State.closeCycle_gauges (List.nodup_finRange 64) s g
  rw [if_pos (List.mem_finRange g)] at closed
  exact closed

end Sys2Proof.Machine


/-! O45: CAPTURE_BASELINE, and what a boundary makes of a gauge. -/
namespace Sys2Proof.Machine

/-! ### The records of a gauge at a boundary -/

section
variable (r : GaugeRun)

/-- The running extremes become the last-cycle result, whether a capture takes its range or not. -/
theorem GaugeRun.transferred_cycle :
    r.transferred.last = r.running ∧ r.transferred.lastSat = r.runningSat ∧ r.transferred.lastFault = r.runningFault
      ∧ r.transferred.running = none ∧ r.transferred.runningSat = false ∧ r.transferred.runningFault = r.fault.isSome := by
  unfold GaugeRun.transferred
  cases running : r.running <;> cases capture : r.capture <;> simp [running, capture]

/-- A pending capture of a gauge with samples takes their range as its baseline. -/
theorem GaugeRun.transferred_of_captured {e : Extremes} (running : r.running = some e) (capture : r.capture = true) :
    r.transferred.baseline = some (e.peak - e.valley) ∧ r.transferred.capture = false ∧ r.transferred.driftCount = 0 := by
  simp [GaugeRun.transferred, running, capture, Extremes.range, half_sub]

theorem GaugeRun.transferred_of_uncaptured (h : r.running = none ∨ r.capture = false) :
    r.transferred.baseline = r.baseline ∧ r.transferred.capture = r.capture ∧ r.transferred.driftCount = r.driftCount := by
  unfold GaugeRun.transferred
  cases running : r.running <;> cases capture : r.capture <;> simp [running, capture] at h ⊢

/-- A drift check moves the drift count only. -/
theorem GaugeRun.driftChecked_rest (x : GaugeConfig) (d : Nat) : { r.driftChecked x d with driftCount := r.driftCount } = r := by
  unfold GaugeRun.driftChecked
  split
  · rfl
  · split <;> rfl
end

section
variable (x : Gauge)

theorem Gauge.checked_rest : { x.checked.run with driftCount := x.run.driftCount } = x.run := by
  unfold Gauge.checked
  split
  · rfl
  · exact x.run.driftChecked_rest _ _

theorem Gauge.checked_of_none (h : x.drift? = none) : x.checked = x ∧ x.drifts = false := by
  simp [Gauge.checked, Gauge.drifts, h]

theorem Gauge.checked_of_some {d : Nat} (h : x.drift? = some d) :
    x.checked = { x with run := x.run.driftChecked x.config d } := by
  simp [Gauge.checked, h]

/-- The check is made where there is a baseline, a limit and a last-cycle result (R110). -/
theorem Gauge.drift?_eq {b : Half} {e : Extremes} (baseline : x.run.baseline = some b) (last : x.run.last = some e)
    (limit : x.config.driftLimit ≠ 0#16) : x.drift? = some ((((e.peak - e.valley).toNat : Int) - b.toNat).natAbs) := by
  have above : x.config.driftLimit.toNat ≠ 0 := fun zero => limit (BitVec.eq_of_toNat_eq zero)
  simp [Gauge.drift?, baseline, last, above, Extremes.range, half_sub]

theorem Gauge.drift?_none (h : x.run.last = none ∨ x.run.baseline = none ∨ x.config.driftLimit = 0#16) : x.drift? = none := by
  unfold Gauge.drift?
  split
  · next b e baseline last =>
    have limit : x.config.driftLimit.toNat = 0 := by
      obtain none | none | zero := h
      · simp [last] at none
      · simp [baseline] at none
      · rw [zero]; rfl
    exact if_pos limit
  all_goals rfl
end

/-! ### The update around the strain unit's part -/

theorem State.autoSnapshot_of_field {α : Type} {π : State → α} (setQueue : ∀ s x, π (s.setQueue x) = π s := by intros; rfl)
    (s : State) : π s.autoSnapshot = π s := by
  unfold State.autoSnapshot
  split
  · rfl
  · split
    · rfl
    · split
      · exact (setQueue _ _).trans (setQueue _ _)
      · exact setQueue _ _

/-- The update up to the strain unit's part of a boundary. -/
def State.noticed (s : State) : State := (s.updateSetpoints.arrive s.updateDemand).boundaryRemovals

theorem State.noticed_gauges (s : State) : s.noticed.gauges = s.gauges := by
  rw [State.noticed, State.boundaryRemovals_gauges, State.arrive_gauges]
  exact (generates_of_field State.gauges).updateGenerator s

theorem State.update_of_carry {s : State} (carries : s.gen.carries = true) :
    s.update = s.noticed.closeCycles.autoSnapshot.syncPause := if_pos carries

/-- A boundary closes each gauge's cycle. -/
theorem State.update_gauge {s : State} (carries : s.gen.carries = true) (g : Fin 64) : s.update.gauges[g] = s.gauges[g].closed := by
  rw [State.update_of_carry carries]
  have queue := s.noticed.closeCycles.autoSnapshot.syncPause_gauges.trans
    (State.autoSnapshot_of_field (π := State.gauges) (s := s.noticed.closeCycles))
  have closed := s.noticed.closeCycles_gauge g
  simp only [State.noticed_gauges] at closed
  simp only [queue, closed]

theorem State.update_gauge_of_uncarried {s : State} (h : s.gen.carries = false) : s.update.gauges = s.gauges := by
  have whole : s.update = s.updateSetpoints.arrive s.updateDemand := if_neg (by rw [h]; decide)
  rw [whole, State.arrive_gauges]
  exact (generates_of_field State.gauges).updateGenerator s

/-! ### The drift raise (R110) -/

theorem State.closeCycle_of_drift {s : State} {g : Fin 64} (enabled : s.gauges[g].config.enabled = true)
    (drifts : ({ s.gauges[g] with run := s.gauges[g].run.transferred } : Gauge).drifts = true) :
    s.closeCycle g =
      { s.raise
          { source := .gaugeDrift g, action := s.gauges[g].config.driftAction, method := s.gauges[g].config.method
            seconds := s.gauges[g].config.seconds, active := false } [s.gauges[g].config.zone] true with
        gauges := (s.closeCycle g).gauges } := by
  rw [State.closeCycle_gauges]
  refine (State.closeCycle_eq s g).trans ?_
  rw [if_pos enabled, State.driftRaised, if_pos drifts]
  rfl

/-- A drift raise of a boundary is an ALARM at every port. -/
theorem State.update_holds_of_drift {s : State} (carries : s.gen.carries = true) {g : Fin 64}
    (enabled : s.gauges[g].config.enabled = true)
    (drifts : ({ s.gauges[g] with run := s.gauges[g].run.transferred } : Gauge).drifts = true) (q : PortId) :
    s.update.holds q .alarm = true := by
  obtain ⟨pre, post, split, before, -⟩ := exists_split (List.mem_finRange g)
    (List.nodup_iff_count.mp (List.nodup_finRange 64) g)
  have distinct := List.nodup_finRange 64
  rw [split] at distinct
  have reached : (pre.foldl State.closeCycle s.noticed).gauges[g] = s.gauges[g] := by
    have kept := foldl_turns (f := State.closeCycle) (π := State.gauges) State.closeCycle_gauges (List.nodup_append.mp distinct).1
      s.noticed g
    rw [if_neg before] at kept
    simp only [State.noticed_gauges] at kept
    exact kept
  have raised : ((pre.foldl State.closeCycle s.noticed).closeCycle g).holds q .alarm = true := by
    rw [State.closeCycle_of_drift (by rw [reached]; exact enabled) (by rw [reached]; exact drifts)]
    exact State.raise_holds _ _ true (by simp) q
  have rest := latches_composes.foldl
    (fun s g => latches_composes.updates.strains.closeCycle (fun own _ => (latches_composes.lists true).raise _ _ own) s g) post
    ((pre.foldl State.closeCycle s.noticed).closeCycle g)
  have after := latches_composes.trans rest
    (latches_composes.trans (latches_composes.updates.autoSnapshot _) (latches_composes.syncPause _))
  have run : s.update = (post.foldl State.closeCycle ((pre.foldl State.closeCycle s.noticed).closeCycle g)).autoSnapshot.syncPause := by
    rw [State.update_of_carry carries, State.closeCycles, split, List.foldl_append, List.foldl_cons]
  rw [run]
  exact after.holds (by decide) raised

/-! ### CAPTURE_BASELINE (R112) -/

theorem State.armCaptures_gauge (s : State) (g : Fin 64) :
    s.armCaptures.gauges[g].config = s.gauges[g].config
      ∧ s.armCaptures.gauges[g].run
          = { s.gauges[g].run with capture := s.gauges[g].run.capture || s.gauges[g].config.enabled } := by
  have turned : s.armCaptures.gauges[g]
      = if s.gauges[g].config.enabled then { s.gauges[g] with run := { s.gauges[g].run with capture := true } } else s.gauges[g] := by
    simp [State.armCaptures]
  rw [turned]
  split
  · next enabled => simp only [enabled, Bool.or_true, and_self]
  · next disabled => simp only [Bool.eq_false_iff.mpr disabled, Bool.or_false, and_self]

theorem State.capturesPending_eq (s : State) :
    s.capturesPending = ((List.finRange 64).filter fun g => s.gauges[g].run.capture).length := by
  rw [State.capturesPending, toList_eq_map, List.filter_map, List.length_map]
  rfl

/-- Settles O45: the capture request, and at a boundary the cycle's transfer, the baseline and the drift check. -/
theorem baselinesAreCapturedAtABoundary : Obligations.BaselinesAreCapturedAtABoundary := by
  intro s
  refine ⟨?request, fun carries => ⟨s.noticed, s.noticed_gauges, ?_⟩, fun g disabled => ⟨_, rfl, ?_⟩, fun g carries enabled => ?_⟩
  case request =>
    refine ⟨_, congrArg Host.Outcome.next (State.serve_ok (r := .captureBaseline) rfl rfl), fun g => ?_, ?_, ?_, rfl⟩
    · rw [State.answer_gauges]
      exact s.armCaptures_gauge g
    · rw [State.answer_answerOf, answerBytes_ok_one, State.answer_gauges]
      simp only [byteOf, State.capturesPending_eq]
    · intro q
      rw [State.answer_eventStatus]
      rfl
  · exact congrArg Host.Outcome.next ((if_pos carries).trans (State.update_of_carry carries))
  · by_cases carries : s.gen.carries = true
    · rw [State.update_gauge carries, Gauge.closed, if_neg (by rw [disabled]; decide)]
    · have kept := State.update_gauge_of_uncarried (Bool.eq_false_iff.mpr carries)
      simp only [kept]
  let r := s.gauges[g].run
  let x := s.gauges[g].config
  let moved : Gauge := { s.gauges[g] with run := r.transferred }
  have transferred : moved = { s.gauges[g] with run := r.transferred } := rfl
  have record : s.update.gauges[g].run = moved.checked.run := by
    rw [State.update_gauge carries, Gauge.closed, if_pos enabled]
  have rest := moved.checked_rest
  have field {α : Type} (π : GaugeRun → α) : π { moved.checked.run with driftCount := moved.run.driftCount } = π r.transferred :=
    congrArg π rest
  obtain ⟨last, lastSat, lastFault, running, runningSat, runningFault⟩ := r.transferred_cycle
  refine ⟨s.update, congrArg Host.Outcome.next (if_pos carries), ?_⟩
  rw [record]
  refine ⟨(field GaugeRun.last).trans last, (field GaugeRun.lastSat).trans lastSat, (field GaugeRun.lastFault).trans lastFault,
    (field GaugeRun.running).trans running, (field GaugeRun.runningSat).trans runningSat,
    (field GaugeRun.runningFault).trans runningFault, fun e samples capture => ?captured, fun uncaptured => ?uncaptured,
    fun unchecked => ?unchecked, fun e b samples baseline capture limit => ?checked⟩
  case captured =>
    obtain ⟨range, none, zero⟩ := r.transferred_of_captured samples capture
    have taken : (s.gen.carries && s.gauges[g].config.enabled && s.gauges[g].run.capture && s.gauges[g].run.running.isSome) = true := by
      rw [carries, enabled, show s.gauges[g].run.capture = true from capture, show s.gauges[g].run.running = some e from samples]
      rfl
    refine ⟨congrArg Host.Outcome.next (if_pos taken), (field GaugeRun.baseline).trans range, (field GaugeRun.capture).trans none, ?_⟩
    by_cases limit : x.driftLimit = 0#16
    · rw [(moved.checked_of_none (moved.drift?_none (.inr (.inr limit)))).1]
      exact zero
    · have drift := moved.drift?_eq (b := e.peak - e.valley) range (last.trans samples) limit
      rw [moved.checked_of_some drift, GaugeRun.driftChecked, if_pos (by simp)]
  case uncaptured =>
    obtain ⟨baseline, capture, -⟩ := r.transferred_of_uncaptured uncaptured
    exact ⟨(field GaugeRun.baseline).trans baseline, (field GaugeRun.capture).trans capture⟩
  case unchecked =>
    have uncaptured : r.running = none ∨ r.capture = false := unchecked.imp_right And.left
    obtain ⟨baseline, -, count⟩ := r.transferred_of_uncaptured uncaptured
    have none : moved.drift? = none := by
      refine moved.drift?_none ?_
      obtain empty | ⟨-, unset | off⟩ := unchecked
      · exact .inl (last.trans empty)
      · exact .inr (.inl (baseline.trans unset))
      · exact .inr (.inr off)
    rw [(moved.checked_of_none none).1]
    exact count
  case checked =>
    obtain ⟨kept, -, count⟩ := r.transferred_of_uncaptured (.inr capture)
    have drift := moved.drift?_eq (kept.trans baseline) (last.trans samples) limit
    rw [moved.checked_of_some drift]
    have count : moved.run.driftCount = r.driftCount := count
    refine ⟨fun low => ?low, fun high few => ?few, fun high many => ?many⟩
    case low => rw [GaugeRun.driftChecked, if_pos low]
    case few => rw [GaugeRun.driftChecked, if_neg (by exact Nat.not_le.mpr high), count, if_pos (by exact few)]
    case many =>
      have drifts : moved.drifts = true := by
        rw [Gauge.drifts, drift, Option.any_some, count]
        simp only [Bool.and_eq_true, Bool.not_eq_true', decide_eq_false_iff_not]
        exact ⟨Nat.not_le.mpr high, Nat.not_lt.mpr many⟩
      refine ⟨?_, State.update_holds_of_drift carries enabled drifts, fun u same => ?_⟩
      · rw [GaugeRun.driftChecked, if_neg (by exact Nat.not_le.mpr high), count, if_neg (by exact Nat.not_lt.mpr many)]
      · have raised := State.closeCycle_of_drift (s := u) (g := g) (by rw [same]; exact enabled) (by rw [same]; exact drifts)
        simp only [same] at raised
        exact raised

end Sys2Proof.Machine


/-! The update (R26 to R30): what its parts are by the generator's state and the current block, what the parts after the generator's
leave of it, and O27. -/
namespace Sys2Proof.Machine

/-! ### What an update does after the generator's part -/

/-- A property that a pause and a resume keep holds after an update where it holds after the generator's part. -/
theorem Toggles.update {P : Generator → Prop} (h : Toggles P) (s : State) (hs : P s.updateGenerator.gen) : P s.update.gen := by
  have reported := (h.lists false).arrive s.updateSetpoints s.updateDemand hs
  unfold State.update
  dsimp only
  split
  · exact h.syncPause _ (h.autoSnapshot _ reported)
  · exact reported

/-- A pause and a resume move the state and the last reason only. -/
theorem toggles_rest (g : Generator) : Toggles fun x => { x with state := g.state, lastReason := g.lastReason } = g :=
  fun _ _ _ _ _ => id

/-- A resting generator neither pauses nor resumes. -/
theorem toggles_resting {g : Generator} (resting : g.state ≠ .running ∧ g.state ≠ .paused) : Toggles fun x => x = g := by
  rintro _ st r executing - rfl
  exact absurd executing (not_or.mpr resting)

theorem State.update_gen_rest (s : State) :
    { s.update.gen with state := s.updateGenerator.gen.state, lastReason := s.updateGenerator.gen.lastReason }
      = s.updateGenerator.gen :=
  (toggles_rest _).update s rfl

theorem State.update_gen_of_resting (s : State)
    (resting : s.updateGenerator.gen.state ≠ .running ∧ s.updateGenerator.gen.state ≠ .paused) :
    s.update.gen = s.updateGenerator.gen :=
  (toggles_resting resting).update s rfl

/-- What the update does after the generator's part, for what every operation keeps. -/
theorem Composes.afterGenerator {R : State → State → Prop} (h : Composes R) (s : State) : R s.updateGenerator s.update := by
  have reported : R s.updateGenerator (s.updateSetpoints.arrive s.updateDemand) :=
    h.trans (h.updates.computeSetpoints _ _) ((h.lists false).arrive _ _)
  unfold State.update
  dsimp only
  split
  · exact h.trans reported (h.updates.boundaryNotice _)
  · exact reported

/-! ### The generator's part by the state and the current block -/

theorem State.commitNow_of_armed {s : State} (h : s.commit = .armedNow) : s.commitNow = s.applyCommit .appliedNow := if_pos h

theorem State.commitNow_of_other {s : State} (h : s.commit ≠ .armedNow) : s.commitNow = s := if_neg h

theorem State.commitNow_of_field {α : Type} {π : State → α} (setPorts : ∀ s x, π (s.setPorts x) = π s := by intros; rfl)
    (setQueue : ∀ s x, π (s.setQueue x) = π s := by intros; rfl) (setActiveSet : ∀ s x, π (s.setActiveSet x) = π s := by intros; rfl)
    (setCommit : ∀ s x, π (s.setCommit x) = π s := by intros; rfl) (s : State) : π s.commitNow = π s := by
  unfold State.commitNow
  split
  · exact (setPorts _ _).trans ((setQueue _ _).trans ((setCommit _ _).trans (setActiveSet _ _)))
  · rfl

theorem State.commitNow_gen (s : State) : s.commitNow.gen = s.gen := State.commitNow_of_field (π := State.gen) (s := s)

theorem State.updateGenerator_of_uncarried {s : State} (h : s.gen.carries = false) : s.updateGenerator = s.commitNow.advance := by
  unfold State.updateGenerator
  dsimp only
  rw [if_neg (by rw [s.commitNow_gen, h]; decide)]

theorem State.updateGenerator_of_carry {s : State} (h : s.gen.carries = true) :
    s.updateGenerator = s.commitNow.advance.commitAtBoundary := by
  unfold State.updateGenerator
  dsimp only
  rw [if_pos (by rw [s.commitNow_gen, h])]

section
variable {s : State} {i : Fin 64}

theorem State.advance_of_still (h : s.gen.state ≠ .running) : s.advance = s := by
  unfold State.advance
  cases state : s.gen.state <;> simp_all

theorem Generator.carries_of_still {g : Generator} (h : g.state ≠ .running) : g.carries = false := by
  simp [Generator.carries, h]

variable (current : s.gen.current = some i)
include current

theorem Generator.currentBlock_of_current {b : Block} (block : s.gen.program[i] = b) : s.gen.currentBlock = some b := by
  rw [Generator.currentBlock, current, ← block]
  rfl

/-- Only a CYCLE carries. -/
theorem Generator.carries_of_uncycled (uncycled : ∀ a f n, s.gen.program[i] ≠ .cycle a f n) : s.gen.carries = false := by
  have below : s.gen.phaseSum < 2 ^ 32 := by
    rw [Generator.phaseSum, Generator.currentBlock_of_current current rfl]
    have phase := s.gen.phase.isLt
    cases block : s.gen.program[i] <;> simp_all
  simp only [Generator.carries, Bool.and_eq_false_iff, decide_eq_false_iff_not]
  exact .inr (Nat.not_le.mpr below)

variable (running : s.gen.state = .running)
include running

theorem State.advance_of_ramp {target rate : Half} (block : s.gen.program[i] = .ramp target rate) :
    s.advance =
      let mean := if s.gen.pendingAdvance then s.gen.mean else rampStep s.gen.mean target rate
      let stepped := s.setGen { s.gen with mean := mean }
      if s.gen.pendingAdvance ∨ mean = target then stepped.transition (i.val + 1) false s.gen.pendingAdvance else stepped := by
  simp only [State.advance, running, State.advanceBlock, current, Generator.currentBlock_of_current current block]

theorem State.advance_of_dwell {d : Word} (block : s.gen.program[i] = .dwell d) :
    s.advance =
      let counted := s.setGen { s.gen with countdown := BitVec.ofNat 32 (s.gen.countdown.toNat - 1) }
      if s.gen.pendingAdvance ∨ s.gen.countdown.toNat ≤ 1 then counted.transition (i.val + 1) false s.gen.pendingAdvance
      else counted := by
  simp only [State.advance, running, State.advanceBlock, current, Generator.currentBlock_of_current current block]

theorem State.advance_of_cycle {a : Half} {f n : Word} (block : s.gen.program[i] = .cycle a f n) :
    s.advance = if s.gen.carries then s.boundarySteps i
      else s.setGen { s.gen with phase := BitVec.ofNat 32 s.gen.phaseSum } := by
  simp only [State.advance, running, State.advanceBlock, current, Generator.currentBlock_of_current current block]
end

/-! ### Out of RUNNING, and what an update hands on (R26) -/

theorem State.updateGenerator_gen_of_still {s : State} (h : s.gen.state ≠ .running) : s.updateGenerator.gen = s.gen := by
  rw [State.updateGenerator_of_uncarried (Generator.carries_of_still h), State.advance_of_still (by rw [s.commitNow_gen]; exact h),
    s.commitNow_gen]

/-- A step toward a goal arrives within the rate, and is the rate beyond it (R27, R47, R48). -/
theorem moveToward_toInt (prev goal : Half) (rate : Nat) :
    (moveToward prev goal rate).toInt =
      if (goal.toInt - prev.toInt).natAbs ≤ rate then goal.toInt
      else if prev.toInt < goal.toInt then prev.toInt + rate else prev.toInt - rate := by
  have goalRange := goal.toInt_lt
  have goalRange' := goal.le_toInt
  have prevRange := prev.toInt_lt
  have prevRange' := prev.le_toInt
  unfold moveToward
  split
  · rfl
  · split
    · exact half_toInt (by omega) (by omega)
    · exact half_toInt (by omega) (by omega)

/-- A CYCLE ends at a boundary when its count is through, or ADVANCE or a stop is pending (R30). -/
theorem Generator.cycleEnds_iff (g : Generator) :
    g.cycleEnds = true ↔ (g.endless = false ∧ g.remaining.toNat ≤ 1) ∨ g.pendingAdvance = true ∨ g.pendingStop = true := by
  have range := g.remaining.isLt
  have through : g.endless = false → (g.remainingAfter = 0#32 ↔ g.remaining.toNat ≤ 1) := by
    intro finite
    rw [Generator.remainingAfter, finite, if_neg (by decide), ← BitVec.toNat_inj, BitVec.toNat_ofNat, BitVec.toNat_ofNat]
    omega
  simp only [Generator.cycleEnds, Bool.or_eq_true, Bool.and_eq_true, Bool.not_eq_true', beq_iff_eq, or_assoc]
  exact or_congr_left (and_congr_right through)

/-- An update in RUNNING with a CYCLE current carries where the addition passes the accumulator's range (R29). -/
theorem Generator.carries_of_cycle {g : Generator} {i : Fin 64} {a : Half} {f n : Word} (running : g.state = .running)
    (current : g.current = some i) (block : g.program[i] = .cycle a f n) :
    g.phaseSum = g.phase.toNat + f.toNat ∧ (g.carries = true ↔ 2 ^ 32 ≤ g.phase.toNat + f.toNat) := by
  have sum : g.phaseSum = g.phase.toNat + f.toNat := by
    rw [Generator.phaseSum, Generator.currentBlock, current]
    simp only [Option.map_some, block]
  simp [Generator.carries, running, sum]

theorem Generator.drive_of_running {g : Generator} {i : Fin 64} {a : Half} {f n : Word} (running : g.state = .running)
    (current : g.current = some i) (block : g.program[i] = .cycle a f n) :
    g.drive = { mean := g.mean, amplitude := a
                index := if g.carries && g.cycleEnds then 0 else (g.phase.toNat + f.toNat) % 2 ^ 32 / 2 ^ 20 } := by
  rw [Generator.drive, running, Generator.currentBlock, current]
  simp only [Option.map_some, block, (Generator.carries_of_cycle running current block).1]

/-- Settles O27: the generator's part out of RUNNING, and the values handed on by the state and the block. -/
theorem updateFreezesAndHandsOn : Obligations.UpdateFreezesAndHandsOn := by
  intro s
  refine ⟨fun still => ⟨_, rfl, ?_, fun other => ?_⟩, fun resting => ?_, fun i current => ?_⟩
  · have rest := s.update_gen_rest
    rwa [State.updateGenerator_gen_of_still still] at rest
  · have resting := s.update_gen_of_resting
    rw [State.updateGenerator_gen_of_still still] at resting
    exact resting ⟨still, other⟩
  · obtain state | state := resting <;> simp only [Generator.drive, state]
  refine ⟨fun a f n block => ⟨fun paused => ?paused, fun running => ?cycle⟩, fun uncycled executing => ?uncycled,
    fun target rate block running => ?ramp, fun d block running => ?dwell⟩
  case paused =>
    have drive : s.gen.drive = { mean := s.gen.mean, amplitude := s.gen.amplitude, index := s.gen.sineIndex } := by
      simp only [Generator.drive, paused]
    have amplitude : s.gen.amplitude = a := by
      simp only [Generator.amplitude, Generator.currentBlock_of_current current block]
    exact drive.trans (congrArg (fun v => Drive.mk s.gen.mean v s.gen.sineIndex) amplitude)
  case cycle =>
    have carries := (Generator.carries_of_cycle running current block).2
    have ends := s.gen.cycleEnds_iff
    rw [Generator.drive_of_running running current block]
    refine ⟨rfl, rfl, fun below => ?_, fun above count advance stop => ?_, fun above due => ?_⟩
    · have still : s.gen.carries = false := Bool.eq_false_iff.mpr fun h => absurd (carries.mp h) (Nat.not_le.mpr below)
      exact (if_neg (by simp only [still, Bool.false_and, Bool.false_eq_true, not_false_eq_true])).trans
        (congrArg (· / 2 ^ 20) (Nat.mod_eq_of_lt below))
    · have goesOn : s.gen.cycleEnds = false := by
        refine Bool.eq_false_iff.mpr fun h => ?_
        obtain ⟨finite, last⟩ | pending | pending := ends.mp h
        · obtain endless | more := count
          · simp [finite] at endless
          · omega
        · simp [advance] at pending
        · simp [stop] at pending
      exact if_neg (by simp only [goesOn, Bool.and_false, Bool.false_eq_true, not_false_eq_true])
    · have through : s.gen.cycleEnds = true := ends.mpr (by
        obtain advance | stop | count := due
        · exact .inr (.inl advance)
        · exact .inr (.inr stop)
        · exact .inl count)
      exact if_pos (by simp only [carries.mpr above, through, Bool.and_self])
  case uncycled =>
    have block := Generator.currentBlock_of_current current (rfl : s.gen.program[i] = s.gen.program[i])
    have amplitude : s.gen.drive.amplitude = 0#16 ∧ s.gen.drive.index = s.gen.phase.toNat / 2 ^ 20 := by
      obtain state | state := executing <;> cases kind : s.gen.program[i] <;>
      simp_all [Generator.drive, Generator.amplitude, Generator.sineIndex]
    refine ⟨amplitude.1, amplitude.2, fun paused => ?_⟩
    simp only [Generator.drive, paused]
  case ramp =>
    have block := Generator.currentBlock_of_current current block
    have step := moveToward_toInt s.gen.mean target rate.toNat
    simp only [Generator.drive, running, block]
    refine ⟨trivial, fun pending => if_pos pending, fun free near => ?_, fun free above => ?_, fun free below => ?_⟩
    · exact (if_neg (by simp [free])).trans (if_pos near)
    · rw [if_neg (by simp [free]), rampStep, step, if_neg (by omega), if_pos (by omega)]
    · rw [if_neg (by simp [free]), rampStep, step, if_neg (by omega), if_neg (by omega)]
  case dwell =>
    simp only [Generator.drive, running, Generator.currentBlock_of_current current block, and_self]

end Sys2Proof.Machine


/-! The end of a block at an update (R27 to R35): the transition, its record and event, and the pause that the pause demand brings. -/
namespace Sys2Proof.Machine

/-! ### An armed NOW commit before it (R68) -/

theorem State.commitNow_nextSeq (s : State) :
    s.commitNow.queue.nextSeq = s.queue.nextSeq + (if s.commit = .armedNow then 1#16 else 0#16) := by
  unfold State.commitNow
  split
  · exact State.record_nextSeq _ _
  · simp

theorem Appends.commitNow (s : State) : s.Appends 1 s.commitNow := by
  unfold State.commitNow
  split
  · exact State.Appends.of_record _ _
  · exact State.Appends.of_records

theorem State.commitNow_length {s : State} {n : Nat} (room : s.queue.records.length + 1 ≤ n) (le : n ≤ 128 := by decide) :
    s.commitNow.queue.records.length ≤ n :=
  Nat.le_trans ((Appends.commitNow s).length_le (by omega)) room

/-! ### After a transition -/

/-- What stays of a transition over everything that an update does after it. -/
structure State.Follows (v t : State) : Prop where
  gen : { t.gen with state := v.gen.state, lastReason := v.gen.lastReason } = v.gen
  resting : v.gen.state ≠ .running ∧ v.gen.state ≠ .paused → t.gen = v.gen
  latches : v.Latches t
  retains : v.Retains t

theorem State.update_follows (s : State) : s.updateGenerator.Follows s.update :=
  ⟨s.update_gen_rest, s.update_gen_of_resting, latches_composes.afterGenerator s, retains_composes.afterGenerator s⟩

theorem State.Follows.of_composes {u v t : State} (h : v.Follows t) (gen : v.gen = u.gen) (latches : u.Latches v) (retains : u.Retains v) :
    u.Follows t :=
  ⟨by rw [← gen]; exact h.gen, fun resting => by rw [← gen] at resting ⊢; exact h.resting resting, latches_composes.trans latches h.latches,
    retains_composes.trans retains h.retains⟩

section
variable {w t : State} {n : Nat} {b : Bool} (follows : (w.transition n false b).Follows t)
include follows

theorem State.Follows.field {α : Type} (π : Generator → α)
    (kept : ∀ (g : Generator) (st : GenState) (r : Reason), π { g with state := st, lastReason := r } = π g := by intros; rfl) :
    π t.gen = π (w.gen.transitioned n false b) := by
  have same := congrArg π follows.gen
  rw [kept, State.transition_gen] at same
  exact same

theorem State.Follows.holds_genChange (q : PortId) : t.holds q .genChange = true := by
  obtain ⟨x, run⟩ := w.transition_eq n false b
  refine follows.latches.holds (by decide) ?_
  rw [run]
  exact State.addEvent_holds _ q

/-- A transition into a block that governs, after the rest of the update. -/
theorem State.Follows.of_governs {j : Fin 64} {jumped : Bool}
    (reached : (chain w.gen.program 8 n w.gen.loops false).2 = .governs j jumped) :
    t.gen.current = some j
      ∧ (w.queue.records.length < 128 →
        { seq := w.queue.nextSeq, stamp := w.stamp, cycle := w.gen.cycles
          body := .program j w.gen.program[j].kind .running (startReason false b jumped) } ∈ t.queue.records)
      ∧ (∀ d, w.gen.program[j] = .dwell d → t.gen.countdown = d)
      ∧ (∀ a f m, w.gen.program[j] = .cycle a f m → t.gen.remaining = m ∧ t.gen.endless = (m == 0#32)) := by
  have ended : chain w.gen.program 8 n w.gen.loops false = ((chain w.gen.program 8 n w.gen.loops false).1, .governs j jumped) :=
    Prod.ext rfl reached
  have entered := Generator.transitioned_of_governs ended false b
  refine ⟨?_, fun room => ?_, fun d block => ?_, fun a f m block => ⟨?_, ?_⟩⟩
  · rw [follows.field Generator.current, entered, Generator.enter_eq]
  · refine follows.retains _ ?_ rfl
    rw [State.transition_records_of_governs room ended]
    exact List.mem_append_right _ List.mem_cons_self
  · rw [follows.field Generator.countdown, entered]
    simp [Generator.enter, block]
  · rw [follows.field Generator.remaining, entered]
    simp [Generator.enter, block]
  · rw [follows.field Generator.endless, entered]
    simp [Generator.enter, block]

/-- A transition that ends the program, after the rest of the update. -/
theorem State.Follows.of_ends {j : Fin 64} {reason : Reason}
    (reached : (chain w.gen.program 8 n w.gen.loops false).2 = .ends j reason) :
    t.gen.current = none ∧ t.gen.state = .done ∧ t.gen.lastReason = reason ∧ t.gen.requestedPause = false
      ∧ (w.queue.records.length < 128 →
        { seq := w.queue.nextSeq, stamp := w.stamp, cycle := w.gen.cycles
          body := .program j w.gen.program[j].kind .done reason } ∈ t.queue.records) := by
  have ended : chain w.gen.program 8 n w.gen.loops false = ((chain w.gen.program 8 n w.gen.loops false).1, .ends j reason) :=
    Prod.ext rfl reached
  have rested := Generator.transitioned_of_ends ended false b
  have whole : t.gen = w.gen.transitioned n false b := by
    rw [← State.transition_gen]
    refine follows.resting ?_
    rw [State.transition_gen, rested]
    exact ⟨nofun, nofun⟩
  rw [whole, rested]
  refine ⟨rfl, rfl, rfl, rfl, fun room => follows.retains _ ?_ rfl⟩
  rw [State.transition_records_of_ends room ended]
  exact List.mem_append_right _ List.mem_cons_self
end

/-! ### The pause (R21, R146) -/

/-- With no pause input and a change that brings none, a change of a zone leaves a RUNNING generator as it is. -/
theorem State.changeZone_gen_of_free {s : State} (running : s.gen.state = .running) (free : s.pauseDemand = false)
    (unrequested : s.gen.requestedPause = false) {z : Fin 4} {st : ZoneState}
    (less : ({ s.zones[z] with state := st } : Zone).demandsPause = true → s.zones[z].demandsPause = true) :
    (s.changeZone z st false).pauseDemand = false ∧ (s.changeZone z st false).gen = s.gen := by
  have none (w : Fin 4) : s.zones[w].demandsPause = false := Bool.eq_false_iff.mpr fun h => by
    simp [s.pauseDemand_iff.mpr ⟨w, h⟩] at free
  have demand {t : State} (zones : t.zones = (s.updZone z fun x => { x with state := st }).zones) : t.pauseDemand = false := by
    refine Bool.eq_false_iff.mpr fun h => ?_
    obtain ⟨w, h⟩ := t.pauseDemand_iff.mp h
    rw [zones, State.updZone_get] at h
    split at h
    · exact absurd (less h) (by rw [none z]; decide)
    · exact absurd h (by rw [none w]; decide)
  refine ⟨demand (s.changeZone_zones z st false), ?_⟩
  unfold State.changeZone
  split
  · rfl
  · dsimp only
    rw [if_neg (by decide), State.syncPause_gen, demand (by simp [State.enterZone_zones])]
    simp [Generator.synced, State.enterZone_gen, running, unrequested]

/-- With no pause input, the arrival report leaves the generator as it is. -/
theorem State.arrive_gen_of_free {s : State} (running : s.gen.state = .running) (free : s.pauseDemand = false)
    (unrequested : s.gen.requestedPause = false) (d : Int) : (s.arrive d).gen = s.gen := by
  have stays : (s.arrive d).pauseDemand = false ∧ (s.arrive d).gen = s.gen := by
    refine foldl_holds (P := fun t : State => t.pauseDemand = false ∧ t.gen = s.gen) (fun z _ t reached => ?_) ⟨free, rfl⟩
    obtain ⟨none, gen⟩ := reached
    have lower {st : ZoneState}
        (less : ({ t.zones[z] with state := st } : Zone).demandsPause = true → t.zones[z].demandsPause = true) :
        (t.changeZone z st false).pauseDemand = false ∧ (t.changeZone z st false).gen = s.gen := by
      rw [← gen] at running unrequested ⊢
      exact State.changeZone_gen_of_free running none unrequested less
    unfold State.arriveIn
    split
    · next unloading =>
      refine lower fun demands => ?_
      simp only [Zone.demandsPause, unloading.1] at demands ⊢
      simpa using demands
    · split
      · exact lower (by simp [Zone.demandsPause])
      · exact ⟨none, gen⟩
  exact stays.2

/-- An update that is no boundary, with no pause input, leaves a RUNNING generator as its own part left it. -/
theorem State.update_gen_of_free {s : State} (carries : s.gen.carries = false) (running : s.updateGenerator.gen.state = .running)
    (free : s.pauseDemand = false) (unrequested : s.updateGenerator.gen.requestedPause = false) :
    s.update.gen = s.updateGenerator.gen := by
  have whole : s.update = s.updateSetpoints.arrive s.updateDemand := if_neg (by rw [carries]; decide)
  rw [whole]
  exact State.arrive_gen_of_free (s := s.updateSetpoints) running
    ((State.pauseDemand_congr s.updateGenerator_zones).trans free) unrequested _

theorem Generator.transitioned_requestedPause {g : Generator} (h : g.requestedPause = false) (n : Nat) (a b : Bool) :
    (g.transitioned n a b).requestedPause = false := by
  unfold Generator.transitioned
  split
  · rw [Generator.enter_eq]
    exact h
  · rfl

/-- The end of a RAMP or DWELL, from its transition and what the rest of the update leaves of it. -/
def State.Ended (s t : State) (i : Fin 64) : Prop :=
  let reached := chain s.gen.program 8 (i.val + 1) s.gen.loops false
  let recorded (j : Fin 64) (st : GenState) (reason : Reason) : Prop := s.queue.records.length ≤ 126 →
    { seq := s.queue.nextSeq + (if s.commit = .armedNow then 1#16 else 0#16), stamp := s.stamp, cycle := s.gen.cycles
      body := .program j s.gen.program[j].kind st reason } ∈ t.queue.records
  t.gen.loops = reached.1 ∧ t.gen.pendingAdvance = false ∧ t.gen.phase = 0#32 ∧ (∀ q, t.holds q .genChange = true)
    ∧ (∀ j jumped, reached.2 = .governs j jumped →
        let reason : Reason := if s.gen.pendingAdvance then .advance else if jumped then .jump else .next
        t.gen.current = some j ∧ recorded j .running reason
          ∧ (∀ d, s.gen.program[j] = .dwell d → t.gen.countdown = d)
          ∧ (∀ a f n, s.gen.program[j] = .cycle a f n → t.gen.remaining = n ∧ t.gen.endless = (n == 0#32))
          ∧ (s.pauseDemand = false → s.gen.requestedPause = false → t.gen.state = .running ∧ t.gen.lastReason = reason))
    ∧ (∀ j reason, reached.2 = .ends j reason →
        t.gen.current = none ∧ t.gen.state = .done ∧ t.gen.lastReason = reason ∧ t.gen.requestedPause = false
          ∧ recorded j .done reason)

theorem State.ended {s : State} {i : Fin 64} (carries : s.gen.carries = false) {mean : Half} {countdown : Word}
    (ends : s.commitNow.advance = (s.commitNow.setGen { s.gen with mean := mean, countdown := countdown }).transition (i.val + 1) false
      s.gen.pendingAdvance) : s.Ended s.update i := by
  let w := s.commitNow.setGen { s.gen with mean := mean, countdown := countdown }
  have part : s.updateGenerator = w.transition (i.val + 1) false s.gen.pendingAdvance :=
    (State.updateGenerator_of_uncarried carries).trans ends
  have follows := s.update_follows
  rw [part] at follows
  have kept := w.gen.transitioned_kept (i.val + 1) false s.gen.pendingAdvance
  have seq : w.queue.nextSeq = _ := s.commitNow_nextSeq
  have stamp : w.stamp = s.stamp := State.commitNow_of_field (π := State.stamp) (s := s)
  have room (few : s.queue.records.length ≤ 126) : w.queue.records.length < 128 :=
    Nat.lt_succ_of_le (State.commitNow_length (n := 127) (by omega))
  refine ⟨(follows.field Generator.loops).trans kept.1, (follows.field Generator.pendingAdvance).trans kept.2.2.1,
    (follows.field Generator.phase).trans kept.2.1, follows.holds_genChange, fun j jumped reached => ?_, fun j reason reached => ?_⟩
  · obtain ⟨current, recorded, countdown, remaining⟩ := follows.of_governs (w := w) reached
    rw [seq, stamp] at recorded
    refine ⟨current, fun few => recorded (room few), countdown, remaining, fun free unrequested => ?_⟩
    have ended : chain w.gen.program 8 (i.val + 1) w.gen.loops false = (_, .governs j jumped) := Prod.ext rfl reached
    have gen : s.updateGenerator.gen = w.gen.transitioned (i.val + 1) false s.gen.pendingAdvance := by
      rw [part, State.transition_gen]
    have entered := Generator.transitioned_of_governs ended false s.gen.pendingAdvance
    have whole := State.update_gen_of_free carries (by rw [gen, entered, Generator.enter_eq]) free
      (by rw [gen]; exact Generator.transitioned_requestedPause (g := w.gen) unrequested _ _ _)
    rw [whole, gen, entered, Generator.enter_eq]
    exact ⟨rfl, rfl⟩
  · obtain ⟨current, state, last, requested, recorded⟩ := follows.of_ends (w := w) reached
    rw [seq, stamp] at recorded
    exact ⟨current, state, last, requested, fun few => recorded (room few)⟩

end Sys2Proof.Machine


/-! O25: a RAMP and a DWELL at an update. -/
namespace Sys2Proof.Machine

section
variable {s : State} {i : Fin 64} (running : s.gen.state = .running) (current : s.gen.current = some i)
include running current

omit running in
/-- A RAMP or DWELL that goes on after an update. -/
theorem State.update_goes_on {mean : Half} {countdown : Word} (carries : s.gen.carries = false)
    (free : s.gen.pendingAdvance = false)
    (stepped : s.commitNow.advance = s.commitNow.setGen { s.gen with mean := mean, countdown := countdown }) :
    s.update.gen.mean = mean ∧ s.update.gen.countdown = countdown ∧ s.update.gen.cycles = s.gen.cycles
      ∧ s.update.gen.program = s.gen.program
      ∧ s.update.gen.current = some i ∧ s.update.gen.pendingAdvance = false ∧ s.update.gen.loops = s.gen.loops := by
  have rest := s.update_gen_rest
  rw [(State.updateGenerator_of_uncarried carries).trans stepped] at rest
  have field {α : Type} (π : Generator → α)
      (kept : ∀ (g : Generator) (st : GenState) (r : Reason), π { g with state := st, lastReason := r } = π g := by intros; rfl) :
      π s.update.gen = π { s.gen with mean := mean, countdown := countdown } := (kept _ _ _).symm.trans (congrArg π rest)
  exact ⟨field Generator.mean, field Generator.countdown, field Generator.cycles, field Generator.program,
    (field Generator.current).trans current, (field Generator.pendingAdvance).trans free, field Generator.loops⟩

omit running current in
/-- What the end of a RAMP or DWELL keeps of the generator. -/
theorem State.update_ended {mean : Half} {countdown : Word} (carries : s.gen.carries = false)
    (ends : s.commitNow.advance = (s.commitNow.setGen { s.gen with mean := mean, countdown := countdown }).transition (i.val + 1) false
      s.gen.pendingAdvance) :
    s.update.gen.mean = mean ∧ s.update.gen.cycles = s.gen.cycles ∧ s.update.gen.program = s.gen.program := by
  have follows := s.update_follows
  rw [(State.updateGenerator_of_uncarried carries).trans ends] at follows
  obtain ⟨-, -, -, mean', cycles, program, -⟩ := Generator.transitioned_kept
    { s.gen with mean := mean, countdown := countdown } (i.val + 1) false s.gen.pendingAdvance
  exact ⟨(follows.field Generator.mean).trans mean', (follows.field Generator.cycles).trans cycles,
    (follows.field Generator.program).trans program⟩

omit current in
theorem exec_pendingAdvanceActs (timed : s.gen.timedBlock = true) (pending : s.gen.pendingAdvance = true) :
    exec .pendingAdvanceActs s = .next s.update :=
  congrArg Host.Outcome.next (if_pos (by rw [pending, running, timed]; rfl))

/-- What an update does to a RAMP. -/
theorem State.update_ramp {target rate : Half} (block : s.gen.program[i] = .ramp target rate) :
    let mean := if s.gen.pendingAdvance then s.gen.mean else rampStep s.gen.mean target rate
    s.update.gen.mean = mean ∧ s.update.gen.cycles = s.gen.cycles ∧ s.update.gen.program = s.gen.program
      ∧ (s.gen.pendingAdvance = true ∨ mean = target → s.Ended s.update i)
      ∧ (s.gen.pendingAdvance = false → mean ≠ target →
        s.update.gen.current = some i ∧ s.update.gen.pendingAdvance = false ∧ s.update.gen.loops = s.gen.loops) := by
  intro mean
  have gen := s.commitNow_gen
  have carries : s.gen.carries = false := Generator.carries_of_uncycled current (by simp [block])
  have advanced := State.advance_of_ramp (s := s.commitNow) (by rw [gen]; exact current) (by rw [gen]; exact running)
    (by rw [gen]; exact block)
  rw [gen] at advanced
  by_cases ends : s.gen.pendingAdvance = true ∨ mean = target
  · have ended := advanced.trans (if_pos ends)
    obtain ⟨kept, cycles, program⟩ := State.update_ended (mean := mean) (countdown := s.gen.countdown) carries ended
    refine ⟨kept, cycles, program, fun _ => State.ended (mean := mean) (countdown := s.gen.countdown) carries ended,
      fun free away => absurd ends ?_⟩
    simp [free, away]
  · have stepped := advanced.trans (if_neg ends)
    obtain ⟨free, -⟩ := not_or.mp ends
    obtain ⟨kept, -, cycles, program, stays⟩ := State.update_goes_on (mean := mean) (countdown := s.gen.countdown) current
      carries (by simpa using free) stepped
    exact ⟨kept, cycles, program, fun h => absurd h ends, fun _ _ => stays⟩

/-- What an update does to a DWELL. -/
theorem State.update_dwell {d : Word} (block : s.gen.program[i] = .dwell d) :
    s.update.gen.mean = s.gen.mean ∧ s.update.gen.cycles = s.gen.cycles ∧ s.update.gen.program = s.gen.program
      ∧ (s.gen.pendingAdvance = true ∨ s.gen.countdown.toNat ≤ 1 → s.Ended s.update i)
      ∧ (s.gen.pendingAdvance = false → 2 ≤ s.gen.countdown.toNat →
        (s.update.gen.current = some i ∧ s.update.gen.pendingAdvance = false ∧ s.update.gen.loops = s.gen.loops)
          ∧ s.update.gen.countdown.toNat = s.gen.countdown.toNat - 1) := by
  have gen := s.commitNow_gen
  have carries : s.gen.carries = false := Generator.carries_of_uncycled current (by simp [block])
  have advanced := State.advance_of_dwell (s := s.commitNow) (by rw [gen]; exact current) (by rw [gen]; exact running)
    (by rw [gen]; exact block)
  rw [gen] at advanced
  by_cases ends : s.gen.pendingAdvance = true ∨ s.gen.countdown.toNat ≤ 1
  · have ended := advanced.trans (if_pos ends)
    obtain ⟨kept, cycles, program⟩ := State.update_ended (mean := s.gen.mean)
      (countdown := BitVec.ofNat 32 (s.gen.countdown.toNat - 1)) carries ended
    refine ⟨kept, cycles, program, fun _ => State.ended (mean := s.gen.mean)
      (countdown := BitVec.ofNat 32 (s.gen.countdown.toNat - 1)) carries ended, fun free more => absurd ends ?_⟩
    simp only [free, Bool.false_eq_true, false_or]
    omega
  · have stepped := advanced.trans (if_neg ends)
    obtain ⟨free, -⟩ := not_or.mp ends
    obtain ⟨kept, counted, cycles, program, stays⟩ := State.update_goes_on (mean := s.gen.mean)
      (countdown := BitVec.ofNat 32 (s.gen.countdown.toNat - 1)) current carries (by simpa using free) stepped
    refine ⟨kept, cycles, program, fun h => absurd h ends, fun _ _ => ⟨stays, ?_⟩⟩
    have range := s.gen.countdown.isLt
    rw [counted, BitVec.toNat_ofNat]
    omega
end

/-- Settles O25, by the block and by whether ADVANCE, the target or the countdown ends it. -/
theorem timedBlocksAtAnUpdate : Obligations.TimedBlocksAtAnUpdate := by
  intro s i running current
  refine ⟨fun target rate block => ?ramp, fun d block => ?dwell⟩
  case ramp =>
    obtain ⟨mean, cycles, program, ended, stays⟩ := State.update_ramp running current block
    have timed : s.gen.timedBlock = true := by rw [Generator.timedBlock, Generator.currentBlock_of_current current block]
    refine ⟨s.update, rfl, cycles, program, fun free => ?_, fun pending => ?_⟩
    · simp only [free, Bool.false_eq_true, if_false, false_or] at mean ended stays
      refine ⟨?_, fun away => stays trivial (by rwa [← mean]), fun there => ⟨?_, ended (by rwa [← mean])⟩⟩
      · rw [mean, rampStep, moveToward_toInt]
      · have arrives : s.gen.rampArrives = true := by
          rw [mean] at there
          simp only [Generator.rampArrives, running, Generator.currentBlock_of_current current block, free, there, beq_self_eq_true]
          rfl
        exact congrArg Host.Outcome.next (if_pos arrives)
    · simp only [pending, if_true] at mean
      exact ⟨exec_pendingAdvanceActs running timed pending, mean, ended (.inl pending)⟩
  case dwell =>
    obtain ⟨mean, cycles, program, ended, stays⟩ := State.update_dwell running current block
    have timed : s.gen.timedBlock = true := by rw [Generator.timedBlock, Generator.currentBlock_of_current current block]
    refine ⟨s.update, rfl, cycles, program, mean, stays, fun out => ⟨?_, ended (.inr out)⟩,
      fun pending => ⟨exec_pendingAdvanceActs running timed pending, ended (.inl pending)⟩⟩
    have expires : s.gen.dwellExpires = true := by
      simp only [Generator.dwellExpires, running, Generator.currentBlock_of_current current block, out, decide_true]
    exact congrArg Host.Outcome.next (if_pos expires)

end Sys2Proof.Machine


/-! O26: a CYCLE at an update, with and without a boundary (R29, R30). -/
namespace Sys2Proof.Machine

/-! ### The generator at a boundary with the zones NORMAL -/

/-- A change of zone whose pause is left to the end of the boundary leaves the generator. -/
theorem gen_lists_deferred : Lists true fun s t => t.gen = s.gen where
  refl _ := rfl
  trans h k := k.trans h
  addEvent _ _ := rfl
  record _ _ := rfl
  setTagCounter _ _ := rfl
  relist _ _ _ _ := rfl
  changeZone s z st := by
    unfold State.changeZone
    split
    · rfl
    · exact s.enterZone_gen z st

theorem State.closeCycles_gen (s : State) : s.closeCycles.gen = s.gen := by
  refine foldl_keeps (π := State.gen) (fun g _ s => ?_) s
  rw [State.closeCycle_eq]
  split
  · unfold State.driftRaised
    split
    · exact gen_lists_deferred.raise s _ _
    · rfl
  · rfl

/-- A removal from the list of a NORMAL zone leaves the zones NORMAL and the generator as it is. -/
theorem State.removeEntry_of_normal {s : State} (normal : ∀ z : Fin 4, s.zones[z].state = .normal) (z : Fin 4) (e : Entry)
    (m : Method) (d : Bool) :
    (∀ w : Fin 4, (s.removeEntry z e m d).zones[w].state = .normal) ∧ (s.removeEntry z e m d).gen = s.gen := by
  have kept (x : Zone) (x_normal : x.state = .normal) : (x.without s.stopHold e).state = .normal := by
    obtain same | ⟨-, after⟩ := x.without_state s.stopHold e
    · rw [same, x_normal]
    · rw [after, x_normal]
      rfl
  refine ⟨fun w => ?_, ?_⟩
  · rw [State.removeEntry_zones, State.updZone_get]
    split
    · exact kept _ (normal z)
    · exact normal w
  · have state : (s.updZone z fun x => { x with entries := x.entries.eraseP fun y => y.tag == e.tag }).zones[z].state = .normal := by
      rw [State.updZone_get, if_pos rfl]
      exact normal z
    unfold State.removeEntry
    dsimp only
    rw [state]
    have stays (protective : Bool) (hold : Bool) : (if protective then ZoneState.normal else ZoneState.normal.afterRemoval hold) = .normal := by
      cases protective <;> rfl
    rw [stays, State.changeZone, if_pos (by exact state)]
    rfl

/-- At a boundary with the zones NORMAL, the generator acts on the pause demand at the end, and not before. -/
theorem State.update_gen_of_normal {s : State} (carries : s.gen.carries = true) (normal : ∀ z : Fin 4, s.zones[z].state = .normal) :
    s.update.gen = s.updateGenerator.gen.synced s.update.pauseDemand := by
  have computed : (∀ z : Fin 4, s.updateSetpoints.zones[z].state = .normal) ∧ s.updateSetpoints.gen = s.updateGenerator.gen :=
    ⟨fun z => (congrArg (fun v : Vector Zone 4 => v[z].state) s.updateGenerator_zones).trans (normal z), rfl⟩
  have reported : (∀ z : Fin 4, (s.updateSetpoints.arrive s.updateDemand).zones[z].state = .normal)
      ∧ (s.updateSetpoints.arrive s.updateDemand).gen = s.updateGenerator.gen := by
    refine foldl_holds (P := fun t : State => (∀ z : Fin 4, t.zones[z].state = .normal) ∧ t.gen = s.updateGenerator.gen)
      (fun z _ t reached => ?_) computed
    unfold State.arriveIn
    rw [reached.1 z, if_neg (by simp), if_neg (by simp)]
    exact reached
  have removed : s.noticed.gen = s.updateGenerator.gen := by
    refine (foldl_holds (P := fun t : State => (∀ z : Fin 4, t.zones[z].state = .normal) ∧ t.gen = s.updateGenerator.gen)
      (fun z _ t reached => foldl_holds (P := fun t : State => (∀ z : Fin 4, t.zones[z].state = .normal) ∧ t.gen = s.updateGenerator.gen)
        (fun e _ t reached => ?_) reached) reported).2
    obtain ⟨states, gen⟩ := State.removeEntry_of_normal reached.1 z e .boundary false
    exact ⟨states, gen.trans reached.2⟩
  rw [State.update_of_carry carries, State.syncPause_gen, State.autoSnapshot_gen, State.closeCycles_gen, removed,
    State.pauseDemand_congr (State.syncPause_zones _)]

/-! ### The generator's part -/

theorem State.commitAtBoundary_of_field {α : Type} {π : State → α} (setPorts : ∀ s x, π (s.setPorts x) = π s := by intros; rfl)
    (setQueue : ∀ s x, π (s.setQueue x) = π s := by intros; rfl) (setActiveSet : ∀ s x, π (s.setActiveSet x) = π s := by intros; rfl)
    (setCommit : ∀ s x, π (s.setCommit x) = π s := by intros; rfl) (s : State) : π s.commitAtBoundary = π s := by
  unfold State.commitAtBoundary
  split
  · exact (setPorts _ _).trans ((setQueue _ _).trans ((setCommit _ _).trans (setActiveSet _ _)))
  · rfl

theorem State.commitAtBoundary_gen (s : State) : s.commitAtBoundary.gen = s.gen :=
  State.commitAtBoundary_of_field (π := State.gen) (s := s)

theorem Generator.cyclesAfter_toNat (g : Generator) : g.cyclesAfter.toNat = min (g.cycles.toNat + 1) (2 ^ 40 - 1) := by
  have range := g.cycles.isLt
  unfold Generator.cyclesAfter
  split
  · next full =>
    rw [full]
    decide
  · next below =>
    have less : g.cycles.toNat ≠ 2 ^ 40 - 1 := fun same => below (BitVec.eq_of_toNat_eq same)
    rw [BitVec.toNat_add, BitVec.toNat_ofNat]
    omega

/-- The generator after steps 1 to 3 of a boundary, before a block that ends gives way. -/
def Generator.bounded (g : Generator) : Generator :=
  { g with
    cycles := g.cyclesAfter, remaining := g.remainingAfter
    phase := if g.cycleEnds then 0#32 else BitVec.ofNat 32 g.phaseSum }

theorem State.boundarySteps_eq (s : State) (i : Fin 64) :
    s.boundarySteps i =
      if s.gen.cycleEnds then
        if s.gen.pendingStop then (s.setGen s.gen.bounded).stopGenerator
        else (s.setGen s.gen.bounded).transition (i.val + 1) false s.gen.pendingAdvance
      else s.setGen s.gen.bounded := rfl

section
variable {s : State} {i : Fin 64} {a : Half} {f n : Word} (running : s.gen.state = .running) (current : s.gen.current = some i)
  (block : s.gen.program[i] = .cycle a f n)
include running current block

theorem State.updateGenerator_of_cycle_uncarried (carries : s.gen.carries = false) :
    s.updateGenerator = s.commitNow.setGen { s.gen with phase := BitVec.ofNat 32 (s.gen.phase.toNat + f.toNat) } := by
  have gen := s.commitNow_gen
  rw [State.updateGenerator_of_uncarried carries, State.advance_of_cycle (by rw [gen]; exact current) (by rw [gen]; exact running)
    (by rw [gen]; exact block), gen, carries, if_neg (by decide), (Generator.carries_of_cycle running current block).1]

theorem State.updateGenerator_of_boundary (carries : s.gen.carries = true) :
    s.updateGenerator = State.commitAtBoundary
      (if s.gen.cycleEnds then
        if s.gen.pendingStop then (s.commitNow.setGen s.gen.bounded).stopGenerator
        else (s.commitNow.setGen s.gen.bounded).transition (i.val + 1) false s.gen.pendingAdvance
      else s.commitNow.setGen s.gen.bounded) := by
  have gen := s.commitNow_gen
  rw [State.updateGenerator_of_carry carries, State.advance_of_cycle (by rw [gen]; exact current) (by rw [gen]; exact running)
    (by rw [gen]; exact block), gen, carries, if_pos rfl, State.boundarySteps_eq, gen]
end

end Sys2Proof.Machine


/-! O26, from the generator's part of a boundary and what the rest of the update leaves of it. -/
namespace Sys2Proof.Machine

/-- What a commit at step 4 leaves of steps 1 to 3. -/
theorem State.Follows.of_commitAtBoundary {u t : State} (h : u.commitAtBoundary.Follows t) : u.Follows t :=
  h.of_composes u.commitAtBoundary_gen (latches_composes.commitAtBoundary u) (retains_composes.commitAtBoundary u)

section
variable {s : State} {i : Fin 64} {a : Half} {f n : Word} (running : s.gen.state = .running) (current : s.gen.current = some i)
  (block : s.gen.program[i] = .cycle a f n)
include running current block

/-- An update without a carry adds the frequency word and moves nothing else of the cycle. -/
theorem State.update_cycle_uncarried (below : s.gen.phase.toNat + f.toNat < 2 ^ 32) :
    s.update.gen.phase.toNat = s.gen.phase.toNat + f.toNat ∧ s.update.gen.cycles = s.gen.cycles
      ∧ s.update.gen.remaining = s.gen.remaining ∧ s.update.gen.current = some i ∧ s.update.gen.loops = s.gen.loops
      ∧ s.update.gen.mean = s.gen.mean := by
  have carries : s.gen.carries = false := Bool.eq_false_iff.mpr fun h =>
    absurd ((Generator.carries_of_cycle running current block).2.mp h) (Nat.not_le.mpr below)
  have rest := s.update_gen_rest
  rw [State.updateGenerator_of_cycle_uncarried running current block carries] at rest
  have field {α : Type} (π : Generator → α)
      (kept : ∀ (g : Generator) (st : GenState) (r : Reason), π { g with state := st, lastReason := r } = π g := by intros; rfl) :
      π s.update.gen = π { s.gen with phase := BitVec.ofNat 32 (s.gen.phase.toNat + f.toNat) } :=
    (kept _ _ _).symm.trans (congrArg π rest)
  refine ⟨?_, field Generator.cycles, field Generator.remaining, (field Generator.current).trans current, field Generator.loops,
    field Generator.mean⟩
  rw [field Generator.phase, BitVec.toNat_ofNat, Nat.mod_eq_of_lt below]

variable (carries : s.gen.carries = true)
include carries

/-- A boundary at which the CYCLE goes on. -/
theorem State.update_cycle_goes_on (goesOn : s.gen.cycleEnds = false) :
    s.update.gen.cycles = s.gen.cyclesAfter ∧ s.update.gen.remaining = s.gen.remainingAfter
      ∧ s.update.gen.phase = BitVec.ofNat 32 (s.gen.phase.toNat + f.toNat) ∧ s.update.gen.current = some i
      ∧ s.update.gen.loops = s.gen.loops ∧ s.update.gen.mean = s.gen.mean := by
  have rest := s.update_gen_rest
  rw [State.updateGenerator_of_boundary running current block carries, goesOn, if_neg (by decide), State.commitAtBoundary_gen] at rest
  have field {α : Type} (π : Generator → α)
      (kept : ∀ (g : Generator) (st : GenState) (r : Reason), π { g with state := st, lastReason := r } = π g := by intros; rfl) :
      π s.update.gen = π s.gen.bounded := (kept _ _ _).symm.trans (congrArg π rest)
  refine ⟨field Generator.cycles, field Generator.remaining, ?_, (field Generator.current).trans current, field Generator.loops,
    field Generator.mean⟩
  rw [field Generator.phase, Generator.bounded, goesOn, if_neg (by decide), (Generator.carries_of_cycle running current block).1]

/-- A boundary at which the CYCLE ends and gives way. -/
theorem State.update_cycle_follows (ends : s.gen.cycleEnds = true) (unstopped : s.gen.pendingStop = false) :
    ((s.commitNow.setGen s.gen.bounded).transition (i.val + 1) false s.gen.pendingAdvance).Follows s.update := by
  have follows := s.update_follows
  rw [State.updateGenerator_of_boundary running current block carries, ends, unstopped, if_pos rfl, if_neg (by decide)] at follows
  exact follows.of_commitAtBoundary

/-- A boundary at which a pending stop takes effect. -/
theorem State.update_cycle_stops (stop : s.gen.pendingStop = true) :
    s.update.gen = { s.gen.bounded.rest .stopped with lastReason := .stop }
      ∧ (s.commitNow.setGen s.gen.bounded).stopGenerator.Follows s.update := by
  have ends : s.gen.cycleEnds = true := s.gen.cycleEnds_iff.mpr (.inr (.inr stop))
  have follows := s.update_follows
  rw [State.updateGenerator_of_boundary running current block carries, ends, stop, if_pos rfl, if_pos rfl] at follows
  have follows := follows.of_commitAtBoundary
  refine ⟨?_, follows⟩
  have whole := follows.resting (by rw [State.stopGenerator_gen]; exact ⟨nofun, nofun⟩)
  rw [whole, State.stopGenerator_gen]
  rfl
end

theorem Generator.synced_running {g : Generator} (running : g.state = .running) (unrequested : g.requestedPause = false)
    (demand : Bool) :
    if demand then (g.synced demand).state = .paused ∧ (g.synced demand).lastReason = .pause
    else (g.synced demand).state = .running ∧ (g.synced demand).lastReason = g.lastReason := by
  cases demand <;> simp [Generator.synced, running, unrequested]

/-- The stop of a block makes its PROGRAM record and adds GEN_CHANGE. -/
theorem State.stopGenerator_told {s : State} {i : Fin 64} (current : s.gen.current = some i) :
    (s.queue.records.length < 128 →
        { seq := s.queue.nextSeq, stamp := s.stamp, cycle := s.gen.cycles, body := .program i s.gen.program[i].kind .stopped .stop }
          ∈ s.stopGenerator.queue.records)
      ∧ ∀ q, s.stopGenerator.holds q .genChange = true := by
  have run : s.stopGenerator = ((s.setGen { s.gen.rest .stopped with lastReason := .stop }).record
      (.program i s.gen.program[i].kind .stopped .stop)).addEvent .genChange := by
    rw [State.stopGenerator, current, Option.getD_some, State.setGen_programRecord]
    rfl
  rw [run]
  refine ⟨fun room => ?_, fun q => State.addEvent_holds _ q⟩
  have made := State.record_records (s := s.setGen { s.gen.rest .stopped with lastReason := .stop }) room
    (.program i s.gen.program[i].kind .stopped .stop)
  exact made ▸ List.mem_append_right _ List.mem_cons_self

/-- The mean and the cycle counter after an update with a CYCLE current, whatever a boundary brings. -/
theorem State.update_cycle_kept {s : State} {i : Fin 64} {a : Half} {f n : Word} (running : s.gen.state = .running)
    (current : s.gen.current = some i) (block : s.gen.program[i] = .cycle a f n) :
    s.update.gen.mean = s.gen.mean ∧ (s.gen.carries = true → s.update.gen.cycles = s.gen.cyclesAfter) := by
  have carry := (Generator.carries_of_cycle running current block).2
  by_cases carries : s.gen.carries = true
  · by_cases stop : s.gen.pendingStop = true
    · obtain ⟨whole, -⟩ := State.update_cycle_stops running current block carries stop
      exact ⟨by rw [whole]; rfl, fun _ => by rw [whole]; rfl⟩
    · by_cases ends : s.gen.cycleEnds = true
      · have follows := State.update_cycle_follows running current block carries ends (by simpa using stop)
        obtain ⟨-, -, -, mean, cycles, -⟩ := s.gen.bounded.transitioned_kept (i.val + 1) false s.gen.pendingAdvance
        exact ⟨(follows.field Generator.mean).trans mean, fun _ => (follows.field Generator.cycles).trans cycles⟩
      · obtain ⟨cycles, -, -, -, -, mean⟩ := State.update_cycle_goes_on running current block carries (by simpa using ends)
        exact ⟨mean, fun _ => cycles⟩
  · have below : s.gen.phase.toNat + f.toNat < 2 ^ 32 := Nat.lt_of_not_le fun h => carries (carry.mpr h)
    obtain ⟨-, -, -, -, -, mean⟩ := State.update_cycle_uncarried running current block below
    exact ⟨mean, fun h => absurd h carries⟩

/-- Settles O26, by the carry and by what ends the CYCLE at a boundary. -/
theorem cycleAtAnUpdate : Obligations.CycleAtAnUpdate := by
  intro s i a f n running current block
  have carry := (Generator.carries_of_cycle running current block).2
  have endsIff := s.gen.cycleEnds_iff
  have seq : (s.commitNow.setGen s.gen.bounded).queue.nextSeq = _ := s.commitNow_nextSeq
  have stamp : (s.commitNow.setGen s.gen.bounded).stamp = s.stamp := State.commitNow_of_field (π := State.stamp) (s := s)
  have room (few : s.queue.records.length ≤ 126) : (s.commitNow.setGen s.gen.bounded).queue.records.length < 128 :=
    Nat.lt_succ_of_le (State.commitNow_length (n := 127) (by omega))
  have cyclesAfter := s.gen.cyclesAfter_toNat
  have mean := State.update_cycle_kept running current block
  refine ⟨s.update, rfl, mean.1, fun below => ?below, fun above => ?boundary⟩
  case below =>
    obtain ⟨phase, cycles, remaining, kept, loops, -⟩ := State.update_cycle_uncarried running current block below
    exact ⟨phase, cycles, remaining, kept, loops⟩
  have carries := carry.mpr above
  have cycles := mean.2 carries
  refine ⟨congrArg Host.Outcome.next (if_pos carries), by rw [cycles, cyclesAfter], fun more advance stop => ?goes,
    fun due unstopped => ?gives, fun stop => ?stops⟩
  case goes =>
    have goesOn : s.gen.cycleEnds = false := Bool.eq_false_iff.mpr fun h => by
      obtain through | pending | pending := endsIff.mp h
      · exact more through
      · simp [advance] at pending
      · simp [stop] at pending
    obtain ⟨-, remaining, phase, kept, loops, -⟩ := State.update_cycle_goes_on running current block carries goesOn
    have range := s.gen.phase.isLt
    have range' := f.isLt
    refine ⟨?_, kept, loops, fun finite => ?_⟩
    · rw [phase, BitVec.toNat_ofNat]
      omega
    · have left := s.gen.remaining.isLt
      rw [remaining, Generator.remainingAfter, finite, if_neg (by decide), BitVec.toNat_ofNat]
      omega
  case gives =>
    have ends : s.gen.cycleEnds = true := endsIff.mpr (due.imp_right .inl)
    have follows := State.update_cycle_follows running current block carries ends unstopped
    have kept := s.gen.bounded.transitioned_kept (i.val + 1) false s.gen.pendingAdvance
    refine ⟨(follows.field Generator.phase).trans kept.2.1, (follows.field Generator.pendingAdvance).trans kept.2.2.1,
      (follows.field Generator.loops).trans kept.1, follows.holds_genChange, fun j jumped reached => ?_, fun j reason reached => ?_,
      fun pending => congrArg Host.Outcome.next (if_pos (by rw [pending, carries, Bool.or_true]; rfl))⟩
    · obtain ⟨now, recorded, countdown, remaining⟩ := follows.of_governs (w := s.commitNow.setGen s.gen.bounded) reached
      rw [seq, stamp] at recorded
      refine ⟨now, fun few => ?_, countdown, remaining, fun normal unrequested => ?_⟩
      · rw [cycles]
        exact recorded (room few)
      · have ended : chain s.gen.bounded.program 8 (i.val + 1) s.gen.bounded.loops false = (_, .governs j jumped) := Prod.ext rfl reached
        have entered := Generator.transitioned_of_governs ended false s.gen.pendingAdvance
        have gen : s.updateGenerator.gen = s.gen.bounded.transitioned (i.val + 1) false s.gen.pendingAdvance := by
          rw [State.updateGenerator_of_boundary running current block carries, ends, unstopped, if_pos rfl, if_neg (by decide),
            State.commitAtBoundary_gen, State.transition_gen]
          rfl
        rw [State.update_gen_of_normal carries normal, gen, entered, Generator.enter_eq]
        exact Generator.synced_running rfl (by exact unrequested) _
    · obtain ⟨now, state, last, requested, recorded⟩ := follows.of_ends (w := s.commitNow.setGen s.gen.bounded) reached
      rw [seq, stamp] at recorded
      refine ⟨now, state, last, requested, fun few => ?_⟩
      rw [cycles]
      exact recorded (room few)
  case stops =>
    obtain ⟨whole, follows⟩ := State.update_cycle_stops running current block carries stop
    obtain ⟨recorded, told⟩ := State.stopGenerator_told (s := s.commitNow.setGen s.gen.bounded) (i := i) current
    refine ⟨congrArg Host.Outcome.next (if_pos (by rw [carries, stop]; rfl)), by rw [whole]; rfl, by rw [whole]; rfl, by rw [whole]; rfl,
      by rw [whole]; rfl, by rw [whole]; rfl, by rw [whole]; rfl, by rw [whole]; rfl, by rw [whole], fun few => ?_,
      fun q => follows.latches.holds (by decide) (told q)⟩
    rw [seq, stamp] at recorded
    rw [cycles]
    exact follows.retains _ (recorded (room few)) rfl

end Sys2Proof.Machine


/-! O36: a commit armed NOW or at a boundary (R68, R69): what it leaves of the load sets, and where its record stands. -/
namespace Sys2Proof.Machine

/-! ### What an update leaves after the generator's part -/

/-- A field that neither the pause, zone protection nor the strain unit writes stays after the generator's part. -/
theorem State.update_of_field {α : Type} (π : State → α) (setGen : ∀ s x, π (s.setGen x) = π s := by intros; rfl)
    (setPorts : ∀ s x, π (s.setPorts x) = π s := by intros; rfl) (setQueue : ∀ s x, π (s.setQueue x) = π s := by intros; rfl)
    (setOutputs : ∀ s x, π (s.setOutputs x) = π s := by intros; rfl) (setZones : ∀ s x, π (s.setZones x) = π s := by intros; rfl)
    (setTagCounter : ∀ s x, π (s.setTagCounter x) = π s := by intros; rfl)
    (setGauges : ∀ s x, π (s.setGauges x) = π s := by intros; rfl) (s : State) : π s.update = π s.updateGenerator := by
  have protects := protects_of_field π setGen setPorts setQueue setOutputs setZones setTagCounter
  have strains : Strains fun s t => π t = π s := { toHands := protects.hands, updGauge := fun _ _ _ _ => setGauges _ _ }
  have reported : π (s.updateSetpoints.arrive s.updateDemand) = π s.updateGenerator :=
    ((protects.lists false).arrive _ _).trans (setOutputs _ _)
  unfold State.update
  dsimp only
  split
  · have removed := (protects.lists false).boundaryRemovals (s.updateSetpoints.arrive s.updateDemand)
    have closed := strains.closeCycles (fun own _ => (protects.lists true).raise _ _ own)
      (s.updateSetpoints.arrive s.updateDemand).boundaryRemovals
    have shot := State.autoSnapshot_of_field (π := π) setQueue (s.updateSetpoints.arrive s.updateDemand).boundaryRemovals.closeCycles
    exact (protects.syncPause _).trans (shot.trans (closed.trans (removed.trans reported)))
  · exact reported

/-- A field that the generator's record, the queue and the ports do not hold stays over the generator's step. -/
theorem State.advance_of_field {α : Type} (π : State → α) (setGen : ∀ s x, π (s.setGen x) = π s := by intros; rfl)
    (setPorts : ∀ s x, π (s.setPorts x) = π s := by intros; rfl) (setQueue : ∀ s x, π (s.setQueue x) = π s := by intros; rfl)
    (s : State) : π s.advance = π s := by
  have steers : Steers fun s t => π t = π s :=
    { refl := fun _ => rfl, trans := fun h k => k.trans h, setGen := setGen, addEvent := fun _ _ => setPorts _ _
      record := fun _ _ => setQueue _ _ }
  exact steers.advance s

/-! ### The records of an update up to its report -/

namespace State.Appends

theorem transition (s : State) (n : Nat) (a b : Bool) : s.Appends 1 (s.transition n a b) := by
  obtain ⟨x, run⟩ := s.transition_eq n a b
  rw [run]
  exact .of_record (s.setGen (s.gen.transitioned n a b)) x

theorem stopGenerator (s : State) : s.Appends 1 s.stopGenerator := .programRecord (s.setGen (s.gen.rest .stopped)) _ _

theorem boundarySteps (s : State) (i : Fin 64) : s.Appends 1 (s.boundarySteps i) := by
  rw [State.boundarySteps_eq]
  split
  · split
    · exact .stopGenerator (s.setGen s.gen.bounded)
    · exact .transition (s.setGen s.gen.bounded) _ _ _
  · exact .of_records

theorem advanceBlock (s : State) : s.Appends 1 s.advanceBlock := by
  have given (g : Generator) (n : Nat) (b : Bool) (p : Prop) [Decidable p] :
      s.Appends 1 (if p then (s.setGen g).transition n false b else s.setGen g) := by
    split
    · exact .transition (s.setGen g) _ _ _
    · exact .of_records
  unfold State.advanceBlock
  split
  · exact given _ _ _ _
  · exact given _ _ _ _
  · split
    · exact .boundarySteps s _
    · exact .of_records
  · exact .of_records

theorem advance (s : State) : s.Appends 1 s.advance := by
  unfold State.advance
  split
  · exact .advanceBlock s
  all_goals exact .of_records

theorem arriveIn (s : State) (d : Int) (z : Fin 4) : s.Appends 2 (s.arriveIn d z) := by
  unfold State.arriveIn
  split
  · exact .changeZone _ _ _ _
  · split
    · exact .changeZone _ _ _ _
    · exact .of_records

/-- The arrival report makes at most a record and a pause for each zone. -/
theorem arrive (s : State) (d : Int) : s.Appends 8 (s.arrive d) := by
  have zones : allZones = [0, 1, 2, 3] := rfl
  rw [State.arrive, zones, List.foldl_cons, List.foldl_cons, List.foldl_cons, List.foldl_cons, List.foldl_nil]
  exact (((arriveIn s d 0).trans (arriveIn _ d 1)).trans (arriveIn _ d 2)).trans (arriveIn _ d 3)

end State.Appends

/-! ### A commit (R68, R69) -/

theorem State.applyCommit_applied (s : State) (x : CommitOutcome) :
    (s.applyCommit x).activeSet = s.stagedSet ∧ (s.applyCommit x).stagedSet = s.stagedSet ∧ (s.applyCommit x).commit = .none
      ∧ ∀ q, (s.applyCommit x).holds q .commitDone = true :=
  ⟨rfl, rfl, rfl, fun q => State.addEvent_holds _ q⟩

theorem State.applyCommit_records {s : State} (room : s.queue.records.length < 128) (x : CommitOutcome) :
    (s.applyCommit x).queue.records =
      s.queue.records ++ [{ seq := s.queue.nextSeq, stamp := s.stamp, cycle := s.gen.cycles, body := .commit x }] :=
  State.record_records (s := (s.setActiveSet s.stagedSet).setCommit .none) room (.commit x)

/-- The load sets after an update, from what the generator's part leaves of them. -/
theorem State.update_sets (s : State) :
    s.update.activeSet = s.updateGenerator.activeSet ∧ s.update.stagedSet = s.updateGenerator.stagedSet
      ∧ s.update.commit = s.updateGenerator.commit :=
  ⟨s.update_of_field State.activeSet, s.update_of_field State.stagedSet, s.update_of_field State.commit⟩

theorem State.advance_sets (s : State) :
    s.advance.activeSet = s.activeSet ∧ s.advance.stagedSet = s.stagedSet ∧ s.advance.commit = s.commit :=
  ⟨s.advance_of_field State.activeSet, s.advance_of_field State.stagedSet, s.advance_of_field State.commit⟩

end Sys2Proof.Machine


/-! O36, by the commit armed and by whether the update is a boundary. -/
namespace Sys2Proof.Machine

/-- Where an update carries, a CYCLE is current in RUNNING. -/
theorem Generator.cycle_of_carries {g : Generator} (h : g.carries = true) :
    g.state = .running ∧ ∃ i a f n, g.current = some i ∧ g.program[i] = .cycle a f n := by
  simp only [Generator.carries, Bool.and_eq_true, beq_iff_eq, decide_eq_true_eq] at h
  obtain ⟨running, above⟩ := h
  refine ⟨running, ?_⟩
  have below := g.phase.isLt
  rw [Generator.phaseSum, Generator.currentBlock] at above
  cases current : g.current with
  | none =>
    rw [current] at above
    exact absurd above (Nat.not_le.mpr below)
  | some i =>
    rw [current] at above
    cases block : g.program[i] with
    | cycle a f n => exact ⟨i, a, f, n, rfl, block⟩
    | _ =>
      simp only [Option.map_some, block] at above
      exact absurd above (Nat.not_le.mpr below)

theorem State.update_cycles {s : State} (carries : s.gen.carries = true) :
    s.update.gen.cycles.toNat = min (s.gen.cycles.toNat + 1) (2 ^ 40 - 1) ∧ s.update.gen.cycles = s.gen.cyclesAfter := by
  obtain ⟨running, i, a, f, n, current, block⟩ := Generator.cycle_of_carries carries
  have cycles := (State.update_cycle_kept running current block).2 carries
  exact ⟨by rw [cycles, Generator.cyclesAfter_toNat], cycles⟩

/-! ### NOW (R68) -/

section
variable {s : State} (armed : s.commit = .armedNow)
include armed

theorem State.updateGenerator_of_armedNow : s.updateGenerator = (s.applyCommit .appliedNow).advance := by
  have now := State.commitNow_of_armed armed
  by_cases carries : s.gen.carries = true
  · have none : (s.applyCommit .appliedNow).advance.commit = .none := (State.advance_sets _).2.2
    rw [State.updateGenerator_of_carry carries, now, State.commitAtBoundary, if_neg (by rw [none]; decide)]
  · rw [State.updateGenerator_of_uncarried (by simpa using carries), now]

theorem State.update_appliedNow :
    s.update.activeSet = s.stagedSet ∧ s.update.stagedSet = s.stagedSet ∧ s.update.commit = .none
      ∧ ∀ q, s.update.holds q .commitDone = true := by
  obtain ⟨active, staged, commit⟩ := s.update_sets
  obtain ⟨active', staged', commit'⟩ := (s.applyCommit .appliedNow).advance_sets
  have latches := latches_composes.afterGenerator s
  rw [State.updateGenerator_of_armedNow armed] at active staged commit latches
  refine ⟨active.trans active', staged.trans staged', commit.trans commit', fun q => latches.holds (by decide) ?_⟩
  exact (latches_composes.advance _).holds (by decide) ((s.applyCommit_applied .appliedNow).2.2.2 q)

/-- The record of a NOW commit is the first of the update. -/
theorem State.update_records_of_armedNow (carries : s.gen.carries = false) (room : s.queue.records.length ≤ 110) :
    s.queue.records ++ [{ seq := s.queue.nextSeq, stamp := s.stamp, cycle := s.gen.cycles, body := .commit .appliedNow }]
      <+: s.update.queue.records := by
  have whole : s.update = s.updateSetpoints.arrive s.updateDemand := if_neg (by rw [carries]; decide)
  have made := State.applyCommit_records (s := s) (by omega) .appliedNow
  have advanced : (s.applyCommit .appliedNow).Appends 1 s.updateSetpoints := by
    have step := State.Appends.advance (s.applyCommit .appliedNow)
    rw [← State.updateGenerator_of_armedNow armed] at step
    exact step
  have rest := (advanced.trans (State.Appends.arrive s.updateSetpoints s.updateDemand)).prefix_of
    (by rw [made, List.length_append, List.length_singleton]; omega)
  rw [whole, ← made]
  exact rest

theorem State.update_retains_of_armedNow (room : s.queue.records.length ≤ 127) :
    { seq := s.queue.nextSeq, stamp := s.stamp, cycle := s.gen.cycles, body := .commit .appliedNow } ∈ s.update.queue.records := by
  have retains := retains_composes.afterGenerator s
  rw [State.updateGenerator_of_armedNow armed] at retains
  refine retains_composes.trans (retains_composes.advance _) retains _ ?_ rfl
  rw [State.applyCommit_records (by omega)]
  exact List.mem_append_right _ List.mem_cons_self
end

/-! ### BOUNDARY (R69) -/

section
variable {s : State} (armed : s.commit = .armedBoundary) (carries : s.gen.carries = true)
include armed carries

theorem State.updateGenerator_of_armedBoundary : s.updateGenerator = s.advance.applyCommit .appliedBoundary := by
  have still : s.advance.commit = .armedBoundary := s.advance_sets.2.2.trans armed
  rw [State.updateGenerator_of_carry carries, State.commitNow_of_other (by rw [armed]; decide), State.commitAtBoundary, if_pos still]

theorem State.update_appliedBoundary :
    s.update.activeSet = s.stagedSet ∧ s.update.stagedSet = s.stagedSet ∧ s.update.commit = .none
      ∧ ∀ q, s.update.holds q .commitDone = true := by
  obtain ⟨active, staged, commit⟩ := s.update_sets
  obtain ⟨active', staged', commit', told⟩ := s.advance.applyCommit_applied .appliedBoundary
  have latches := latches_composes.afterGenerator s
  have kept : s.advance.stagedSet = s.stagedSet := s.advance_sets.2.1
  rw [State.updateGenerator_of_armedBoundary armed carries] at active staged commit latches
  exact ⟨active.trans (active'.trans kept), staged.trans (staged'.trans kept), commit.trans commit',
    fun q => latches.holds (by decide) (told q)⟩

/-- The record of a BOUNDARY commit comes after that of the block that ends. -/
theorem State.update_records_of_armedBoundary (room : s.queue.records.length ≤ 126) :
    { seq := s.queue.nextSeq + (if s.gen.cycleEnds then 1#16 else 0#16), stamp := s.stamp, cycle := s.gen.cyclesAfter
      body := .commit .appliedBoundary } ∈ s.update.queue.records := by
  obtain ⟨running, i, a, f, n, current, block⟩ := Generator.cycle_of_carries carries
  have retains := retains_composes.afterGenerator s
  rw [State.updateGenerator_of_armedBoundary armed carries] at retains
  refine retains _ ?_ rfl
  have seq : s.advance.queue.nextSeq = s.queue.nextSeq + (if s.gen.cycleEnds then 1#16 else 0#16) := by
    rw [State.advance_of_cycle current running block, if_pos carries, State.boundarySteps_eq]
    split
    · split
      · exact State.record_nextSeq _ _
      · obtain ⟨x, run⟩ := (s.setGen s.gen.bounded).transition_eq (i.val + 1) false s.gen.pendingAdvance
        rw [run]
        exact State.record_nextSeq _ _
    · exact (BitVec.add_zero _).symm
  have cycles : s.advance.gen.cycles = s.gen.cyclesAfter := by
    rw [State.advance_of_cycle current running block, if_pos carries, State.boundarySteps_eq]
    split
    · split
      · rw [State.stopGenerator_gen]
        rfl
      · rw [State.transition_gen]
        exact (s.gen.bounded.transitioned_kept (i.val + 1) false s.gen.pendingAdvance).2.2.2.2.1
    · rfl
  have stamp : s.advance.stamp = s.stamp := s.advance_of_field State.stamp
  have few := (State.Appends.advance s).length_le (by omega)
  rw [State.applyCommit_records (by omega), seq, cycles, stamp]
  exact List.mem_append_right _ List.mem_cons_self
end

/-- An update at which no commit applies leaves the load sets. -/
theorem State.update_unapplied {s : State} (now : s.commit ≠ .armedNow) (boundary : s.commit = .armedBoundary → s.gen.carries = false) :
    s.update.commit = s.commit ∧ s.update.activeSet = s.activeSet ∧ s.update.stagedSet = s.stagedSet := by
  obtain ⟨active, staged, commit⟩ := s.update_sets
  obtain ⟨active', staged', commit'⟩ := s.advance_sets
  have part : s.updateGenerator = s.advance := by
    by_cases carries : s.gen.carries = true
    · have other : s.advance.commit ≠ .armedBoundary := by
        rw [commit']
        exact fun h => by simp [boundary h] at carries
      rw [State.updateGenerator_of_carry carries, State.commitNow_of_other now, State.commitAtBoundary, if_neg other]
    · rw [State.updateGenerator_of_uncarried (by simpa using carries), State.commitNow_of_other now]
  rw [part] at active staged commit
  exact ⟨commit.trans commit', active.trans active', staged.trans staged'⟩

/-- Settles O36, by the commit armed and by whether the update is a boundary. -/
theorem commitsApply : Obligations.CommitsApply := by
  intro s
  refine ⟨fun armed => ?now, fun armed carries => ?boundary, fun armed uncarried => ?waits, fun none => ?none⟩
  case now =>
    refine ⟨s.update, congrArg Host.Outcome.next (if_pos (by rw [armed]; rfl)), rfl, State.update_appliedNow armed, ?_, ?_⟩
    all_goals simp only [BitVec.add_zero]
    · exact State.update_records_of_armedNow armed
    · exact State.update_retains_of_armedNow armed
  case boundary =>
    obtain ⟨counted, cycles⟩ := State.update_cycles carries
    refine ⟨s.update, congrArg Host.Outcome.next (if_pos (by rw [armed, carries]; rfl)), rfl, State.update_appliedBoundary armed carries,
      counted, fun room => ?_⟩
    rw [cycles]
    exact State.update_records_of_armedBoundary armed carries room
  case waits =>
    obtain ⟨commit, active, staged⟩ := State.update_unapplied (by rw [armed]; decide) fun _ => uncarried
    exact ⟨s.update, rfl, commit.trans armed, active, staged⟩
  case none =>
    obtain ⟨commit, active, staged⟩ := State.update_unapplied (s := s) (by rw [none]; decide) (by rw [none]; nofun)
    exact ⟨s.update, rfl, commit.trans none, active, staged⟩

end Sys2Proof.Machine


/-! O54: the requests on the record queue, and the automatic snapshot of a boundary (R155, R158 to R161). -/
namespace Sys2Proof.Machine

/-! ### The settings of the queue -/

/-- The fields of the queue that no record moves: the automatic snapshot's interval, suspension and counter. -/
def Queue.settings (q : Queue) : Half × Bool × Half := (q.interval, q.suspended, q.autoCount)

theorem Queue.offer_settings (q : Queue) (r : Record) : (q.offer r).settings = q.settings := by
  unfold Queue.offer
  split
  · rfl
  · split <;> rfl

theorem settings_protects : Protects fun s t => t.queue.settings = s.queue.settings where
  refl _ := rfl
  trans h k := k.trans h
  setGen _ _ := rfl
  addEvent _ _ := rfl
  record s b := Queue.offer_settings { s.queue with nextSeq := s.queue.nextSeq + 1#16 } _
  setOutputs _ _ := rfl
  setZones _ _ := rfl
  setTagCounter _ _ := rfl

theorem settings_generates : Generates fun s t => t.queue.settings = s.queue.settings where
  toSteers := settings_protects.toSteers
  setActiveSet _ _ := rfl
  setCommit _ _ := rfl

theorem settings_strains : Strains fun s t => t.queue.settings = s.queue.settings :=
  { toHands := settings_protects.hands, updGauge := fun _ _ _ _ => rfl }

/-- The part as a boundary leaves it, but for the snapshot and the pause. -/
def State.closing (s : State) : State := s.noticed.closeCycles

theorem State.closing_settings (s : State) : s.closing.queue.settings = s.queue.settings := by
  have lists := settings_protects.lists false
  have generated : s.updateSetpoints.queue.settings = s.queue.settings := settings_generates.updateGenerator s
  exact (settings_strains.closeCycles (fun own _ => (settings_protects.lists true).raise _ _ own) s.noticed).trans
    ((lists.boundaryRemovals _).trans ((lists.arrive _ _).trans generated))

/-! ### Snapshots (R158) -/

/-- The body of a snapshot: the generator of one state, the gauges, channels and zones of another. -/
def State.shot (u v : State) (trigger : Trigger) : Body :=
  .snapshot trigger u.gen.state u.gen.current
    (((List.finRange 64).filter fun g => v.gauges[g].config.enabled).map fun g =>
      { gauge := g, extremes := v.gauges[g].run.last, fault := v.gauges[g].run.lastFault, sat := v.gauges[g].run.lastSat })
    (Vector.ofFn fun c => {
      setpoint := if v.zones[v.channels[c].zone].state = .dumped then none else some v.outputs[c].setpoint
      force := v.supervision[c].force, zone := v.zones[v.channels[c].zone].state })

theorem State.snapshotBody_eq (s : State) (trigger : Trigger) : s.snapshotBody trigger = s.shot s trigger := rfl

/-- The automatic snapshot moves the queue only. -/
theorem State.autoSnapshot_rest (s : State) : { s.autoSnapshot with queue := s.queue } = s := by
  unfold State.autoSnapshot
  split
  · rfl
  · split
    · rfl
    · split <;> rfl

/-- The snapshot and the pause at the end of a boundary move the queue, the generator and the ports only. -/
theorem State.closed_rest (u : State) :
    { u.autoSnapshot.syncPause with queue := u.queue, gen := u.gen, ports := u.ports } = u := by
  have shot := u.autoSnapshot_rest
  have gen : u.autoSnapshot.gen = u.gen := u.autoSnapshot_gen
  have ports : u.autoSnapshot.ports = u.ports := State.autoSnapshot_of_field (π := State.ports) (s := u)
  have paused := congrArg (fun w : State => { w with queue := u.queue }) (rest_steers.syncPause u.autoSnapshot)
  rw [shot] at paused
  rw [← gen, ← ports]
  exact paused

/-- What a snapshot would hold does not move with the queue, the generator's pause and the ports. -/
theorem State.shot_of_rest {u t : State} (rest : { t with queue := u.queue, gen := u.gen, ports := u.ports } = u) (trigger : Trigger) :
    u.shot t trigger = u.shot u trigger := by
  have field {α : Type} (π : State → α)
      (kept : ∀ (s : State) (q : Queue) (g : Generator) (p : Vector Port 6), π { s with queue := q, gen := g, ports := p } = π s := by
        intros; rfl) : π t = π u := (kept _ _ _ _).symm.trans (congrArg π rest)
  simp only [State.shot, field State.gauges, field State.zones, field State.channels, field State.outputs, field State.supervision]

/-- The automatic snapshot's part of a boundary, by its settings (R159). -/
theorem State.autoSnapshot_of_off {u : State} (h : u.queue.interval = 0#16 ∨ u.queue.suspended = true) : u.autoSnapshot = u := by
  unfold State.autoSnapshot
  split
  · rfl
  · next on => exact if_pos (h.resolve_left on)

section
variable {u : State} (on : u.queue.interval ≠ 0#16) (free : u.queue.suspended = false)
include on free

theorem State.autoSnapshot_of_counting (below : u.queue.autoCount + 1#16 ≠ u.queue.interval) :
    u.autoSnapshot = { u with queue := { u.queue with autoCount := u.queue.autoCount + 1#16 } } := by
  rw [State.autoSnapshot, if_neg on, if_neg (by rw [free]; decide), if_neg below]
  rfl

theorem State.autoSnapshot_of_due (due : u.queue.autoCount + 1#16 = u.queue.interval) :
    u.autoSnapshot = State.record { u with queue := { u.queue with autoCount := 0#16 } } (u.shot u .auto) := by
  rw [State.autoSnapshot, if_neg on, if_neg (by rw [free]; decide), if_pos due]
  rfl
end

/-! ### The requests (R155, R160, R161) -/

theorem exec_setQueue_of_range {on : Byte} (h : on = 0#8 ∨ 128 < on.toNat) (off : Byte) (n : Half) (s : State) :
    exec (.setQueue .director on off n) s = .next (s.answer .director 0x63#8 4#16 .range []) := by
  have none : thresholds? on off = none := if_pos (h.imp_left fun zero => by rw [zero]; rfl)
  exact congrArg Host.Outcome.next (State.serve_refused (r := .setQueue) (n := 4) rfl (by simp only [none]))

theorem exec_setQueue_of_within {on : Byte} (low : 1 ≤ on.toNat) (high : on.toNat ≤ 128) (off : Byte) (n : Half) (s : State) :
    exec (.setQueue .director on off n) s =
      .next ((s.setQueue (s.queue.configured on.toNat (min off.toNat (on.toNat - 1)) n)).answer .director 0x63#8 4#16 .ok
        ([on, BitVec.ofNat 8 (min off.toNat (on.toNat - 1))] ++ bytes2 n
          ++ [yes (s.queue.configured on.toNat (min off.toNat (on.toNat - 1)) n).logReady])) := by
  have some : thresholds? on off = some (on.toNat, min off.toNat (on.toNat - 1)) :=
    if_neg (not_or.mpr ⟨by omega, Nat.not_lt.mpr high⟩)
  have sent : byteOf on.toNat = on := by simp [byteOf]
  refine congrArg Host.Outcome.next (State.serve_ok (r := .setQueue) (n := 4) rfl ?_)
  simp only [some, sent]
  rfl

/-- A snapshot is admitted while there is room. -/
theorem State.admits_snapshot (s : State) (trigger : Trigger) :
    yes (s.queue.admits (s.snapshotRecord trigger)) = if s.queue.records.length < 128 then 1#8 else 0#8 := by
  have admitted : s.queue.admits (s.snapshotRecord trigger) = decide (s.queue.records.length < 128) := Bool.or_false _
  rw [admitted, yes]
  simp only [decide_eq_true_eq]

theorem exec_snapshot {p : PortId} (right : p = .director ∨ p = .logger) (s : State) :
    exec (.snapshot p) s =
      let made := s.record (s.shot s (if p = .director then .director else .logger))
      .next ({ made with queue := { made.queue with suspended := true } }.answer p 0x61#8 0#16 .ok
        (bytes2 s.queue.nextSeq ++ [if s.queue.records.length < 128 then 1#8 else 0#8])) := by
  have trigger : manualTrigger p = if p = .director then .director else .logger := by
    obtain rfl | rfl := right <;> rfl
  have granted : hasRight p .snapshot = true := by obtain rfl | rfl := right <;> rfl
  rw [← s.admits_snapshot (manualTrigger p), ← trigger]
  exact congrArg Host.Outcome.next (State.serve_ok granted rfl)

/-- Settles O54: the three requests, and a boundary by the interval, the suspension and the counter. -/
theorem queueRequests : Obligations.QueueRequests := by
  intro s
  refine ⟨fun on off n => ⟨fun out => exec_setQueue_of_range out off n s, fun low high => exec_setQueue_of_within low high off n s⟩,
    fun p right => exec_snapshot right s, congrArg Host.Outcome.next (State.serve_ok (r := .resumeAutoSnapshot) rfl rfl), fun carries => ?_⟩
  obtain ⟨u, closing⟩ : ∃ u, u = s.closing := ⟨_, rfl⟩
  obtain ⟨t, turned⟩ : ∃ t, t = u.autoSnapshot.syncPause := ⟨_, rfl⟩
  have settings := s.closing_settings
  rw [← closing] at settings
  obtain ⟨interval, suspended, count⟩ : u.queue.interval = s.queue.interval ∧ u.queue.suspended = s.queue.suspended
      ∧ u.queue.autoCount = s.queue.autoCount := by
    simpa only [Queue.settings, Prod.mk.injEq] using settings
  have whole : s.update = t := by
    rw [turned, closing]
    exact State.update_of_carry carries
  have rest : { t with queue := u.queue, gen := u.gen, ports := u.ports } = u := by
    rw [turned]
    exact u.closed_rest
  have gen : { t.gen with state := u.gen.state, lastReason := u.gen.lastReason } = u.gen := by
    rw [turned, State.syncPause_gen, u.autoSnapshot_gen]
    exact u.gen.synced_rest _
  have cycles : u.gen.cycles = t.gen.cycles := by rw [← gen]
  have counted (w : State) : w.syncPause.queue.autoCount = w.queue.autoCount := by
    have settings := settings_protects.syncPause w
    simp only [Queue.settings, Prod.mk.injEq] at settings
    exact settings.2.2
  refine ⟨u, t, congrArg Host.Outcome.next ((if_pos carries).trans whole), interval, suspended, count, rest, ?_, gen,
    fun off => ?off, fun on free below => ?counting, fun on free due => ?due⟩
  · rw [cycles, ← whole]
    exact (State.update_cycles carries).1
  case off =>
    have shot := State.autoSnapshot_of_off (u := u) (by rwa [interval, suspended])
    have paused : t = u.syncPause := turned.trans (congrArg State.syncPause shot)
    exact ⟨paused, by rw [paused, counted, count]⟩
  case counting =>
    have shot := State.autoSnapshot_of_counting (u := u) (by rwa [interval]) (by rwa [suspended]) (by rwa [interval, count])
    have paused : t = State.syncPause { u with queue := { u.queue with autoCount := s.queue.autoCount + 1#16 } } := by
      rw [turned, ← count]
      exact congrArg State.syncPause shot
    exact ⟨paused, by rw [paused, counted]⟩
  case due =>
    have shot := State.autoSnapshot_of_due (u := u) (by rwa [interval]) (by rwa [suspended]) (by rwa [interval, count])
    rw [← State.shot_of_rest rest] at shot
    have paused := turned.trans (congrArg State.syncPause shot)
    refine ⟨paused, ?_⟩
    have settings := Queue.offer_settings { u.queue with autoCount := 0#16, nextSeq := u.queue.nextSeq + 1#16 }
      { seq := u.queue.nextSeq, stamp := u.stamp, cycle := u.gen.cycles, body := u.shot t .auto }
    simp only [Queue.settings, Prod.mk.injEq] at settings
    exact (congrArg (fun w : State => w.queue.autoCount) paused).trans ((counted _).trans settings.2.2)

end Sys2Proof.Machine


/-! What a raise does in one zone (R131 to R135): the entry that takes it, its tag, and the escalation with its records and events. -/
namespace Sys2Proof.Machine

/-! ### The tag of a new entry (R132) -/

/-- The tag taken is the first after the counter's that is free: all before it are 0 or in use. -/
theorem freeTag_first (used : List Half) (n : Nat) (t : Half) :
    ∃ k, freeTag used n t = Nat.repeat succTag k t
      ∧ ∀ j, j < k → Nat.repeat succTag j t = 0#16 ∨ Nat.repeat succTag j t ∈ used := by
  induction n generalizing t with
  | zero => exact ⟨0, rfl, fun _ lt => absurd lt (Nat.not_lt_zero _)⟩
  | succ n ih =>
    rw [freeTag]
    split
    · next taken =>
      obtain ⟨k, found, before⟩ := ih (succTag t)
      refine ⟨k + 1, by rw [found, repeat_succTag_succ], fun j lt => ?_⟩
      cases j with
      | zero => exact taken
      | succ j => rw [repeat_succTag_succ]; exact before j (Nat.lt_of_succ_lt_succ lt)
    · exact ⟨0, rfl, fun _ lt => absurd lt (Nat.not_lt_zero _)⟩

/-! ### An escalation (R50, R51, R134, R135) -/

theorem ZoneState.escalate_eq (before : ZoneState) (a : Action) :
    before.escalate a.severity =
      if a.severity = 1 ∧ before ∈ [ZoneState.normal, .reloading] then .held
      else if a.severity = 2 ∧ before ∈ [ZoneState.normal, .held, .reloading] then .unloading
      else if a.severity = 3 then .dumped else before := by
  cases a <;> cases before <;> rfl

/-- The entry into a state moves the setpoints or the held values of the zone's channels. -/
theorem State.enterZone_output (s : State) (z : Fin 4) (st : ZoneState) (c : Fin 8) :
    (s.enterZone z st).outputs[c] =
      if s.channels[c].zone = z ∧ st = .held then { s.outputs[c] with held := s.outputs[c].setpoint }
      else if s.channels[c].zone = z ∧ st = .dumped then { s.outputs[c] with setpoint := s.channels[c].ul }
      else s.outputs[c] := by
  cases st <;> simp [State.enterZone, State.captureHeld, State.dumpMembers, State.updZone] <;> rfl

theorem State.changeZone_output (s : State) (z : Fin 4) (st : ZoneState) (late : Bool) (c : Fin 8) :
    (s.changeZone z st late).outputs[c] =
      if s.channels[c].zone = z ∧ s.zones[z].state ≠ .held ∧ st = .held then { s.outputs[c] with held := s.outputs[c].setpoint }
      else if s.channels[c].zone = z ∧ s.zones[z].state ≠ .dumped ∧ st = .dumped then
        { s.outputs[c] with setpoint := s.channels[c].ul }
      else s.outputs[c] := by
  by_cases same : s.zones[z].state = st
  · have still : s.changeZone z st late = s := if_pos same
    rw [if_neg fun h => h.2.1 (same.trans h.2.2), if_neg fun h => h.2.1 (same.trans h.2.2)]
    simp only [still]
  · have entered (x : ZoneState) : (s.zones[z].state ≠ x ∧ st = x) ↔ st = x :=
      and_iff_right_of_imp fun h => by rwa [← h]
    have outputs : (s.changeZone z st late).outputs = (s.enterZone z st).outputs := by
      rw [State.changeZone, if_neg same]
      dsimp only
      split
      · rfl
      · exact State.syncPause_outputs _
    simp only [entered, outputs, ← State.enterZone_output]

/-- The record a part makes of a body once k others are made. -/
def State.note (s : State) (k : Half) (b : Body) : Record :=
  { seq := s.queue.nextSeq + k, stamp := s.stamp, cycle := s.gen.cycles, body := b }

theorem State.record_noted {s : State} (room : s.queue.records.length < 128) (b : Body) :
    (s.record b).queue.records = s.queue.records ++ [s.note 0#16 b] := by
  rw [State.record_records room, State.note, BitVec.add_zero]

theorem State.programRecord_records {s : State} (room : s.queue.records.length < 128) (i : Fin 64) (r : Reason) :
    (s.programRecord i r).queue.records = s.queue.records ++ [s.note 0#16 (.program i (s.gen.kindAt i) s.gen.state r)] :=
  State.record_noted (s := s.setGen { s.gen with lastReason := r }) room _

theorem State.enterZone_queue (s : State) (z : Fin 4) (st : ZoneState) : (s.enterZone z st).queue = s.queue := by
  cases st <;> rfl

theorem State.enterZone_stamp (s : State) (z : Fin 4) (st : ZoneState) : (s.enterZone z st).stamp = s.stamp := by
  cases st <;> rfl

theorem State.enterZone_note (s : State) (z : Fin 4) (st : ZoneState) : (s.enterZone z st).note = s.note := by
  funext k b
  rw [State.note, State.enterZone_queue, State.enterZone_stamp, State.enterZone_gen, State.note]

section
variable {s : State} {z : Fin 4} {st : ZoneState} {late : Bool}

/-- A change of a zone's state, up to the generator's pause. -/
def State.changed (s : State) (z : Fin 4) (st : ZoneState) : State :=
  ((s.enterZone z st).record (.zoneChange z s.zones[z].state st)).addEvent .zoneChange

theorem State.changeZone_of_change (other : s.zones[z].state ≠ st) :
    s.changeZone z st late = if late then s.changed z st else (s.changed z st).syncPause := if_neg other

theorem State.changeZone_of_same (same : s.zones[z].state = st) : s.changeZone z st late = s := if_pos same

theorem State.changed_records (room : s.queue.records.length < 128) :
    (s.changed z st).queue.records = s.queue.records ++ [s.note 0#16 (.zoneChange z s.zones[z].state st)] := by
  have recorded := State.record_noted (s := s.enterZone z st) (by rwa [State.enterZone_queue]) (.zoneChange z s.zones[z].state st)
  rwa [State.enterZone_queue, State.enterZone_note] at recorded

theorem State.changed_note (k : Half) (b : Body) : (s.changed z st).note k b = s.note (1#16 + k) b := by
  have next : (s.changed z st).queue.nextSeq = s.queue.nextSeq + 1#16 :=
    (State.record_nextSeq (s.enterZone z st) _).trans (by rw [State.enterZone_queue])
  have stamp : (s.changed z st).stamp = s.stamp := s.enterZone_stamp z st
  have gen : (s.changed z st).gen = s.gen := s.enterZone_gen z st
  rw [State.note, next, stamp, gen, BitVec.add_assoc, State.note]

theorem State.changeZone_records (room : s.queue.records.length ≤ 126) :
    s.queue.records ++ (if s.zones[z].state = st then [] else [s.note 0#16 (.zoneChange z s.zones[z].state st)])
      <+: (s.changeZone z st late).queue.records := by
  split
  · next same => exact ⟨[], by rw [State.changeZone_of_same same, List.append_nil, List.append_nil]⟩
  · next other =>
    have records := State.changed_records (z := z) (st := st) (Nat.lt_of_le_of_lt room (by decide))
    rw [State.changeZone_of_change other, ← records]
    split
    · exact List.prefix_rfl
    · refine (State.Appends.syncPause (s.changed z st)).prefix_of ?_
      rw [records, List.length_append]
      exact Nat.add_le_add_right (Nat.add_le_add_right room 1) 1

theorem State.changeZone_holds (other : s.zones[z].state ≠ st) (q : PortId) : (s.changeZone z st late).holds q .zoneChange = true := by
  have holds : (s.changed z st).holds q .zoneChange = true := State.addEvent_holds _ q
  rw [State.changeZone_of_change other]
  split
  · exact holds
  · exact (latches_composes.syncPause _).holds (by decide) holds

theorem State.changeZone_gen_kept (kept : s.zones[z].state = st ∨ late = true) : (s.changeZone z st late).gen = s.gen := by
  by_cases same : s.zones[z].state = st
  · rw [State.changeZone_of_same same]
  · rw [State.changeZone_of_change same, if_pos (kept.resolve_left same)]
    exact s.enterZone_gen z st

/-- A change of a zone that brings the pause demand pauses a running generator, with its record (R21, R135). -/
theorem State.changeZone_pauses {i : Fin 64} (other : s.zones[z].state ≠ st) (running : s.gen.state = .running)
    (current : s.gen.current = some i) (demand : (s.changeZone z st false).pauseDemand = true) :
    (s.changeZone z st false).gen.state = .paused
      ∧ (s.queue.records.length ≤ 126 →
        s.note 1#16 (.program i s.gen.program[i].kind .paused .pause) ∈ (s.changeZone z st false).queue.records) := by
  have gen : (s.changed z st).gen = s.gen := s.enterZone_gen z st
  have change : s.changeZone z st false = (s.changed z st).syncPause := State.changeZone_of_change other
  have zones : (s.changed z st).syncPause.zones = (s.changed z st).zones := State.syncPause_zones _
  rw [change] at demand ⊢
  have paused := State.syncPause_of_pausing (s := s.changed z st) (i := i) (by rw [gen, running])
    (.inl ((State.pauseDemand_congr zones).symm.trans demand)) (by rw [gen, current])
  rw [paused]
  refine ⟨rfl, fun room => ?_⟩
  have records := State.changed_records (z := z) (st := st) (Nat.lt_of_le_of_lt room (by decide))
  have made := State.programRecord_records (s := (s.changed z st).setGen { (s.changed z st).gen with state := .paused })
    (Nat.lt_of_le_of_lt (m := 127) (by
      refine Nat.le_trans (Nat.le_of_eq (congrArg List.length records)) ?_
      rw [List.length_append]
      exact Nat.add_le_add_right room 1) (by decide)) i .pause
  have noted := State.changed_note (s := s) (z := z) (st := st) 0#16 (.program i s.gen.program[i].kind .paused .pause)
  rw [made]
  refine List.mem_append_right _ (List.mem_singleton.mpr (noted.symm.trans ?_))
  simp only [State.note, State.setGen_queue, State.setGen_stamp, State.setGen_gen, gen]
  rfl
end

/-! ### The escalation of a raise (R134, R135) -/

/-- A zone with another list, the counter at a tag. -/
def State.listed (s : State) (z : Fin 4) (entries : List Entry) (tag : Half) : State :=
  (s.setZones (s.zones.set z { s.zones[z] with entries := entries })).setTagCounter tag

theorem State.listed_state (s : State) (z : Fin 4) (entries : List Entry) (tag : Half) :
    (s.listed z entries tag).zones[z].state = s.zones[z].state := by
  simp [State.listed]

/-- A raise taken by an entry, up to the zone's state: the list, the record and the event. -/
def State.alarmed (s : State) (z : Fin 4) (entries : List Entry) (tag : Half) (source : Source) (e : Entry) (after : ZoneState) : State :=
  ((s.listed z entries tag).record (.alarmRaised z e.tag source e.action e.repeats after)).addEvent .alarm

section
variable {s : State} {z : Fin 4} {entries : List Entry} {tag : Half} {source : Source} {e : Entry} {after : ZoneState} {late : Bool}

theorem State.alarmed_state : (s.alarmed z entries tag source e after).zones[z].state = s.zones[z].state :=
  s.listed_state z entries tag

theorem State.alarmed_records (room : s.queue.records.length < 128) :
    (s.alarmed z entries tag source e after).queue.records
      = s.queue.records ++ [s.note 0#16 (.alarmRaised z e.tag source e.action e.repeats after)] :=
  State.record_noted (s := s.listed z entries tag) room _

theorem State.alarmed_note (k : Half) (b : Body) : (s.alarmed z entries tag source e after).note k b = s.note (1#16 + k) b := by
  have next : (s.alarmed z entries tag source e after).queue.nextSeq = s.queue.nextSeq + 1#16 :=
    State.record_nextSeq (s.listed z entries tag) _
  rw [State.note, next, BitVec.add_assoc]
  rfl

theorem State.escalates_zones :
    ((s.alarmed z entries tag source e after).changeZone z after late).zones
      = s.zones.set z { s.zones[z] with state := after, entries := entries } := by
  rw [State.changeZone_zones]
  simp [State.updZone, State.alarmed, State.listed]

theorem State.escalates_output (c : Fin 8) :
    ((s.alarmed z entries tag source e after).changeZone z after late).outputs[c] =
      if s.channels[c].zone = z ∧ s.zones[z].state ≠ .held ∧ after = .held then { s.outputs[c] with held := s.outputs[c].setpoint }
      else if s.channels[c].zone = z ∧ s.zones[z].state ≠ .dumped ∧ after = .dumped then
        { s.outputs[c] with setpoint := s.channels[c].ul }
      else s.outputs[c] := by
  rw [← State.alarmed_state (s := s) (entries := entries) (tag := tag) (source := source) (e := e) (after := after)]
  exact State.changeZone_output _ z after late c

theorem State.escalates_keeps : Keeps s ((s.alarmed z entries tag source e after).changeZone z after late) :=
  ((((Keeps.of_updZone s z fun x => { x with entries := entries }).trans (.of_setTagCounter _ _)).trans (.of_record _ _)).trans
    (.of_addEvent _ _)).trans (.of_changeZone _ _ _ _)

theorem State.changeZone_tagCounter (s : State) (z : Fin 4) (st : ZoneState) (late : Bool) :
    (s.changeZone z st late).tagCounter = s.tagCounter := by
  have entered : (s.enterZone z st).tagCounter = s.tagCounter := by cases st <;> rfl
  unfold State.changeZone
  split
  · rfl
  · dsimp only
    split
    · exact entered
    · rw [State.syncPause_tagCounter]
      exact entered

/-- The records of an escalation, the generator's pause apart. -/
theorem State.escalates_records (room : s.queue.records.length ≤ 120) :
    s.queue.records ++ [s.note 0#16 (.alarmRaised z e.tag source e.action e.repeats after)]
        ++ (if s.zones[z].state = after then [] else [s.note 1#16 (.zoneChange z s.zones[z].state after)])
      <+: ((s.alarmed z entries tag source e after).changeZone z after late).queue.records := by
  have alarmed := State.alarmed_records (z := z) (entries := entries) (tag := tag) (source := source) (e := e) (after := after)
    (Nat.lt_of_le_of_lt room (by decide))
  have changed := State.changeZone_records (s := s.alarmed z entries tag source e after) (z := z) (st := after) (late := late)
    (by rw [alarmed, List.length_append]; exact Nat.le_trans (Nat.add_le_add_right room 1) (by decide))
  rwa [alarmed, State.alarmed_state, State.alarmed_note] at changed

theorem State.escalates_holds (q : PortId) :
    ((s.alarmed z entries tag source e after).changeZone z after late).holds q .alarm = true
      ∧ (s.zones[z].state ≠ after → ((s.alarmed z entries tag source e after).changeZone z after late).holds q .zoneChange = true) := by
  refine ⟨(latches_composes.changeZone _ _ _ _).holds (by decide) (State.addEvent_holds _ q), fun other => ?_⟩
  exact State.changeZone_holds (by rwa [State.alarmed_state]) q

theorem State.escalates_gen_kept (kept : s.zones[z].state = after ∨ late = true) :
    ((s.alarmed z entries tag source e after).changeZone z after late).gen = s.gen :=
  State.changeZone_gen_kept (by rwa [State.alarmed_state])

theorem State.escalates_pauses {i : Fin 64} (other : s.zones[z].state ≠ after) (running : s.gen.state = .running)
    (current : s.gen.current = some i)
    (demand : ((s.alarmed z entries tag source e after).changeZone z after false).pauseDemand = true) :
    ((s.alarmed z entries tag source e after).changeZone z after false).gen.state = .paused
      ∧ (s.queue.records.length ≤ 120 → s.note 2#16 (.program i s.gen.program[i].kind .paused .pause)
          ∈ ((s.alarmed z entries tag source e after).changeZone z after false).queue.records) := by
  have alarmed := State.alarmed_records (s := s) (z := z) (entries := entries) (tag := tag) (source := source) (e := e) (after := after)
  obtain ⟨paused, noted⟩ := State.changeZone_pauses (s := s.alarmed z entries tag source e after) (i := i)
    (by rwa [State.alarmed_state]) running current demand
  refine ⟨paused, fun room => ?_⟩
  have noted := noted (by
    rw [alarmed (Nat.lt_of_le_of_lt room (by decide)), List.length_append]
    exact Nat.le_trans (Nat.add_le_add_right room 1) (by decide))
  rwa [State.alarmed_note] at noted
end

end Sys2Proof.Machine


/-! How a raise finds its entry in one lawful list (R131 to R133), and what is left of the part. -/
namespace Sys2Proof.Machine

/-! ### One entry of a list -/

/-- A change of the entries of one kind, where the list holds one of them. -/
theorem map_ite_at {p : Entry → Prop} [DecidablePred p] {pre post : List Entry} {e : Entry} (own : p e)
    (others : ∀ y ∈ pre ++ post, ¬ p y) (f : Entry → Entry) :
    (pre ++ e :: post).map (fun y => if p y then f y else y) = pre ++ f e :: post := by
  have same (l : List Entry) (h : ∀ y ∈ l, ¬ p y) : l.map (fun y => if p y then f y else y) = l :=
    (List.map_congr_left fun y mem => if_neg (h y mem)).trans (List.map_id _)
  rw [List.map_append, List.map_cons, if_pos own, same pre fun y mem => others y (List.mem_append_left _ mem),
    same post fun y mem => others y (List.mem_append_right _ mem)]

theorem find?_at {p : Entry → Bool} {pre post : List Entry} {e : Entry} (own : p e = true) (before : ∀ y ∈ pre, p y = false) :
    (pre ++ e :: post).find? p = some e := by
  rw [List.find?_append, List.find?_eq_none.mpr (fun y mem => by rw [before y mem]; decide), Option.none_or,
    List.find?_cons_of_pos own]

/-- A lawful list holds one overflow entry at most. -/
theorem Zone.others_source {x : Zone} {pre post : List Entry} {e : Entry} (lawful : x.Lawful) (entries : x.entries = pre ++ e :: post)
    (overflow : e.kind = .overflow) : ∀ y ∈ pre ++ post, y.kind ≠ .overflow := by
  intro y mem spilled
  have single := lawful.2.2
  rw [entries, List.filter_append, List.filter_cons_of_pos (by simp [overflow]), List.length_append, List.length_cons] at single
  have counted {l : List Entry} (mem : y ∈ l) : 0 < (l.filter fun e => e.kind == .overflow).length :=
    List.length_pos_of_mem (List.mem_filter.mpr ⟨mem, beq_iff_eq.mpr spilled⟩)
  obtain before | after := List.mem_append.mp mem
  · have := counted before
    omega
  · have := counted after
    omega

/-! ### The entry that takes a raise -/

section
variable {s : State} {z : Fin 4} {r : Raise} {pre post : List Entry} {e : Entry}

theorem State.takeRaise_repeated (entries : s.zones[z].entries = pre ++ e :: post) (own : e.isOf r.source = true)
    (others : ∀ y ∈ pre ++ post, y.isOf r.source = false) :
    s.takeRaise z r = (s.listed z (pre ++ e.repeated r :: post) s.tagCounter, e.repeated r, false) := by
  have found := find?_at (p := fun e => e.isOf r.source) (post := post) own fun y mem => others y (List.mem_append_left _ mem)
  have mapped := map_ite_at (p := fun e => e.isOf r.source = true) own (fun y mem => by rw [others y mem]; decide) fun y => y.repeated r
  rw [← entries] at found mapped
  unfold State.takeRaise
  rw [found]
  dsimp only
  rw [State.updZone, mapped]
  rfl

variable (unfound : ∀ y ∈ s.zones[z].entries, y.isOf r.source = false)
include unfound

theorem State.unfound_find? : (s.zones[z].entries.find? fun e => e.isOf r.source) = none :=
  List.find?_eq_none.mpr fun y mem => Bool.eq_false_iff.mp (unfound y mem)

theorem State.takeRaise_new (room : s.zones[z].sourceEntries.length < Config.maxSourceEntries) :
    s.takeRaise z r
      = (s.listed z (s.zones[z].entries ++ [s.newEntry r]) (succTag s.nextTag), s.newEntry r, true) := by
  unfold State.takeRaise
  rw [State.unfound_find? unfound]
  dsimp only
  rw [if_pos room]
  rfl

theorem State.takeRaise_folded (full : Config.maxSourceEntries ≤ s.zones[z].sourceEntries.length)
    (entries : s.zones[z].entries = pre ++ e :: post) (own : e.kind = .overflow) (others : ∀ y ∈ pre ++ post, y.kind ≠ .overflow) :
    s.takeRaise z r = (s.listed z (pre ++ e.folded r :: post) s.tagCounter, e.folded r, false) := by
  have found := find?_at (p := fun e => e.kind == .overflow) (post := post) (beq_iff_eq.mpr own)
    fun y mem => beq_eq_false_iff_ne.mpr (others y (List.mem_append_left _ mem))
  have mapped := map_ite_at (p := fun e => e.kind = .overflow) own others fun y => y.folded r
  rw [← entries] at found mapped
  unfold State.takeRaise
  rw [State.unfound_find? unfound]
  dsimp only
  rw [if_neg (Nat.not_lt.mpr full), found]
  dsimp only
  rw [State.updZone, mapped]
  rfl

theorem State.takeRaise_spilled (full : Config.maxSourceEntries ≤ s.zones[z].sourceEntries.length)
    (unspilled : ∀ y ∈ s.zones[z].entries, y.kind = .source) :
    s.takeRaise z r
      = (s.listed z (s.zones[z].entries ++ [s.newOverflow r]) (succTag s.nextTag), s.newOverflow r, false) := by
  have none : (s.zones[z].entries.find? fun e => e.kind == .overflow) = none :=
    List.find?_eq_none.mpr fun y mem => by rw [unspilled y mem]; decide
  unfold State.takeRaise
  rw [State.unfound_find? unfound]
  dsimp only
  rw [if_neg (Nat.not_lt.mpr full), none]
  rfl
end

/-! ### A raise in one zone -/

section
variable {s : State} {z : Fin 4} {r : Raise} {entries : List Entry} {tag : Half} {e : Entry} {late : Bool}

/-- A raise that a standing or a lasting entry takes. -/
theorem State.raiseIn_of_taken {fresh : Bool} (taken : s.takeRaise z r = (s.listed z entries tag, e, fresh))
    (lasting : (fresh && !e.condition && e.method == .auto) = false) :
    s.raiseIn z r late
      = (s.alarmed z entries tag r.source e (s.zones[z].state.escalate e.action.severity)).changeZone z
          (s.zones[z].state.escalate e.action.severity) late := by
  unfold State.raiseIn
  rw [taken]
  dsimp only
  rw [lasting, s.listed_state, if_neg (by decide)]
  rfl

/-- A raise whose new entry is removed at once. -/
theorem State.raiseIn_of_passing (taken : s.takeRaise z r = (s.listed z entries tag, e, true))
    (clear : e.condition = false) (auto : e.method = .auto) :
    s.raiseIn z r late
      = State.removeEntry ((s.alarmed z entries tag r.source e (s.zones[z].state.escalate e.action.severity)).changeZone z
          (s.zones[z].state.escalate e.action.severity) late) z e .auto late := by
  unfold State.raiseIn
  rw [taken]
  dsimp only
  rw [clear, auto, s.listed_state]
  rfl
end

/-- What a raise leaves of a part in one zone: the list and the state of the zone, the outputs of its channels, the records, the
events and the generator's pause (R50, R51, R134, R135). -/
structure State.Takes (s t : State) (z : Fin 4) (source : Source) (late : Bool) (e : Entry) (entries : List Entry) (after : ZoneState) :
    Prop where
  zones : t.zones = s.zones.set z { s.zones[z] with state := after, entries := entries }
  output : ∀ c : Fin 8, t.outputs[c] =
    if s.channels[c].zone = z ∧ s.zones[z].state ≠ .held ∧ after = .held then { s.outputs[c] with held := s.outputs[c].setpoint }
    else if s.channels[c].zone = z ∧ s.zones[z].state ≠ .dumped ∧ after = .dumped then
      { s.outputs[c] with setpoint := s.channels[c].ul }
    else s.outputs[c]
  records : s.queue.records.length ≤ 120 →
    s.queue.records ++ [s.note 0#16 (.alarmRaised z e.tag source e.action e.repeats after)]
      ++ (if s.zones[z].state = after then [] else [s.note 1#16 (.zoneChange z s.zones[z].state after)]) <+: t.queue.records
  holds : ∀ q, t.holds q .alarm = true ∧ (s.zones[z].state ≠ after → t.holds q .zoneChange = true)
  still : s.zones[z].state = after ∨ late = true → t.gen = s.gen
  pauses : ∀ i, s.zones[z].state ≠ after → late = false → s.gen.state = .running → s.gen.current = some i → t.pauseDemand = true →
    t.gen.state = .paused
      ∧ (s.queue.records.length ≤ 120 → s.note 2#16 (.program i s.gen.program[i].kind .paused .pause) ∈ t.queue.records)
  keeps : Keeps s t

section
variable {s : State} {z : Fin 4} {r : Raise} {entries : List Entry} {tag : Half} {e : Entry} {late : Bool} {after : ZoneState}

theorem State.takes_of_alarmed (source : Source) :
    s.Takes ((s.alarmed z entries tag source e after).changeZone z after late) z source late e entries after where
  zones := State.escalates_zones
  output := State.escalates_output
  records := State.escalates_records
  holds := State.escalates_holds
  still := State.escalates_gen_kept
  pauses i other now running current demand := by
    subst now
    exact State.escalates_pauses other running current demand
  keeps := State.escalates_keeps

/-- A raise that a standing or a lasting entry takes. -/
theorem State.takes_of_taken {fresh : Bool} (taken : s.takeRaise z r = (s.listed z entries tag, e, fresh))
    (lasting : (fresh && !e.condition && e.method == .auto) = false) :
    s.Takes (s.raiseIn z r late) z r.source late e entries (s.zones[z].state.escalate e.action.severity) := by
  rw [State.raiseIn_of_taken taken lasting]
  exact State.takes_of_alarmed _

theorem State.raiseIn_tagCounter {fresh : Bool} (taken : s.takeRaise z r = (s.listed z entries tag, e, fresh)) :
    (s.raiseIn z r late).tagCounter = tag := by
  unfold State.raiseIn
  rw [taken]
  dsimp only
  split
  · exact (State.changeZone_tagCounter _ _ _ _).trans (State.changeZone_tagCounter _ _ _ _)
  · exact State.changeZone_tagCounter _ _ _ _

/-- A new AUTO entry of a REPORT without a condition is removed at once, and leaves the zone as it was. -/
theorem State.raiseIn_passing (taken : s.takeRaise z r = (s.listed z (s.zones[z].entries ++ [e]) tag, e, true))
    (clear : e.condition = false) (auto : e.method = .auto) (report : e.action = .report) (fresh : e.tag ∉ s.usedTags)
    (standing : s.zones[z].state ∈ [ZoneState.normal, .unloading, .unloaded, .reloading]
      ∨ ∃ x ∈ s.zones[z].entries, 1 ≤ x.action.severity) :
    (s.raiseIn z r late).zones = s.zones ∧ (∀ q, (s.raiseIn z r late).holds q .alarm = true)
      ∧ (s.queue.records.length ≤ 120 → s.queue.records
          ++ [s.note 0#16 (.alarmRaised z e.tag r.source e.action e.repeats s.zones[z].state),
            s.note 1#16 (.alarmCleared z e.tag e.kind e.source .auto s.zones[z].state)] <+: (s.raiseIn z r late).queue.records) := by
  have still : s.zones[z].state.escalate e.action.severity = s.zones[z].state := by
    rw [report]
    cases s.zones[z].state <;> rfl
  have eq := State.raiseIn_of_passing (late := late) taken clear auto
  rw [still, State.changeZone_of_same State.alarmed_state] at eq
  let u := s.alarmed z (s.zones[z].entries ++ [e]) tag r.source e s.zones[z].state
  have told : u = s.alarmed z (s.zones[z].entries ++ [e]) tag r.source e s.zones[z].state := rfl
  have own : u.zones[z] = { s.zones[z] with entries := s.zones[z].entries ++ [e] } := by simp [told, State.alarmed, State.listed]
  have entries : u.zones[z].entries = s.zones[z].entries ++ e :: [] := congrArg Zone.entries own
  have state : u.zones[z].state = s.zones[z].state := State.alarmed_state
  have unnamed : ∀ x ∈ s.zones[z].entries, x.tag ≠ e.tag := fun x mem same =>
    fresh (same ▸ State.tags_used (List.mem_map.mpr ⟨x, mem, rfl⟩))
  have returned : u.zones[z].state.returned (s.zones[z].entries ++ []) u.stopHold = s.zones[z].state := by
    rw [state, List.append_nil, ZoneState.returned]
    obtain resting | protect := standing
    · split
      · rfl
      · rw [if_neg, if_neg] <;> rintro h <;> simp_all
    · exact if_pos protect
  rw [eq]
  refine ⟨?zones, fun q => ((latches_composes.lists late).removeEntry u z e .auto).holds (by decide) (State.addEvent_holds _ q),
    fun room => ?records⟩
  case zones =>
    rw [State.removeEntry_returned entries unnamed, Zone.returned, returned, own, List.append_nil]
    have listed : u.zones = s.zones.set z { s.zones[z] with entries := s.zones[z].entries ++ [e] } := rfl
    rw [listed, Vector.set_set]
    exact Vector.set_getElem_self _
  case records =>
    have alarmed := State.alarmed_records (z := z) (entries := s.zones[z].entries ++ [e]) (tag := tag) (source := r.source) (e := e)
      (after := s.zones[z].state) (Nat.lt_of_le_of_lt room (by decide))
    have cleared := State.removeEntry_records entries unnamed .auto late
      (by rw [alarmed, List.length_append]; exact Nat.le_trans (Nat.add_le_add_right room 1) (by decide))
    have noted := State.alarmed_note (s := s) (z := z) (entries := s.zones[z].entries ++ [e]) (tag := tag) (source := r.source) (e := e)
      (after := s.zones[z].state) 0#16 (.alarmCleared z e.tag e.kind e.source .auto s.zones[z].state)
    rw [returned, alarmed, List.append_assoc] at cleared
    rw [BitVec.add_zero] at noted
    rw [← noted]
    simpa only [State.note, BitVec.add_zero, List.singleton_append] using cleared
end

end Sys2Proof.Machine


/-! O40: TRIP, SET_FRAME, and what a raise does (R86, R91, R130 to R135). -/
namespace Sys2Proof.Machine

/-! ### Frame records and zone protection -/

theorem State.setFrames_setFrames (s : State) (v w : Vector FrameRec 4) : (s.setFrames v).setFrames w = s.setFrames w := rfl

/-- Zone protection commutes with a change of the frame records. -/
theorem commutes_setFrames {f : State → State} (h : ∀ s x, f (State.aside s x) = (f s).aside x) (s : State) (v : Vector FrameRec 4) :
    f (s.setFrames v) = (f s).setFrames v :=
  commutes_of_aside (g := fun s => s.setFrames v) h (s := s)

/-- Zone protection after a change of the frame records leaves the part but for these, and the generator but for its pause. -/
theorem Keeps.of_setFrames {s t : State} {v : Vector FrameRec 4} (h : Keeps (s.setFrames v) t) :
    { t.gen with state := s.gen.state, lastReason := s.gen.lastReason } = s.gen
      ∧ { t with
          ports := s.ports, gen := s.gen, outputs := s.outputs, frames := s.frames, zones := s.zones, tagCounter := s.tagCounter
          queue := s.queue } = s :=
  ⟨h.generator, congrArg (fun w : State => { w with frames := s.frames }) h.rest⟩

/-- What an exchange and SET_FRAME hand over: the clear of FRAME_LATE and then that of FRAME_LOST, each where it was active. -/
def State.onTime (s : State) (f : Fin 4) (late lost : Bool) : State :=
  let onTime := if late then s.clear (.frameLate f) else s
  if lost then onTime.clear (.frameLost f) else onTime

section
variable (s : State) (f : Fin 4)

theorem State.clearLate_eq :
    s.clearLate f
      = (if s.frames[f].late then s.clear (.frameLate f) else s).setFrames (s.frames.set f { s.frames[f] with late := false }) := by
  unfold State.clearLate
  split
  · exact commutes_setFrames (f := fun s => s.clear (.frameLate f)) (fun s x => s.clear_aside x _) s _
  · next clear =>
    have same : { s.frames[f] with late := false } = s.frames[f] := by rw [← Bool.eq_false_iff.mpr clear]
    rw [same]
    exact congrArg s.setFrames (Vector.set_getElem_self f.isLt).symm

theorem State.clearLost_eq :
    s.clearLost f
      = (if s.frames[f].lost then s.clear (.frameLost f) else s).setFrames (s.frames.set f { s.frames[f] with lost := false }) := by
  unfold State.clearLost
  split
  · exact commutes_setFrames (f := fun s => s.clear (.frameLost f)) (fun s x => s.clear_aside x _) s _
  · next clear =>
    have same : { s.frames[f] with lost := false } = s.frames[f] := by rw [← Bool.eq_false_iff.mpr clear]
    rw [same]
    exact congrArg s.setFrames (Vector.set_getElem_self f.isLt).symm

theorem State.onTime_setFrames (late lost : Bool) (v : Vector FrameRec 4) :
    (s.setFrames v).onTime f late lost = (s.onTime f late lost).setFrames v := by
  have clears (x : Source) (s : State) : (s.setFrames v).clear x = (s.clear x).setFrames v :=
    commutes_setFrames (f := fun s => s.clear x) (fun s y => s.clear_aside y x) s v
  unfold State.onTime
  cases late <;> cases lost <;> simp [clears]

theorem State.onTime_keeps (late lost : Bool) : Keeps s (s.onTime f late lost) := by
  have step (u : State) (b : Bool) (x : Source) : Keeps u (if b then u.clear x else u) := by
    split
    · exact .of_clear u x
    · exact .refl u
  exact (step s late _).trans (step _ lost _)

/-- Both conditions of a frame clear, with their alarms. -/
theorem State.clearConditions_eq :
    (s.clearLate f).clearLost f
      = (s.setFrames (s.frames.set f { s.frames[f] with late := false, lost := false })).onTime f s.frames[f].late s.frames[f].lost := by
  have frames : (s.clearLate f).frames = s.frames.set f { s.frames[f] with late := false } := by
    rw [State.clearLate_eq]
    rfl
  have record : (s.clearLate f).frames[f] = { s.frames[f] with late := false } := by simp [frames]
  rw [State.clearLost_eq, State.onTime_setFrames, record, frames, Vector.set_set, State.clearLate_eq, State.onTime]
  dsimp only
  split
  · rw [commutes_setFrames (f := fun s => s.clear (.frameLost f)) (fun s x => s.clear_aside x _), State.setFrames_setFrames]
  · rw [State.setFrames_setFrames]

theorem State.onTime_inactive (late lost : Bool) :
    (late = true → (s.onTime f late lost).Inactive (.frameLate f)) ∧ (lost = true → (s.onTime f late lost).Inactive (.frameLost f)) :=
  ⟨fun active => (State.Inactive.of_ite active).ite_clear _, fun active => .of_ite active⟩
end

/-! ### SET_FRAME (R86) -/

/-- The record SET_FRAME leaves. -/
def FrameFields.placed (x : FrameFields) (r : FrameRec) : FrameRec := { x.stored r with late := false, lost := false }

theorem State.replaceFrame_eq (s : State) (f : Fin 4) (x : FrameFields) :
    s.replaceFrame f x
      = (s.setFrames (s.frames.set f (x.placed s.frames[f]))).onTime f s.frames[f].late s.frames[f].lost := by
  have record : (s.updFrame f x.stored).frames[f] = x.stored s.frames[f] := by simp [State.updFrame]
  have frames : (s.updFrame f x.stored).frames = s.frames.set f (x.stored s.frames[f]) := rfl
  have eq : s.replaceFrame f x = ((s.updFrame f x.stored).clearLate f).clearLost f := rfl
  rw [eq, State.clearConditions_eq, record, frames, Vector.set_set]
  rfl

theorem State.replaceFrame_frames (s : State) (f : Fin 4) (x : FrameFields) :
    (s.replaceFrame f x).frames = s.frames.set f (x.placed s.frames[f]) := by
  rw [State.replaceFrame_eq, (State.onTime_keeps _ f _ _).frames]
  rfl

theorem exec_setFrame_of_range {a : FrameArgs} (h : frameOf? a = none) (s : State) :
    exec (.setFrame .director a) s = .next (s.answer .director 0x32#8 9#16 .range []) :=
  congrArg Host.Outcome.next (State.serve_refused (r := .setFrame) (n := 9) rfl (by rw [h]))

section
variable {a : FrameArgs} {f : Fin 4} {x : FrameFields} {s : State} (fields : frameOf? a = some (f, x))
include fields

theorem exec_setFrame_of_conflict (h : x.conflicting = true) :
    exec (.setFrame .director a) s = .next (s.answer .director 0x32#8 9#16 .conflict []) :=
  congrArg Host.Outcome.next (State.serve_refused (r := .setFrame) (n := 9) rfl (by rw [fields]; exact if_pos h))

theorem exec_setFrame (h : x.conflicting = false) :
    exec (.setFrame .director a) s =
      .next ((s.replaceFrame f x).answer .director 0x32#8 9#16 .ok ((s.replaceFrame f x).frames[f].bytes f)) :=
  congrArg Host.Outcome.next (State.serve_ok (r := .setFrame) (n := 9) rfl (by rw [fields]; exact if_neg (by simp [h])))

/-- The fields SET_FRAME stores are in conflict when the method is BOUNDARY and an action is other than REPORT. -/
theorem frameOf?_conflicting :
    x.conflicting = true ↔ a.method = 3#8 ∧ ¬ (a.lateAction = 0#8 ∧ a.lostAction = 0#8 ∧ a.tripAction = 0#8) := by
  obtain ⟨⟨-, late, lost, trip, method, -⟩, -⟩ := frameOf?_eq_some_iff.mp fields
  have boundary (v : Method) : v.code = 3#8 ↔ v = .boundary := by cases v <;> decide
  have report (v : Action) : v.code = 0#8 ↔ v = .report := by cases v <;> decide
  rw [← action?_eq_some_iff.mp late, ← action?_eq_some_iff.mp lost, ← action?_eq_some_iff.mp trip, ← method?_eq_some_iff.mp method,
    boundary, report, report, report]
  simp only [FrameFields.conflicting, Bool.and_eq_true, Bool.or_eq_true, beq_iff_eq, bne_iff_ne, ne_eq, or_assoc, Classical.not_and_iff_not_or_not]
end

/-! ### A raise (R130 to R135) -/

/-- What takes a raise in a list without an entry of the source protects as the raise asks. -/
theorem Zone.raised_guards {x : Zone} {r : Raise} {new spill : Entry} (unfound : ∀ e ∈ x.entries, e.isOf r.source = false)
    (hold : Bool) (active : new.condition = true) (action : new.action = r.action) (spilled : spill.action = r.action) :
    (x.raised hold r new spill).state.Guards r.action.severity := by
  have escalated {n : Nat} (le : r.action.severity ≤ n) : (x.state.escalate n).Guards r.action.severity :=
    (x.state.guards_escalate n).of_le le
  obtain ⟨e, found, -⟩ | ⟨-, -, h⟩ | ⟨-, -, e, -, h⟩ | ⟨-, -, -, h⟩ := x.takes_cases r new spill
  · have own := List.find?_some found
    exact absurd own (by rw [unfound e (List.mem_of_find?_eq_some found)]; decide)
  · simp only [Zone.raised, Zone.escalated, h, active, action]
    exact escalated Nat.le.refl
  · simp only [Zone.raised, Zone.escalated, h, Entry.severity_folded]
    exact escalated (Nat.le_max_right _ _)
  · simp only [Zone.raised, Zone.escalated, h, spilled]
    exact escalated Nat.le.refl

/-- A raise is taken once in each zone it reaches. -/
theorem State.raise_zone (s : State) {r : Raise} {own : List (Fin 4)} {z : Fin 4} (reached : z ∈ placement r.action own) (late : Bool) :
    ∃ u : State, (s.raise r own late).zones[z] = s.zones[z].raised u.stopHold r (u.newEntry r) (u.newOverflow r) := by
  have nodup : (placement r.action own).Nodup := by
    unfold placement
    split
    · decide
    · exact List.Pairwise.filter _ (by decide)
  obtain ⟨before, after, split, fresh⟩ := List.eq_append_cons_of_mem reached
  rw [split, nodup_middle, List.nodup_cons] at nodup
  have apart (l : List (Fin 4)) (h : z ∉ l) (s : State) : (l.foldl (fun s z => s.raiseIn z r late) s).zones[z] = s.zones[z] :=
    foldl_keeps (π := fun s : State => s.zones[z]) (fun w mem s => by
      rw [s.raiseIn_zones w r late, State.updZone_get, if_neg (by rintro rfl; exact h mem)]) s
  refine ⟨before.foldl (fun s z => s.raiseIn z r late) s, ?_⟩
  rw [State.raise, split, List.foldl_append, List.foldl_cons, apart after (fun mem => nodup.1 (List.mem_append_right _ mem)),
    State.raiseIn_zones, State.updZone_get, if_pos rfl, apart before fresh]

theorem State.raise_guards (s : State) {r : Raise} {own : List (Fin 4)} {z : Fin 4} (reached : z ∈ own) (late : Bool)
    (active : r.active = true) (unfound : ∀ e ∈ s.zones[z].entries, e.isOf r.source = false) :
    (s.raise r own late).zones[z].state.Guards r.action.severity := by
  have every : ∀ z : Fin 4, z ∈ allZones := by decide
  have placed : z ∈ placement r.action own := by
    unfold placement
    split <;> simp [every, reached]
  obtain ⟨u, taken⟩ := s.raise_zone placed late
  rw [taken]
  exact Zone.raised_guards unfound _ active rfl rfl

/-! ### TRIP (R91) -/

theorem FrameRec.conditions_eq (x : FrameRec) :
    x.conditions = BitVec.ofNat 8 (x.late.toNat + 2 * x.lost.toNat + 4 * x.trip.toNat) := by
  unfold FrameRec.conditions
  cases x.late <;> cases x.lost <;> cases x.trip <;> rfl

/-- The body of TRIP's answer. -/
def State.tripBytes (s : State) (f : Fin 4) : List Byte :=
  [s.frames[f].conditions, s.frames[f].tripReason, (s.channelZone (channelA f)).mode.code, (s.channelZone (channelB f)).mode.code]

theorem exec_trip (f : Fin 4) (reason : Byte) (s : State) :
    exec (.trip (.frame f) reason) s =
      .next ((s.tripFrame f reason).answer (.frame f) 0x31#8 1#16 .ok ((s.tripFrame f reason).tripBytes f)) :=
  congrArg Host.Outcome.next (State.serve_ok (r := .trip) (n := 1) rfl rfl)

/-- The raise of FRAME_TRIP. -/
def FrameRec.tripRaise (x : FrameRec) (f : Fin 4) : Raise :=
  { source := .frameTrip f, action := x.tripAction, method := x.method, seconds := x.seconds, active := true }

section
variable {s : State} {f : Fin 4}

theorem State.tripFrame_of_reason {reason : Byte} (some : reason ≠ 0#8) :
    s.tripFrame f reason =
      (s.setFrames (s.frames.set f { s.frames[f] with tripReason := reason, trip := true })).raise (s.frames[f].tripRaise f)
        [s.channels[channelA f].zone, s.channels[channelB f].zone] := by
  rw [State.tripFrame, if_neg some]
  simp [State.raiseFrame, State.updFrame, FrameRec.tripRaise]

theorem State.tripFrame_of_tripped (h : s.frames[f].trip = true) :
    s.tripFrame f 0#8 = (s.setFrames (s.frames.set f { s.frames[f] with trip := false })).clear (.frameTrip f) := by
  rw [State.tripFrame, if_pos rfl, if_pos h]
  rfl

theorem State.tripFrame_of_clear (h : s.frames[f].trip = false) : s.tripFrame f 0#8 = s := by
  rw [State.tripFrame, if_pos rfl, if_neg (by rw [h]; decide)]

theorem FrameRec.untripped {x : FrameRec} (h : x.trip = false) : { x with trip := false } = x := by rw [← h]

theorem State.trip_answered (v : State) (f : Fin 4) :
    (v.answer (.frame f) 0x31#8 1#16 .ok (v.tripBytes f)).answerOf (.frame f) = some ([0x00#8, 0#8, 4#8] ++ v.tripBytes f) := by
  rw [State.answer_answerOf, answerBytes_ok_of_length (n := 4) rfl (by decide)]
end

theorem placement_eq (a : Action) (own : List (Fin 4)) :
    placement a own = [0, 1, 2, 3].filter fun z : Fin 4 => a ∈ [Action.holdAll, .unloadAll, .dumpAll] ∨ z ∈ own := by
  have all : a.isAll = true ↔ a ∈ [Action.holdAll, .unloadAll, .dumpAll] := by cases a <;> decide
  rw [placement]
  simp only [all]
  split
  · next every => simp [every, allZones]
  · next named => simp [named, allZones]

/-- An answer moves the window only. -/
theorem State.answered_only {t v : State} (h : t = v) {p : PortId} {code : Byte} {length : Half} {body : List Byte} :
    { t.answer p code length .ok body with ports := v.ports } = v
      ∧ ∀ q, (t.answer p code length .ok body).eventStatus q = v.eventStatus q := by
  subst h
  exact ⟨rfl, fun q => State.answer_eventStatus _ _ _ _ _ _ _⟩

/-- The zone states that protect as a severity asks. -/
theorem ZoneState.Guards.kinds {st : ZoneState} {n : Nat} (h : st.Guards n) :
    (n = 1 → st ≠ .normal ∧ st ≠ .reloading) ∧ (n = 2 → st = .unloading ∨ st = .unloaded ∨ st = .dumped)
      ∧ (n = 3 → st = .dumped) := by
  obtain ⟨one, two, three⟩ := h
  refine ⟨fun n1 => one (by omega), fun n2 => ?_, fun n3 => three (by omega)⟩
  have away := one (by omega)
  have past := two (by omega)
  cases st <;> simp_all

/-- Settles O40: TRIP by its reason, SET_FRAME by its fields, and a raise by what takes it. -/
theorem tripAndSetFrame : Obligations.TripAndSetFrame := by
  intro f s mode body answered frame
  have bodies (t : State) : body t = t.tripBytes f := by
    have modes (c : Fin 8) : mode t c = (t.channelZone c).mode.code := by
      simp only [mode]
      cases t.channelZone c <;> rfl
    simp only [body, modes, State.tripBytes, FrameRec.conditions_eq]
  refine ⟨fun reason some => ?trip, ?untrip, ?set, fun a out => exec_setFrame_of_range (frameOf?_eq_none out) s, rfl,
    fun r own late => ?raise, fun z r late lawful => ?zone⟩
  case trip =>
    have run := exec_trip f reason s
    have raised := State.tripFrame_of_reason (s := s) (f := f) some
    have kept : Keeps _ (s.tripFrame f reason) := raised ▸ Keeps.of_raise _ _ _ false
    have holds (q : PortId) : (s.tripFrame f reason).holds q .alarm = true := raised ▸ State.raise_holds _ _ false (by simp) q
    refine ⟨_, run, ?answer, kept.of_setFrames, kept.frames, ?whole, fun q => ?alarm, fun c own unfound => ?guards⟩
    case answer => exact (State.trip_answered _ f).trans (by rw [bodies]; rfl)
    case whole =>
      have set : ({ s with frames := ((s.tripFrame f reason).answer (.frame f) 0x31#8 1#16 .ok ((s.tripFrame f reason).tripBytes f)).frames }
          : State) = s.setFrames (s.frames.set f { s.frames[f] with tripReason := reason, trip := true }) := by
        rw [State.answer_frames, kept.frames]
        rfl
      dsimp only
      rw [set]
      exact State.answered_only raised
    case alarm => rw [State.answer_holds]; exact holds q
    case guards =>
      have reached : s.channels[c].zone ∈ [s.channels[channelA f].zone, s.channels[channelB f].zone] := by
        obtain rfl | rfl := own <;> simp
      have guards := State.raise_guards (s.setFrames (s.frames.set f { s.frames[f] with tripReason := reason, trip := true })) reached
        false (r := s.frames[f].tripRaise f) rfl unfound
      have zone : (s.tripFrame f reason).channelZone c = (s.tripFrame f reason).zones[s.channels[c].zone].state := by
        simp only [State.channelZone, kept.channels]
        rfl
      rw [← raised, ← zone] at guards
      exact guards.kinds
  case untrip =>
    have run := exec_trip f 0#8 s
    refine ⟨_, run, (State.trip_answered _ f).trans (by rw [bodies]; rfl), ?_⟩
    cases tripped : s.frames[f].trip
    case false =>
      rw [State.tripFrame_of_clear tripped] at run ⊢
      have still : s.frames = s.frames.set f { s.frames[f] with trip := false } := by
        rw [FrameRec.untripped tripped]
        exact (Vector.set_getElem_self f.isLt).symm
      exact ⟨⟨rfl, rfl⟩, still, fun _ => by rw [bodies]; rfl, nofun, nofun⟩
    case true =>
      have cleared := State.tripFrame_of_tripped (s := s) (f := f) tripped
      have kept : Keeps _ (s.tripFrame f 0#8) := cleared ▸ Keeps.of_clear _ _
      refine ⟨kept.of_setFrames, kept.frames, nofun, fun _ => ?_, fun _ => ?_⟩
      · have set : ({ s with frames := ((s.tripFrame f 0#8).answer (.frame f) 0x31#8 1#16 .ok ((s.tripFrame f 0#8).tripBytes f)).frames }
            : State) = s.setFrames (s.frames.set f { s.frames[f] with trip := false }) := by
          rw [State.answer_frames, kept.frames]
          rfl
        rw [set, ← cleared, bodies]
        rfl
      · rw [State.answer_zones, cleared]
        exact State.clear_inactive _ _
  case set =>
    intro a named late lost trip method low high reports
    obtain ⟨la, hla⟩ := exists_action? late
    obtain ⟨lo, hlo⟩ := exists_action? lost
    obtain ⟨tr, htr⟩ := exists_action? trip
    obtain ⟨me, hme⟩ := exists_method? method
    let x : FrameFields :=
      { period := a.period, lateAction := la, lostAction := lo, tripAction := tr, method := me, seconds := a.seconds }
    have fields : frameOf? a = some (f, x) :=
      frameOf?_eq_some_iff.mpr ⟨⟨index?_of_toNat_eq named, hla, hlo, htr, hme, seconds?_of_within low high⟩, rfl⟩
    refine ⟨fun conflicts => exec_setFrame_of_conflict fields ((frameOf?_conflicting fields).mpr conflicts), fun agrees => ?_⟩
    have conflictless : x.conflicting = false := by
      rw [Bool.eq_false_iff, ne_eq, frameOf?_conflicting fields]
      exact fun ⟨boundary, away⟩ => agrees.elim (fun other => other boundary) away
    have run := exec_setFrame (s := s) fields conflictless
    have placed := s.replaceFrame_eq f x
    have frames := s.replaceFrame_frames f x
    have record : (s.replaceFrame f x).frames[f] = x.placed s.frames[f] := by simp [frames]
    have kept : Keeps _ (s.replaceFrame f x) := placed ▸ State.onTime_keeps _ _ _ _
    refine ⟨_, run, kept.of_setFrames, ?answer, ?fields, fun g other => ?others, ?whole, ?inactive⟩
    case answer => rw [State.answer_answerOf, answerBytes_ok_of_length (n := 14) rfl (by decide)]; rfl
    case fields =>
      dsimp only
      rw [State.answer_frames, record]
      exact ⟨rfl, action?_eq_some_iff.mp hla, action?_eq_some_iff.mp hlo, action?_eq_some_iff.mp htr, method?_eq_some_iff.mp hme, rfl,
        rfl, rfl, rfl, rfl, rfl, rfl⟩
    case others =>
      have apart : f.val ≠ g.val := fun same => other (Fin.ext same).symm
      rw [State.answer_frames, frames]
      simp [apart]
    case whole =>
      have set : ({ s with frames := ((s.replaceFrame f x).answer .director 0x32#8 9#16 .ok
          ((s.replaceFrame f x).frames[f].bytes f)).frames } : State) = s.setFrames (s.frames.set f (x.placed s.frames[f])) := by
        rw [State.answer_frames, frames]
        rfl
      dsimp only
      rw [set]
      exact congrArg (fun v : State => v.answer .director 0x32#8 9#16 .ok ((s.replaceFrame f x).frames[f].bytes f)) placed
    case inactive =>
      intro z e mem
      rw [State.answer_zones, placed] at mem
      obtain ⟨late, lost⟩ := State.onTime_inactive (s.setFrames (s.frames.set f (x.placed s.frames[f]))) f s.frames[f].late s.frames[f].lost
      rintro (⟨active, own⟩ | ⟨active, own⟩)
      · exact late active z e mem own
      · exact lost active z e mem own
  case raise =>
    exact congrArg (List.foldl (fun u z => u.raiseIn z r late) s) (placement_eq r.action own)
  case zone =>
    intro list before t room more ms record alarm escalated newTag taken
    obtain ⟨listed, -⟩ := s.listsLawful_iff.mp lawful
    obtain ⟨lawful_zone, distinct, -⟩ := listed z
    have takes {e : Entry} {entries : List Entry}
        (h : s.Takes t z r.source late e entries (before.escalate e.action.severity)) : taken e entries := by
      rw [ZoneState.escalate_eq] at h
      exact ⟨h.zones, h.output, h.records, h.holds, h.still, h.pauses, h.keeps.generator, h.keeps.rest⟩
    have tagged (counter : t.tagCounter = succTag s.nextTag) : newTag s.nextTag :=
      ⟨lawful.nextTag_free.1, lawful.nextTag_free.2, counter, freeTag_first _ _ _⟩
    refine ⟨fun pre e post entries own => ?repeated, fun unfound few => ?new, fun unfound full => ⟨fun pre e post entries own => ?folded,
      fun unspilled => ?spilled⟩⟩
    case repeated =>
      have others := (Zone.others_apart lawful_zone distinct entries).2 _ own
      have mine := State.takeRaise_repeated entries own others
      exact ⟨State.raiseIn_tagCounter mine, takes (State.takes_of_taken mine rfl)⟩
    case new =>
      have mine := State.takeRaise_new unfound few
      refine ⟨s.nextTag, tagged (State.raiseIn_tagCounter mine), fun lasting => ?_, fun auto clear report standing => ?_⟩
      · refine takes (State.takes_of_taken mine ?_)
        obtain other | active := lasting
        · simp [other]
        · simp [active]
      · exact State.raiseIn_passing mine clear auto report lawful.nextTag_free.2 standing
    case folded =>
      have mine := State.takeRaise_folded unfound full entries own (Zone.others_source lawful_zone entries own)
      exact ⟨State.raiseIn_tagCounter mine, takes (State.takes_of_taken mine rfl)⟩
    case spilled =>
      have mine := State.takeRaise_spilled unfound full unspilled
      exact ⟨s.nextTag, tagged (State.raiseIn_tagCounter mine), takes (State.takes_of_taken mine rfl)⟩

end Sys2Proof.Machine


/-! O38: the checks of SERVO_EXCHANGE (R76 to R81), channel by channel and condition by condition. -/
namespace Sys2Proof.Machine

/-! ### One channel's supervision record -/

/-- A supervision record after the tracking check, in full with a handed-out value, in part without one (R77, R78). -/
def Supervision.tracked (v : Supervision) (ch : Channel) (force : Half) : Supervision :=
  match v.handedOut with
  | none => { v with misses := 0, tracking := false }
  | some h =>
    if v.tracking then { v with tracking := ch.misses force h }
    else if ch.misses force h then
      if v.misses + 1 < ch.k then { v with misses := v.misses + 1 } else { v with misses := 0, tracking := true }
    else { v with misses := 0 }

/-- A supervision record after the overforce check: without a handed-out value nothing becomes active (R77, R79). -/
def Supervision.forced (v : Supervision) (ch : Channel) (force : Half) : Supervision :=
  { v with overforce := (v.overforce || v.handedOut.isSome) && ch.overforced force }

/-- A supervision record after the stroke check (R77, R80). -/
def Supervision.stroked (v : Supervision) (ch : Channel) (stroke : Half) : Supervision :=
  { v with strokeOut := (v.strokeOut || v.handedOut.isSome) && ch.strokeOutside stroke }

/-- A supervision record after the three checks. -/
def Supervision.checked (v : Supervision) (ch : Channel) (force stroke : Half) : Supervision :=
  ((v.tracked ch force).forced ch force).stroked ch stroke

section
variable {v : Supervision} {ch : Channel} {force : Half}

theorem Supervision.tracked_of_none (handed : v.handedOut = none) : v.tracked ch force = { v with misses := 0, tracking := false } := by
  rw [Supervision.tracked]
  split
  · rfl
  · next some => exact absurd (handed.symm.trans some) (by nofun)

theorem Supervision.tracked_of_some {h : Half} (handed : v.handedOut = some h) :
    v.tracked ch force =
      if v.tracking then { v with tracking := ch.misses force h }
      else if ch.misses force h then
        if v.misses + 1 < ch.k then { v with misses := v.misses + 1 } else { v with misses := 0, tracking := true }
      else { v with misses := 0 } := by
  rw [Supervision.tracked]
  split
  · next none => exact absurd (handed.symm.trans none) (by nofun)
  · next h' other =>
    obtain rfl : h = h' := Option.some.inj (handed.symm.trans other)
    rfl
end

theorem Supervision.tracked_eq (v : Supervision) (ch : Channel) (force : Half) :
    v.tracked ch force = { v with misses := (v.tracked ch force).misses, tracking := (v.tracked ch force).tracking } := by
  unfold Supervision.tracked
  split
  · rfl
  · split
    · rfl
    · split
      · split <;> rfl
      · rfl

/-! ### What a condition hands over (R81) -/

/-- What a check hands over of a condition: its raise where it becomes active, its clear where it clears. -/
def State.hand (u : State) (ch : Channel) (source : Source) (action : Action) (before after : Bool) : State :=
  if before = after then u
  else if after then
    u.raise { source := source, action := action, method := ch.method, seconds := ch.seconds, active := true } [ch.zone]
  else u.clear source

section
variable (u : State) (ch : Channel) (source : Source) (action : Action) (before after : Bool)

theorem State.hand_keeps : Keeps u (u.hand ch source action before after) := by
  unfold State.hand
  split
  · exact .refl u
  · split
    · exact .of_raise _ _ _ _
    · exact .of_clear _ _

theorem State.hand_holds (h : before = false ∧ after = true) (q : PortId) :
    (u.hand ch source action before after).holds q .alarm = true := by
  obtain ⟨rfl, rfl⟩ := h
  exact State.raise_holds _ _ false (by simp) q

theorem State.hand_latches : u.Latches (u.hand ch source action before after) := (u.hand_keeps ch source action before after).latched

theorem State.hand_inactive (h : before = true ∧ after = false) : (u.hand ch source action before after).Inactive source := by
  obtain ⟨rfl, rfl⟩ := h
  exact u.clear_inactive source

theorem State.Inactive.hand {u : State} {src : Source} (h : u.Inactive src) (other : source ≠ src) :
    (u.hand ch source action before after).Inactive src := by
  unfold State.hand
  split
  · exact h
  · split
    · exact h.raise other _ _
    · exact h.clear _
end

/-! ### The three checks of a channel (R77 to R80) -/

/-- A channel's supervision record with a condition's fields set, and what the condition hands over. -/
def State.check (s : State) (ch : Channel) (c : Fin 8) (source : Source) (action : Action) (v : Supervision) (before after : Bool) : State :=
  (s.setSupervision (s.supervision.set c v)).hand ch source action before after

section
variable {s : State} {ch : Channel} {c : Fin 8} {source : Source} {action : Action} {f : Supervision → Supervision} {v : Supervision}
  {before after : Bool}

theorem State.check_rests (kept : s.supervision[c] = v) (same : before = after) : s = s.check ch c source action v before after := by
  have still : s.supervision.set c s.supervision[c] = s.supervision := Vector.set_getElem_self _
  rw [State.check, State.hand, if_pos same, ← kept, still]
  rfl

theorem State.check_moves (moved : f s.supervision[c] = v) (same : before = after) :
    s.updSupervision c f = s.check ch c source action v before after := by
  rw [State.check, State.hand, if_pos same, ← moved]
  rfl

theorem State.check_raises (moved : f s.supervision[c] = v) (clear : before = false) (active : after = true) :
    (s.updSupervision c f).raiseChannel c source action = s.check s.channels[c] c source action v before after := by
  rw [State.check, State.hand, clear, active, if_neg (by decide), if_pos rfl, ← moved]
  rfl

theorem State.check_clears (moved : f s.supervision[c] = v) (active : before = true) (clear : after = false) :
    (s.updSupervision c f).clear source = s.check ch c source action v before after := by
  rw [State.check, State.hand, clear, active, if_neg (by decide), if_neg (by decide), ← moved]
  rfl

/-- A check leaves the part but for the channel's record and what it hands over. -/
theorem State.check_keeps : Keeps (s.setSupervision (s.supervision.set c v)) (s.check ch c source action v before after) :=
  State.hand_keeps _ _ _ _ _ _

theorem State.check_supervision : (s.check ch c source action v before after).supervision = s.supervision.set c v :=
  State.check_keeps.supervision

theorem State.check_channels : (s.check ch c source action v before after).channels = s.channels :=
  State.check_keeps.channels

theorem State.check_latches : s.Latches (s.check ch c source action v before after) :=
  latches_composes.trans (latches_composes.setSupervision s _) (State.hand_latches _ _ _ _ _ _)

theorem State.check_holds (rises : before = false ∧ after = true) (q : PortId) :
    (s.check ch c source action v before after).holds q .alarm = true :=
  State.hand_holds _ _ _ _ _ _ rises q

theorem State.check_inactive (clears : before = true ∧ after = false) :
    (s.check ch c source action v before after).Inactive source :=
  State.hand_inactive _ _ _ _ _ _ clears

theorem State.Inactive.check {src : Source} (h : s.Inactive src) (other : source ≠ src) :
    (s.check ch c source action v before after).Inactive src :=
  State.Inactive.hand _ _ _ _ _ (h.of_zones) other

/-- Zone protection does not read the supervision records. -/
theorem Keeps.supervised {s t : State} {v : Vector Supervision 8} (h : Keeps s t) : Keeps (s.setSupervision v) (t.setSupervision v) :=
  ⟨h.stamp, h.channels, rfl, h.activeSet, h.stagedSet, h.commit, h.frames, h.gauges, h.links, h.cracks, h.stopLine, h.stopHold, h.pending,
    h.gen, h.window, h.mask, h.latched⟩

/-- What checks leave of the part, one check more. -/
theorem Keeps.check {u : State} {x : Vector Supervision 8} (h : Keeps (u.setSupervision x) s) :
    Keeps (u.setSupervision (s.check ch c source action v before after).supervision) (s.check ch c source action v before after) := by
  have moved := h.supervised (v := s.supervision.set c v)
  rw [State.check_supervision]
  exact moved.trans State.check_keeps

/-- A condition that a check judges alone: what is active clears within the limit, and what is clear becomes active beyond it, in a full
check only. -/
theorem State.check_judged {set : Bool → Supervision → Supervision} {beyond full : Bool}
    (own : set before s.supervision[c] = s.supervision[c]) :
    (if before then if beyond then s else (s.updSupervision c (set false)).clear source
      else if full && beyond then (s.updSupervision c (set true)).raiseChannel c source action else s)
      = s.check s.channels[c] c source action (set ((before || full) && beyond) s.supervision[c]) before ((before || full) && beyond) := by
  cases before <;> cases beyond
  · rw [Bool.and_false, Bool.and_false, if_neg (by decide), if_neg (by decide)]
    exact State.check_rests own.symm rfl
  · rw [if_neg (by decide), Bool.and_true, Bool.and_true, Bool.false_or]
    cases full
    · rw [if_neg (by decide)]
      exact State.check_rests own.symm rfl
    · rw [if_pos rfl]
      exact State.check_raises rfl rfl rfl
  · rw [if_pos rfl, if_neg (by decide), Bool.and_false]
    exact State.check_clears rfl rfl rfl
  · rw [if_pos rfl, if_pos rfl, Bool.true_or, Bool.and_self]
    exact State.check_rests own.symm rfl

end

section
variable (s : State) (c : Fin 8)

/-- The tracking check of a channel, with what it hands over (R78). -/
def State.checkTracking (force : Half) : State :=
  let v := s.supervision[c].tracked s.channels[c] force
  s.check s.channels[c] c (.tracking c) s.channels[c].trackingAction v s.supervision[c].tracking v.tracking

/-- The overforce check of a channel, with what it hands over (R79). -/
def State.checkOverforce (force : Half) : State :=
  let v := s.supervision[c].forced s.channels[c] force
  s.check s.channels[c] c (.overforce c) s.channels[c].overforceAction v s.supervision[c].overforce v.overforce

/-- The stroke check of a channel, with what it hands over (R80). -/
def State.checkStroke (stroke : Half) : State :=
  let v := s.supervision[c].stroked s.channels[c] stroke
  s.check s.channels[c] c (.stroke c) s.channels[c].strokeAction v s.supervision[c].strokeOut v.strokeOut

theorem State.trackingCheck_eq (force : Half) {h : Half} (handed : s.supervision[c].handedOut = some h) :
    s.trackingCheck c force h = s.checkTracking c force := by
  rw [State.checkTracking, Supervision.tracked_of_some handed, State.trackingCheck]
  split
  · next active =>
    split
    · next missed => exact State.check_rests (by rw [missed, ← active]) (by rw [missed, active])
    · next hit => exact State.check_clears (by rw [Bool.eq_false_iff.mpr hit]) active (Bool.eq_false_iff.mpr hit)
  · next clear =>
    split
    · split
      · exact State.check_moves rfl rfl
      · exact State.check_raises rfl (Bool.eq_false_iff.mpr clear) rfl
    · exact State.check_moves rfl rfl

theorem State.trackingDrop_eq (force : Half) (handed : s.supervision[c].handedOut = none) :
    s.trackingDrop c = s.checkTracking c force := by
  rw [State.checkTracking, Supervision.tracked_of_none handed, State.trackingDrop]
  split
  · next active => exact State.check_clears rfl active rfl
  · next clear => exact State.check_moves (by rw [Bool.eq_false_iff.mpr clear]) (Bool.eq_false_iff.mpr clear)

theorem State.overforceCheck_eq (force : Half) :
    s.overforceCheck c force s.supervision[c].handedOut.isSome = s.checkOverforce c force :=
  State.check_judged (set := fun b v => { v with overforce := b }) rfl

theorem State.strokeCheck_eq (stroke : Half) :
    s.strokeCheck c stroke s.supervision[c].handedOut.isSome = s.checkStroke c stroke :=
  State.check_judged (set := fun b v => { v with strokeOut := b }) rfl

theorem Supervision.tracked_handedOut (v : Supervision) (ch : Channel) (force : Half) :
    (v.tracked ch force).handedOut = v.handedOut := by
  rw [Supervision.tracked_eq]

/-- The record of a channel after one of its checks. -/
theorem State.checkTracking_record (force : Half) : (s.checkTracking c force).supervision[c] = s.supervision[c].tracked s.channels[c] force := by
  simp [State.checkTracking, State.check_supervision]

theorem State.checkOverforce_record (force : Half) : (s.checkOverforce c force).supervision[c] = s.supervision[c].forced s.channels[c] force := by
  simp [State.checkOverforce, State.check_supervision]

/-- The three checks of a channel, in order. -/
theorem State.checkChannel_eq (force stroke : Half) :
    s.checkChannel c force stroke = ((s.checkTracking c force).checkOverforce c force).checkStroke c stroke := by
  have handed : (s.checkTracking c force).supervision[c].handedOut = s.supervision[c].handedOut := by
    rw [State.checkTracking_record, Supervision.tracked_handedOut]
  have handed' : ((s.checkTracking c force).checkOverforce c force).supervision[c].handedOut = s.supervision[c].handedOut := by
    rw [State.checkOverforce_record, ← handed]
    rfl
  rw [← State.strokeCheck_eq, handed', ← State.overforceCheck_eq, handed, State.checkChannel]
  split
  · next h some => rw [State.trackingCheck_eq s c force some, some]; rfl
  · next none => rw [State.trackingDrop_eq s c force none, none]; rfl

theorem State.checkChannel_supervision (force stroke : Half) :
    (s.checkChannel c force stroke).supervision = s.supervision.set c (s.supervision[c].checked s.channels[c] force stroke) := by
  have channels : ((s.checkTracking c force).checkOverforce c force).channels = s.channels :=
    State.check_channels.trans State.check_channels
  have channel : (s.checkTracking c force).channels = s.channels := State.check_channels
  have tracked : (s.checkTracking c force).supervision = s.supervision.set c (s.supervision[c].tracked s.channels[c] force) :=
    State.check_supervision
  have forced : ((s.checkTracking c force).checkOverforce c force).supervision
      = s.supervision.set c ((s.supervision[c].tracked s.channels[c] force).forced s.channels[c] force) := by
    rw [State.checkOverforce, State.check_supervision, State.checkTracking_record, tracked, Vector.set_set]
    simp only [channel]
  rw [State.checkChannel_eq, State.checkStroke, State.check_supervision, State.checkOverforce_record, State.checkTracking_record, forced,
    Vector.set_set]
  simp only [channel, channels, Supervision.checked]

theorem State.checkChannel_keeps (force stroke : Half) :
    Keeps (s.setSupervision (s.supervision.set c (s.supervision[c].checked s.channels[c] force stroke))) (s.checkChannel c force stroke) := by
  have kept : Keeps (s.setSupervision (s.checkChannel c force stroke).supervision) (s.checkChannel c force stroke) := by
    rw [State.checkChannel_eq]
    exact ((Keeps.supervised (.refl s)).check.check).check
  rwa [State.checkChannel_supervision] at kept

section
variable {s} {c} {force stroke : Half} {w : Supervision} (checked : w = s.supervision[c].checked s.channels[c] force stroke)
include checked

/-- The conditions of a channel before and after its checks, as the three checks find and leave them. -/
theorem State.checkChannel_conditions :
    w.tracking = (s.supervision[c].tracked s.channels[c] force).tracking
      ∧ (s.checkTracking c force).supervision[c].overforce = s.supervision[c].overforce
      ∧ w.overforce = ((s.checkTracking c force).supervision[c].forced (s.checkTracking c force).channels[c] force).overforce
      ∧ ((s.checkTracking c force).checkOverforce c force).supervision[c].strokeOut = s.supervision[c].strokeOut
      ∧ w.strokeOut = (((s.checkTracking c force).checkOverforce c force).supervision[c].stroked
          ((s.checkTracking c force).checkOverforce c force).channels[c] stroke).strokeOut := by
  have channel : (s.checkTracking c force).channels = s.channels := State.check_channels
  have channels : ((s.checkTracking c force).checkOverforce c force).channels = s.channels :=
    State.check_channels.trans State.check_channels
  rw [State.checkOverforce_record, State.checkTracking_record, checked]
  simp only [channel, channels]
  refine ⟨rfl, ?_, rfl, ?_, rfl⟩
  · rw [Supervision.tracked_eq]
  · rw [Supervision.tracked_eq]
    rfl

/-- A condition that becomes active at a check of a channel is an ALARM at every port. -/
theorem State.checkChannel_holds
    (rises : (s.supervision[c].tracking = false ∧ w.tracking = true) ∨ (s.supervision[c].overforce = false ∧ w.overforce = true)
      ∨ (s.supervision[c].strokeOut = false ∧ w.strokeOut = true)) (q : PortId) :
    (s.checkChannel c force stroke).holds q .alarm = true := by
  obtain ⟨tracking, overBefore, overAfter, strokeBefore, strokeAfter⟩ := State.checkChannel_conditions checked
  rw [tracking, ← overBefore, overAfter, ← strokeBefore, strokeAfter] at rises
  rw [State.checkChannel_eq]
  obtain rises | rises | rises := rises
  · exact (latches_composes.trans State.check_latches State.check_latches).holds (by decide) (State.check_holds rises q)
  · exact State.check_latches.holds (by decide) (State.check_holds rises q)
  · exact State.check_holds rises q

/-- A condition that clears at a check of a channel leaves no active entry. -/
theorem State.checkChannel_inactive :
    (s.supervision[c].tracking = true ∧ w.tracking = false → (s.checkChannel c force stroke).Inactive (.tracking c))
      ∧ (s.supervision[c].overforce = true ∧ w.overforce = false → (s.checkChannel c force stroke).Inactive (.overforce c))
      ∧ (s.supervision[c].strokeOut = true ∧ w.strokeOut = false → (s.checkChannel c force stroke).Inactive (.stroke c)) := by
  obtain ⟨tracking, overBefore, overAfter, strokeBefore, strokeAfter⟩ := State.checkChannel_conditions checked
  rw [tracking, ← overBefore, overAfter, ← strokeBefore, strokeAfter, State.checkChannel_eq]
  exact ⟨fun clears => ((State.check_inactive clears).check (by nofun)).check (by nofun),
    fun clears => (State.check_inactive clears).check (by nofun), fun clears => State.check_inactive clears⟩
end

/-- What another channel's checks leave inactive. -/
theorem State.Inactive.checkChannel {s : State} {src : Source} (h : s.Inactive src) {c : Fin 8} (tracking : .tracking c ≠ src)
    (overforce : .overforce c ≠ src) (stroke : .stroke c ≠ src) (x y : Half) : (s.checkChannel c x y).Inactive src := by
  rw [State.checkChannel_eq]
  exact ((h.check tracking).check overforce).check stroke
end

end Sys2Proof.Machine


/-! O37 and O38: SERVO_EXCHANGE, its checks, its answer and what it hands out (R76 to R83, R88). -/
namespace Sys2Proof.Machine

/-! ### The watchdog at an exchange (R88) -/

/-- A frame record after an exchange that its watchdog sees. -/
def FrameRec.exchanged (x : FrameRec) : FrameRec := { x with dog := .alive, remaining := x.period, late := false, lost := false }

section
variable {s : State} {f : Fin 4}

theorem State.exchangeDog_of_unwatched (h : s.frames[f].dog = .unwatched) : s.exchangeDog f = s := by
  unfold State.exchangeDog
  rw [h]

theorem State.exchangeDog_of_watched (h : s.frames[f].dog ≠ .unwatched) :
    s.exchangeDog f
      = (s.setFrames (s.frames.set f s.frames[f].exchanged)).onTime f s.frames[f].late s.frames[f].lost := by
  let u := s.updFrame f fun x => { x with dog := .alive, remaining := x.period }
  have updated : u = s.updFrame f fun x => { x with dog := .alive, remaining := x.period } := rfl
  have eq : s.exchangeDog f = (u.clearLate f).clearLost f := by
    unfold State.exchangeDog
    split
    · next unwatched => exact absurd unwatched h
    all_goals rfl
  have record : u.frames[f] = { s.frames[f] with dog := .alive, remaining := s.frames[f].period } := by simp [updated, State.updFrame]
  have frames : u.frames = s.frames.set f { s.frames[f] with dog := .alive, remaining := s.frames[f].period } := rfl
  rw [eq, State.clearConditions_eq, record, frames, Vector.set_set]
  rfl

/-- An exchange leaves the part but for the frame's record, and for what the clears do. -/
theorem State.exchangeDog_keeps (s : State) (f : Fin 4) : Keeps (s.setFrames (s.exchangeDog f).frames) (s.exchangeDog f) := by
  by_cases h : s.frames[f].dog = .unwatched
  · rw [State.exchangeDog_of_unwatched h]
    exact .refl s
  · rw [State.exchangeDog_of_watched h]
    have kept := State.onTime_keeps (s.setFrames (s.frames.set f s.frames[f].exchanged)) f s.frames[f].late s.frames[f].lost
    rw [kept.frames]
    exact kept

theorem State.Inactive.onTime {src : Source} (h : s.Inactive src) (late lost : Bool) : (s.onTime f late lost).Inactive src :=
  (h.ite_clear _).ite_clear _

theorem State.Inactive.exchangeDog {src : Source} (h : s.Inactive src) : (s.exchangeDog f).Inactive src := by
  by_cases dog : s.frames[f].dog = .unwatched
  · rwa [State.exchangeDog_of_unwatched dog]
  · rw [State.exchangeDog_of_watched dog]
    exact State.Inactive.onTime (h.of_zones) _ _
end

theorem Keeps.framed {s t : State} {v : Vector FrameRec 4} (h : Keeps s t) : Keeps (s.setFrames v) (t.setFrames v) :=
  ⟨h.stamp, h.channels, h.supervision, h.activeSet, h.stagedSet, h.commit, rfl, h.gauges, h.links, h.cracks, h.stopLine, h.stopHold,
    h.pending, h.gen, h.window, h.mask, h.latched⟩

/-! ### The whole exchange (R76) -/

section
variable (s : State) (f : Fin 4) (forceA forceB strokeA strokeB : Half)

theorem exec_servoExchange :
    exec (.servoExchange (.frame f) forceA forceB strokeA strokeB) s =
      .next ((s.exchanged f forceA forceB strokeA strokeB).answer (.frame f) 0x30#8 8#16 .ok
        ((s.exchangeChecks f forceA forceB strokeA strokeB).exchangeBytes f)) :=
  congrArg Host.Outcome.next (State.serve_ok (r := .servoExchange) (n := 8) rfl rfl)

theorem channels_apart : (channelA f).val ≠ (channelB f).val := by simp [channelA, channelB]

/-- The supervision records of a frame's channels after the checks, measured values and all. -/
theorem State.exchangeChecks_supervision :
    (s.exchangeChecks f forceA forceB strokeA strokeB).supervision
      = (s.supervision.set (channelA f)
          { s.supervision[channelA f].checked s.channels[channelA f] forceA strokeA with force := some forceA, stroke := some strokeA }).set
        (channelB f)
          { s.supervision[channelB f].checked s.channels[channelB f] forceB strokeB with force := some forceB, stroke := some strokeB } := by
  have apart := channels_apart f
  have channels : (s.checkChannel (channelA f) forceA strokeA).channels = s.channels := (s.checkChannel_keeps _ _ _).channels
  have first := s.checkChannel_supervision (channelA f) forceA strokeA
  have second := (s.checkChannel (channelA f) forceA strokeA).checkChannel_supervision (channelB f) forceB strokeB
  simp only [channels, first] at second
  unfold State.exchangeChecks
  generalize (s.checkChannel (channelA f) forceA strokeA).checkChannel (channelB f) forceB strokeB = u at second ⊢
  simp only [State.storeMeasured, State.updSupervision, State.setSupervision_supervision, second, Fin.getElem_fin,
    Vector.getElem_set_self, Vector.getElem_set_ne _ _ apart, Vector.getElem_set_ne _ _ apart.symm]
  rw [Vector.set_comm _ _ apart, Vector.set_set, Vector.set_comm _ _ apart.symm, Vector.set_set]

/-- The checks leave the part but for the supervision records, and for what they hand over. -/
theorem State.exchangeChecks_keeps :
    Keeps (s.setSupervision (s.exchangeChecks f forceA forceB strokeA strokeB).supervision)
      (s.exchangeChecks f forceA forceB strokeA strokeB) := by
  have first := s.checkChannel_keeps (channelA f) forceA strokeA
  have second := (s.checkChannel (channelA f) forceA strokeA).checkChannel_keeps (channelB f) forceB strokeB
  exact (first.supervised.trans second).supervised

theorem State.exchanged_keeps :
    Keeps ((s.setSupervision (s.exchanged f forceA forceB strokeA strokeB).supervision).setFrames
      (s.exchanged f forceA forceB strokeA strokeB).frames) (s.exchanged f forceA forceB strokeA strokeB) := by
  have dog := State.exchangeDog_keeps
    (((s.exchangeChecks f forceA forceB strokeA strokeB).handOut (channelA f)).handOut (channelB f)) f
  have supervision : (s.exchanged f forceA forceB strokeA strokeB).supervision
      = (((s.exchangeChecks f forceA forceB strokeA strokeB).handOut (channelA f)).handOut (channelB f)).supervision := dog.supervision
  rw [supervision]
  exact ((s.exchangeChecks_keeps f forceA forceB strokeA strokeB).supervised.framed).trans dog

theorem State.exchanged_supervision :
    (s.exchanged f forceA forceB strokeA strokeB).supervision
      = (((s.exchangeChecks f forceA forceB strokeA strokeB).handOut (channelA f)).handOut (channelB f)).supervision :=
  (State.exchangeDog_keeps _ f).supervision

/-- A channel of the frame with its measured values. -/
def measured (f : Fin 4) (forceA forceB strokeA strokeB : Half) : List (Fin 8 × Half × Half) :=
  [(channelA f, forceA, strokeA), (channelB f, forceB, strokeB)]

variable {p : Fin 8 × Half × Half} (mem : p ∈ measured f forceA forceB strokeA strokeB)
include mem

/-- A channel's supervision record after an exchange. -/
theorem State.exchanged_record :
    (s.exchanged f forceA forceB strokeA strokeB).supervision[p.1] =
      { s.supervision[p.1].checked s.channels[p.1] p.2.1 p.2.2 with
        force := some p.2.1, stroke := some p.2.2
        handedOut := (s.exchangeChecks f forceA forceB strokeA strokeB).setpoint? p.1 } := by
  have apart := channels_apart f
  have checks := s.exchangeChecks_supervision f forceA forceB strokeA strokeB
  rw [State.exchanged_supervision]
  generalize s.exchangeChecks f forceA forceB strokeA strokeB = m at checks
  have setpoint (c : Fin 8) : (m.handOut (channelA f)).setpoint? c = m.setpoint? c := rfl
  simp only [measured, List.mem_cons, List.not_mem_nil, or_false] at mem
  obtain rfl | rfl := mem
  · simp [State.handOut, State.updSupervision, checks, Vector.getElem_set_ne _ _ apart.symm]
  · simp [State.handOut, State.updSupervision, checks, Vector.getElem_set_ne _ _ apart]
    rfl

/-- What the checks of a channel leave inactive stays so to the end of the exchange, as do the events latched. -/
theorem State.exchanged_after :
    ∃ u : State, u.supervision[p.1] = s.supervision[p.1] ∧ u.channels = s.channels
      ∧ (u.checkChannel p.1 p.2.1 p.2.2).Latches (s.exchanged f forceA forceB strokeA strokeB)
      ∧ ∀ src ∈ [Source.tracking p.1, .overforce p.1, .stroke p.1],
          (u.checkChannel p.1 p.2.1 p.2.2).Inactive src → (s.exchanged f forceA forceB strokeA strokeB).Inactive src := by
  have apart := channels_apart f
  have first := s.checkChannel_supervision (channelA f) forceA strokeA
  have channels : (s.checkChannel (channelA f) forceA strokeA).channels = s.channels := (s.checkChannel_keeps _ _ _).channels
  have ex := latches_composes.exchanges
  have later {src : Source} (h : ((s.checkChannel (channelA f) forceA strokeA).checkChannel (channelB f) forceB strokeB).Inactive src) :
      (s.exchanged f forceA forceB strokeA strokeB).Inactive src := State.Inactive.exchangeDog (h.of_zones)
  have latches : ((s.checkChannel (channelA f) forceA strokeA).checkChannel (channelB f) forceB strokeB).Latches
      (s.exchanged f forceA forceB strokeA strokeB) := by
    exact ex.trans (ex.trans (ex.trans (ex.trans (ex.storeMeasured _ _ _ _) (ex.storeMeasured _ _ _ _)) (ex.handOut _ _)) (ex.handOut _ _))
      (ex.exchangeDog _ _)
  simp only [measured, List.mem_cons, List.not_mem_nil, or_false] at mem
  obtain rfl | rfl := mem
  · refine ⟨s, rfl, rfl, ex.trans (ex.checkChannel _ _ _ _) latches, fun src own h => later ?_⟩
    have other : channelB f ≠ channelA f := fun same => apart (congrArg Fin.val same.symm)
    simp only [List.mem_cons, List.not_mem_nil, or_false] at own
    obtain rfl | rfl | rfl := own <;> exact h.checkChannel (by simp [other]) (by simp [other]) (by simp [other]) _ _
  · refine ⟨s.checkChannel (channelA f) forceA strokeA, ?_, channels, latches, fun src _ h => later h⟩
    simp [first, Vector.getElem_set_ne _ _ apart]

/-- A condition that becomes active is an ALARM at every port, and one that clears leaves no active entry. -/
theorem State.exchanged_conditions :
    let v := s.supervision[p.1]
    let t := s.exchanged f forceA forceB strokeA strokeB
    let w := t.supervision[p.1]
    ((v.tracking = false ∧ w.tracking = true) ∨ (v.overforce = false ∧ w.overforce = true)
        ∨ (v.strokeOut = false ∧ w.strokeOut = true) → ∀ q, t.holds q .alarm = true)
      ∧ (v.tracking = true ∧ w.tracking = false → t.Inactive (.tracking p.1))
      ∧ (v.overforce = true ∧ w.overforce = false → t.Inactive (.overforce p.1))
      ∧ (v.strokeOut = true ∧ w.strokeOut = false → t.Inactive (.stroke p.1)) := by
  intro v t w
  obtain ⟨u, record, channels, latches, inactive⟩ := s.exchanged_after f forceA forceB strokeA strokeB mem
  have checked : s.supervision[p.1].checked s.channels[p.1] p.2.1 p.2.2 = u.supervision[p.1].checked u.channels[p.1] p.2.1 p.2.2 := by
    simp only [record, channels]
  obtain ⟨tracking, overforce, stroke⟩ := State.checkChannel_inactive checked
  have own : w = _ := s.exchanged_record f forceA forceB strokeA strokeB mem
  rw [own]
  refine ⟨fun rises q => latches.holds (by decide) (State.checkChannel_holds checked ?_ q), fun clears => ?_, fun clears => ?_,
    fun clears => ?_⟩
  · rwa [record]
  · exact inactive _ (by simp) (tracking (by rwa [record]))
  · exact inactive _ (by simp) (overforce (by rwa [record]))
  · exact inactive _ (by simp) (stroke (by rwa [record]))
end

/-! ### What the checks leave of a channel's record (R77 to R80) -/

theorem Channel.overforced_eq (ch : Channel) (force : Half) :
    ch.overforced force = decide (ch.fabs ≠ 0#16 ∧ ch.fabs.toInt < (force.toInt.natAbs : Int)) := by
  have zero : ch.fabs.toNat ≠ 0 ↔ ch.fabs ≠ 0#16 := not_congr ⟨fun h => BitVec.eq_of_toNat_eq h, fun h => by rw [h]; rfl⟩
  rw [Bool.eq_iff_iff, decide_eq_true_iff, ← zero]
  simp [Channel.overforced]

theorem Channel.strokeOutside_eq (ch : Channel) (stroke : Half) :
    ch.strokeOutside stroke = decide (¬ (ch.smin = 0#16 ∧ ch.smax = 0#16)
      ∧ (stroke.toInt < ch.smin.toInt ∨ ch.smax.toInt < stroke.toInt)) := by
  rw [Bool.eq_iff_iff, decide_eq_true_iff]
  simp [Channel.strokeOutside, -not_and, Classical.not_and_iff_not_or_not]

section
variable {v : Supervision} {ch : Channel} {force stroke : Half}

theorem Supervision.checked_fields :
    (v.checked ch force stroke).misses = (v.tracked ch force).misses
      ∧ (v.checked ch force stroke).tracking = (v.tracked ch force).tracking
      ∧ (v.checked ch force stroke).overforce = ((v.overforce || v.handedOut.isSome) && ch.overforced force)
      ∧ (v.checked ch force stroke).strokeOut = ((v.strokeOut || v.handedOut.isSome) && ch.strokeOutside stroke) := by
  refine ⟨rfl, rfl, ?_, ?_⟩ <;> simp only [Supervision.checked, Supervision.forced, Supervision.stroked] <;> rw [Supervision.tracked_eq]

theorem Supervision.tracked_in_full {h : Half} (handed : v.handedOut = some h) :
    let w := v.tracked ch force
    let miss : Prop := ch.tol.toInt < ((force.toInt - h.toInt).natAbs : Int)
    (v.tracking = true → w.misses = v.misses ∧ (w.tracking = true ↔ miss))
      ∧ (v.tracking = false → ¬ miss → w.misses = 0 ∧ w.tracking = false)
      ∧ (v.tracking = false → miss → v.misses + 1 < ch.k → w.misses = v.misses + 1 ∧ w.tracking = false)
      ∧ (v.tracking = false → miss → ch.k ≤ v.misses + 1 → w.misses = 0 ∧ w.tracking = true) := by
  intro w miss
  have missed : ch.misses force h = true ↔ miss := by simp [Channel.misses, miss]
  have tracked : w = _ := Supervision.tracked_of_some handed
  refine ⟨fun active => ?_, fun clear hit => ?_, fun clear away few => ?_, fun clear away many => ?_⟩
  · rw [tracked, if_pos active]
    exact ⟨rfl, missed⟩
  · rw [tracked, if_neg (by rw [clear]; decide), if_neg (mt missed.mp hit)]
    exact ⟨rfl, clear⟩
  · rw [tracked, if_neg (by rw [clear]; decide), if_pos (missed.mpr away), if_pos few]
    exact ⟨rfl, clear⟩
  · rw [tracked, if_neg (by rw [clear]; decide), if_pos (missed.mpr away), if_neg (Nat.not_lt.mpr many)]
    exact ⟨rfl, rfl⟩
end

/-- The three checks of a channel whose record has the conditions of v before and of w after. -/
def State.checkedAs (u : State) (ch : Channel) (c : Fin 8) (v w : Supervision) : State :=
  let tracked := { v with misses := w.misses, tracking := w.tracking }
  let forced := { tracked with overforce := w.overforce }
  let stroked := { forced with strokeOut := w.strokeOut }
  ((u.check ch c (.tracking c) ch.trackingAction tracked v.tracking w.tracking).check ch c (.overforce c) ch.overforceAction forced
    v.overforce w.overforce).check ch c (.stroke c) ch.strokeAction stroked v.strokeOut w.strokeOut

theorem State.stored_measured (m : State) (f : Fin 4) (forceA forceB strokeA strokeB : Half) :
    (m.storeMeasured (channelA f) forceA strokeA).storeMeasured (channelB f) forceB strokeB =
      { m with
        supervision := (m.supervision.set (channelA f)
          { m.supervision[channelA f] with force := some forceA, stroke := some strokeA }).set (channelB f)
          { m.supervision[channelB f] with force := some forceB, stroke := some strokeB } } := by
  have other : (m.storeMeasured (channelA f) forceA strokeA).supervision[channelB f] = m.supervision[channelB f] := by
    simp [State.storeMeasured, State.updSupervision, Vector.getElem_set_ne _ _ (channels_apart f)]
  rw [State.storeMeasured, State.updSupervision, other]
  rfl

/-- Two supervision records of the same conditions. -/
def Supervision.Agrees (w x : Supervision) : Prop :=
  w.misses = x.misses ∧ w.tracking = x.tracking ∧ w.overforce = x.overforce ∧ w.strokeOut = x.strokeOut

theorem State.checkChannel_as {u : State} {ch : Channel} {c : Fin 8} {v w : Supervision} (channel : u.channels[c] = ch)
    (record : u.supervision[c] = v) {force stroke : Half} (agrees : w.Agrees (v.checked ch force stroke)) :
    u.checkChannel c force stroke = u.checkedAs ch c v w := by
  subst channel record
  obtain ⟨misses, tracking, overforce, strokeOut⟩ := agrees
  have channels : ((u.checkTracking c force).checkOverforce c force).channels = u.channels :=
    State.check_channels.trans State.check_channels
  have channel : (u.checkTracking c force).channels = u.channels := State.check_channels
  have untouched := Supervision.tracked_eq u.supervision[c] u.channels[c] force
  have overBefore : (u.supervision[c].tracked u.channels[c] force).overforce = u.supervision[c].overforce := by rw [untouched]
  have strokeBefore : (u.supervision[c].tracked u.channels[c] force).strokeOut = u.supervision[c].strokeOut := by rw [untouched]
  have tracked : { u.supervision[c] with misses := w.misses, tracking := w.tracking } = u.supervision[c].tracked u.channels[c] force := by
    rw [misses, tracking]
    exact untouched.symm
  have forced : (u.checkTracking c force).checkOverforce c force = (u.checkTracking c force).check u.channels[c] c (.overforce c)
      u.channels[c].overforceAction ((u.supervision[c].tracked u.channels[c] force).forced u.channels[c] force) u.supervision[c].overforce
      w.overforce := by
    rw [overforce, ← overBefore, State.checkOverforce, State.checkTracking_record]
    simp only [channel]
    rfl
  have stroked : ((u.checkTracking c force).checkOverforce c force).checkStroke c stroke =
      ((u.checkTracking c force).checkOverforce c force).check u.channels[c] c (.stroke c) u.channels[c].strokeAction
        (u.supervision[c].checked u.channels[c] force stroke) u.supervision[c].strokeOut w.strokeOut := by
    rw [strokeOut, ← strokeBefore, State.checkStroke, State.checkOverforce_record, State.checkTracking_record]
    simp only [channel, channels]
    rfl
  rw [State.checkChannel_eq, stroked, forced, State.checkedAs, tracked, tracking, overforce, strokeOut]
  rfl

/-- Settles O38, channel by channel, by the handed-out value and the conditions. -/
theorem servoExchangeChecksItsChannels : Obligations.ServoExchangeChecksItsChannels := by
  intro f forceA forceB strokeA strokeB s
  refine ⟨_, exec_servoExchange s f forceA forceB strokeA strokeB, fun p mem => ?channel, ?checks⟩
  case channel =>
    intro v w ch beyond outside
    have own : w = _ := s.exchanged_record f forceA forceB strokeA strokeB mem
    have fields := Supervision.checked_fields (v := v) (ch := ch) (force := p.2.1) (stroke := p.2.2)
    have misses : w.misses = _ := (congrArg Supervision.misses own).trans fields.1
    have tracking : w.tracking = _ := (congrArg Supervision.tracking own).trans fields.2.1
    have overforce : w.overforce = _ := (congrArg Supervision.overforce own).trans fields.2.2.1
    have strokeOut : w.strokeOut = _ := (congrArg Supervision.strokeOut own).trans fields.2.2.2
    obtain ⟨rises, tracked, forced, stroked⟩ := s.exchanged_conditions f forceA forceB strokeA strokeB mem
    rw [Channel.overforced_eq] at overforce
    rw [Channel.strokeOutside_eq] at strokeOut
    refine ⟨fun h handed => ?full, fun none => ?part, fun active q => ?alarm, fun z e listed => ?inactive⟩
    case full =>
      obtain ⟨kept, hit, counted, qualified⟩ := Supervision.tracked_in_full (ch := ch) (force := p.2.1) handed
      rw [misses, tracking, overforce, strokeOut, handed]
      exact ⟨kept, hit, counted, qualified, by rw [Option.isSome_some, Bool.or_true, Bool.true_and],
        by rw [Option.isSome_some, Bool.or_true, Bool.true_and]⟩
    case part =>
      rw [misses, tracking, overforce, strokeOut, none, Supervision.tracked_of_none none]
      exact ⟨rfl, rfl, by rw [Option.isSome_none, Bool.or_false], by rw [Option.isSome_none, Bool.or_false]⟩
    case alarm => rw [State.answer_holds]; exact rises active q
    case inactive =>
      rintro (⟨was, clear, source⟩ | ⟨was, clear, source⟩ | ⟨was, clear, source⟩)
      · exact tracked ⟨was, clear⟩ z e listed source
      · exact forced ⟨was, clear⟩ z e listed source
      · exact stroked ⟨was, clear⟩ z e listed source
  case checks =>
    intro hand checked m
    have agrees {p : Fin 8 × Half × Half} (mem : p ∈ measured f forceA forceB strokeA strokeB) :
        (s.exchanged f forceA forceB strokeA strokeB).supervision[p.1].Agrees
          (s.supervision[p.1].checked s.channels[p.1] p.2.1 p.2.2) := by
      rw [s.exchanged_record f forceA forceB strokeA strokeB mem]
      exact ⟨rfl, rfl, rfl, rfl⟩
    have first : s.checkChannel (channelA f) forceA strokeA = checked s (channelA f) :=
      State.checkChannel_as rfl rfl (agrees List.mem_cons_self)
    have channels : (s.checkChannel (channelA f) forceA strokeA).channels = s.channels := (s.checkChannel_keeps _ _ _).channels
    have record : (s.checkChannel (channelA f) forceA strokeA).supervision[channelB f] = s.supervision[channelB f] := by
      simp [s.checkChannel_supervision, Vector.getElem_set_ne _ _ (channels_apart f)]
    have second : (s.checkChannel (channelA f) forceA strokeA).checkChannel (channelB f) forceB strokeB
        = checked (s.checkChannel (channelA f) forceA strokeA) (channelB f) :=
      State.checkChannel_as (by simp only [channels]) record (agrees (List.mem_cons_of_mem _ List.mem_cons_self))
    rw [first] at second
    have whole : s.exchangeChecks f forceA forceB strokeA strokeB
        = (m.storeMeasured (channelA f) forceA strokeA).storeMeasured (channelB f) forceB strokeB := by
      rw [State.exchangeChecks, first, second]
    exact whole.trans (State.stored_measured m f forceA forceB strokeA strokeB)

/-! ### The answer of an exchange (R82) -/

theorem State.length_channelBlock (m : State) (c : Fin 8) : (m.channelBlock c).length = 4 := by
  unfold State.channelBlock
  split <;> rfl

theorem State.length_exchangeBytes (m : State) (f : Fin 4) : (m.exchangeBytes f).length = 15 := by
  simp [State.exchangeBytes, State.length_channelBlock, bytes2, bytes4]

/-- What an exchange hands out to the two channels, before the watchdog acts. -/
def State.handedOut (s : State) (f : Fin 4) (forceA forceB strokeA strokeB : Half) : State :=
  ((s.exchangeChecks f forceA forceB strokeA strokeB).handOut (channelA f)).handOut (channelB f)

section
variable {s : State} {f : Fin 4} {forceA forceB strokeA strokeB : Half}

theorem State.handedOut_frames : (s.handedOut f forceA forceB strokeA strokeB).frames = s.frames :=
  (s.exchangeChecks_keeps f forceA forceB strokeA strokeB).frames

theorem State.exchanged_of_unwatched (h : s.frames[f].dog = .unwatched) :
    s.exchanged f forceA forceB strokeA strokeB = s.handedOut f forceA forceB strokeA strokeB :=
  State.exchangeDog_of_unwatched (by
    have frames : (s.handedOut f forceA forceB strokeA strokeB).frames = s.frames := State.handedOut_frames
    exact (congrArg (fun v : Vector FrameRec 4 => v[f].dog) frames).trans h)

theorem State.exchanged_of_watched (h : s.frames[f].dog ≠ .unwatched) :
    s.exchanged f forceA forceB strokeA strokeB =
      ((s.handedOut f forceA forceB strokeA strokeB).setFrames (s.frames.set f s.frames[f].exchanged)).onTime f s.frames[f].late
        s.frames[f].lost := by
  have frames : (s.handedOut f forceA forceB strokeA strokeB).frames = s.frames := State.handedOut_frames
  have dog := State.exchangeDog_of_watched (s := s.handedOut f forceA forceB strokeA strokeB) (f := f) (by simpa only [frames] using h)
  simp only [frames] at dog
  exact dog
end

theorem State.handOut_framed (m : State) (a b : Fin 8) (v : Vector FrameRec 4) :
    { m with supervision := ((m.handOut a).handOut b).supervision, frames := v } = ((m.handOut a).handOut b).setFrames v := rfl

/-- Settles O37, by the watchdog and the conditions of the frame. -/
theorem servoExchangeAnswersAndHandsOut : Obligations.ServoExchangeAnswersAndHandsOut := by
  intro f forceA forceB strokeA strokeB s m block handed body
  have blocks (c : Fin 8) : block c = m.channelBlock c := by
    simp only [block, State.channelBlock, State.setpoint?]
    cases m.channelZone c <;> rfl
  have bytes : body = m.exchangeBytes f := by
    simp only [body, blocks]
    rfl
  have kept := s.exchanged_keeps f forceA forceB strokeA strokeB
  have checks := s.exchangeChecks_keeps f forceA forceB strokeA strokeB
  refine ⟨_, exec_servoExchange s f forceA forceB strokeA strokeB, ?answer, fun p mem => ?handed, fun unwatched => ?unwatched,
    fun watched => ?watched, ?whole, fun c notA notB => ?others, kept.generator, ?rest⟩
  case answer => rw [bytes, State.answer_answerOf, answerBytes_ok_of_length (m.length_exchangeBytes f) (by decide)]
  case handed =>
    have record := s.exchanged_record f forceA forceB strokeA strokeB mem
    rw [State.answer_supervision, record]
    exact ⟨rfl, rfl, rfl⟩
  case rest => exact congrArg (fun w : State => { w with supervision := s.supervision, frames := s.frames }) kept.rest
  case unwatched =>
    exact (congrArg State.frames (State.exchanged_of_unwatched unwatched)).trans checks.frames
  case watched =>
    exact congrArg State.frames (State.exchanged_of_watched watched) |>.trans (State.onTime_keeps _ f _ _).frames
  case whole =>
    intro exchanged late lost onTime
    by_cases watched : s.frames[f].dog = .unwatched
    · have still := State.exchanged_of_unwatched (forceA := forceA) (forceB := forceB) (strokeA := strokeA) (strokeB := strokeB) watched
      have same : exchanged = s.exchanged f forceA forceB strokeA strokeB := by
        simp only [exchanged, State.answer_supervision, State.answer_frames]
        rw [still]
        rfl
      have punctual : onTime = exchanged := if_neg fun h => h.1 watched
      refine ⟨?_, fun z e _ h => ?_⟩
      · rw [if_neg fun h => h.1 watched, punctual, same, bytes]
      · obtain ⟨h, -⟩ | ⟨h, -⟩ := h <;> exact absurd watched h.1
    · have turned := State.exchanged_of_watched (forceA := forceA) (forceB := forceB) (strokeA := strokeA) (strokeB := strokeB) watched
      have frames : (s.exchanged f forceA forceB strokeA strokeB).frames = s.frames.set f s.frames[f].exchanged := by
        rw [turned]
        exact (State.onTime_keeps _ f _ _).frames
      have same : exchanged = (s.handedOut f forceA forceB strokeA strokeB).setFrames (s.frames.set f s.frames[f].exchanged) := by
        simp only [exchanged, State.answer_supervision, State.answer_frames]
        rw [State.exchanged_supervision, frames]
        exact State.handOut_framed m _ _ _
      have late_iff : late ↔ s.frames[f].late = true := and_iff_right watched
      have lost_iff : lost ↔ s.frames[f].lost = true := and_iff_right watched
      have punctual : onTime = if s.frames[f].late then exchanged.clear (.frameLate f) else exchanged := ite_congr (propext late_iff) (fun _ => rfl) (fun _ => rfl)
      obtain ⟨clearedLate, clearedLost⟩ := exchanged.onTime_inactive f s.frames[f].late s.frames[f].lost
      rw [same, ← turned] at clearedLate clearedLost
      refine ⟨?_, fun z e mem h => ?_⟩
      · rw [ite_congr (propext lost_iff) (fun _ => rfl) (fun _ => rfl), punctual, same, turned, bytes, State.onTime]
      · obtain ⟨h, own⟩ | ⟨h, own⟩ := h
        · exact clearedLate h.2 z e mem own
        · exact clearedLost h.2 z e mem own
  case others =>
    have apartA : (channelA f).val ≠ c.val := fun same => notA (Fin.ext same).symm
    have apartB : (channelB f).val ≠ c.val := fun same => notB (Fin.ext same).symm
    rw [State.answer_supervision, State.exchanged_supervision]
    simp [State.handOut, State.updSupervision, State.exchangeChecks_supervision, Vector.getElem_set_ne _ _ apartA,
      Vector.getElem_set_ne _ _ apartB]

end Sys2Proof.Machine


/-! O31: the output records an update leaves, by the state of the zone (R43 to R49). -/
namespace Sys2Proof.Machine

/-! ### What comes after the setpoints leaves the outputs -/

/-- A change of a zone that enters neither HELD nor DUMPED leaves the outputs. -/
theorem State.changeZone_outputs {s : State} {z : Fin 4} {st : ZoneState} (h : (st = .held ∨ st = .dumped) → s.zones[z].state = st)
    (late : Bool) : (s.changeZone z st late).outputs = s.outputs := by
  refine Vector.ext fun c lt => ?_
  have output := s.changeZone_output z st late ⟨c, lt⟩
  rw [if_neg fun ⟨_, away, held⟩ => away ((h (.inl held)).trans held),
    if_neg fun ⟨_, away, dumped⟩ => away ((h (.inr dumped)).trans dumped)] at output
  exact output

theorem State.arriveIn_outputs (s : State) (d : Int) (z : Fin 4) : (s.arriveIn d z).outputs = s.outputs := by
  unfold State.arriveIn
  split
  · exact State.changeZone_outputs (by rintro (h | h) <;> cases h) _
  · split
    · exact State.changeZone_outputs (by rintro (h | h) <;> cases h) _
    · rfl

theorem State.arrive_outputs (s : State) (d : Int) : (s.arrive d).outputs = s.outputs :=
  foldl_keeps (π := State.outputs) (fun z _ s => s.arriveIn_outputs d z) s

/-- The return toward service enters neither HELD nor DUMPED. -/
theorem ZoneState.afterRemoval_kept {st : ZoneState} {hold : Bool}
    (h : st.afterRemoval hold = .held ∨ st.afterRemoval hold = .dumped) : st = st.afterRemoval hold := by
  cases st <;> cases hold <;> simp_all [ZoneState.afterRemoval]

theorem State.removeEntry_outputs_kept (s : State) (z : Fin 4) (e : Entry) (m : Method) (late : Bool) :
    (s.removeEntry z e m late).outputs = s.outputs := by
  unfold State.removeEntry
  refine (State.changeZone_outputs ?_ late).trans rfl
  intro entered
  rw [State.record_zones]
  split at entered
  · next protect => rw [if_pos protect]
  · next bare =>
    rw [if_neg bare]
    exact ZoneState.afterRemoval_kept entered

theorem State.boundaryRemovals_outputs (s : State) : s.boundaryRemovals.outputs = s.outputs :=
  foldl_keeps (π := State.outputs) (fun z _ s => foldl_keeps (π := State.outputs) (fun e _ s => s.removeEntry_outputs_kept z e _ _) s) s

theorem GaugeRun.transferred_driftCount (r : GaugeRun) : r.transferred.driftCount ≤ r.driftCount := by
  unfold GaugeRun.transferred
  dsimp only
  split
  · exact Nat.zero_le _
  all_goals exact Nat.le.refl

/-- A gauge whose drift count cannot come to M hands over no raise. -/
theorem Gauge.drifts_of_apart {x : Gauge} (apart : x.run.driftCount + 1 < x.config.m) : x.drifts = false := by
  rw [Gauge.drifts, Bool.eq_false_iff]
  simp [apart]

/-- A boundary at which no drift count comes to M leaves the outputs. -/
theorem State.closeCycles_outputs {s : State}
    (apart : ∀ g : Fin 64, s.gauges[g].config.enabled = true → s.gauges[g].run.driftCount + 1 < s.gauges[g].config.m) :
    s.closeCycles.outputs = s.outputs := by
  have turns {l : List (Fin 64)} (distinct : l.Nodup) (s : State)
      (apart : ∀ g ∈ l, s.gauges[g].config.enabled = true → s.gauges[g].run.driftCount + 1 < s.gauges[g].config.m) :
      (l.foldl State.closeCycle s).outputs = s.outputs := by
    induction l generalizing s with
    | nil => rfl
    | cons g l ih =>
      obtain ⟨fresh, distinct⟩ := List.nodup_cons.mp distinct
      have outputs : (s.closeCycle g).outputs = s.outputs := by
        rw [State.closeCycle_eq]
        split
        · next enabled =>
          rw [State.driftRaised, if_neg]
          · rfl
          · refine Bool.eq_false_iff.mp (Gauge.drifts_of_apart ?_)
            exact Nat.lt_of_le_of_lt (Nat.succ_le_succ (GaugeRun.transferred_driftCount _)) (apart g List.mem_cons_self enabled)
        · rfl
      rw [List.foldl_cons, ih distinct _ fun w mem => ?_, outputs]
      have other : g.val ≠ w.val := fun same => fresh (Fin.ext same ▸ mem)
      have kept : (s.closeCycle g).gauges[w] = s.gauges[w] := by
        rw [State.closeCycle_gauges]
        exact Vector.getElem_set_ne _ _ other
      rw [kept]
      exact apart w (List.mem_cons_of_mem g mem)
  exact turns (List.nodup_finRange 64) s fun g _ => apart g

/-- What an update leaves in the outputs is what the setpoint unit makes, where no drift raise can come. -/
theorem State.update_outputs {s : State}
    (apart : s.gen.carries = true → ∀ g : Fin 64, s.gauges[g].config.enabled = true →
      s.gauges[g].run.driftCount + 1 < s.gauges[g].config.m) : s.update.outputs = s.updateSetpoints.outputs := by
  have reported := State.arrive_outputs s.updateSetpoints s.updateDemand
  by_cases carries : s.gen.carries = true
  · have closed := State.closeCycles_outputs (s := s.noticed) (by simpa only [State.noticed_gauges] using apart carries)
    rw [State.update_of_carry carries, State.syncPause_outputs, State.autoSnapshot_of_field (π := State.outputs), closed, State.noticed,
      State.boundaryRemovals_outputs, reported]
  · have whole : s.update = s.updateSetpoints.arrive s.updateDemand := if_neg carries
    rw [whole, reported]

theorem State.updateSetpoints_output (s : State) (c : Fin 8) :
    s.updateSetpoints.outputs[c] = s.updateGenerator.outputOf s.updateDemand c := by
  simp [State.updateSetpoints, State.computeSetpoints]

/-- The active set of an update: the pending set where a commit applies. -/
theorem State.update_activeSet (s : State) :
    s.updateGenerator.activeSet
      = if s.commit = .armedNow ∨ (s.commit = .armedBoundary ∧ s.gen.carries = true) then s.stagedSet else s.activeSet := by
  rw [← s.update_sets.1]
  split
  · next applies =>
    obtain now | ⟨boundary, carries⟩ := applies
    · exact (State.update_appliedNow now).1
    · exact (State.update_appliedBoundary boundary carries).1
  · next none =>
    obtain ⟨now, boundary⟩ := not_or.mp none
    exact (State.update_unapplied now fun armed => Bool.eq_false_iff.mpr fun carries => boundary ⟨armed, carries⟩).2.1

/-! ### The setpoint arithmetic on whole numbers (R43 to R47) -/

theorem limitInt_eq {x lo hi : Int} (h : lo ≤ hi) : limitInt x lo hi = max lo (min x hi) := by
  unfold limitInt
  split
  · omega
  · split <;> omega

theorem demand_eq (d : Drive) (ascale : Half) :
    demand d ascale = max (-32768) (min (d.mean.toInt
      + roundDiv (min (roundDiv (d.amplitude.toInt * (ascale.toNat : Int)) 1024) 32767 * sineEntry d.index) 32768) 32767) :=
  limitInt_eq (by decide)

theorem rawValue_eq (d : Int) (share offset : Half) :
    rawValue d share offset = max (-32768) (min (offset.toInt + roundDiv (d * share.toInt) 4096) 32767) :=
  limitInt_eq (by decide)

theorem windowed_toInt {raw : Int} (low : -32768 ≤ raw) (high : raw ≤ 32767) {fmin fmax : Half} (h : fmin.toInt ≤ fmax.toInt) :
    (windowed raw fmin fmax).toInt = max fmin.toInt (min raw fmax.toInt) := by
  rw [windowed, limit_toInt h, half_toInt low high]

theorem outsideWindow_eq (raw : Int) (fmin fmax : Half) :
    outsideWindow raw fmin fmax = decide (raw < fmin.toInt ∨ fmax.toInt < raw) := (Bool.decide_or _ _).symm

theorem slewed_of_unlimited {rmax : Half} (h : rmax = 0#16) (prev target : Half) : slewed prev target rmax = (target, false) :=
  if_pos (by rw [h]; rfl)

theorem slewed_of_limited {rmax : Half} (h : rmax ≠ 0#16) (prev target : Half) :
    slewed prev target rmax
      = (moveToward prev target rmax.toNat, decide (rmax.toNat < (target.toInt - prev.toInt).natAbs)) :=
  if_neg fun zero => h (BitVec.eq_of_toNat_eq zero)

/-- Settles O31, by the state of the channel's zone. -/
theorem updateComputesSetpoints : Obligations.UpdateComputesSetpoints := by
  intro s c apart window
  have channels : s.updateGenerator.channels = s.channels := (generates_of_field State.channels).updateGenerator s
  have outputs : s.updateGenerator.outputs = s.outputs := (generates_of_field State.outputs).updateGenerator s
  have zones : s.updateGenerator.zones = s.zones := s.updateGenerator_zones
  refine ⟨s.update, rfl, (s.update_of_field State.channels).trans channels, s.update_sets.1.trans s.update_activeSet, ?_⟩
  intro d ch z sat within toward eff dem raw target prev o
  have raws : s.updateGenerator.rawOf s.updateDemand c = raw := by
    rw [State.rawOf, rawValue_eq, State.updateDemand, demand_eq, ← s.update_sets.1]
  have targets : (windowed raw ch.fmin ch.fmax).toInt = target :=
    windowed_toInt (Int.le_max_left _ _) (Int.max_le.mpr ⟨by decide, Int.min_le_right _ _⟩) window
  have output : o = _ := (congrArg (·[c]) (State.update_outputs apart)).trans (s.updateSetpoints_output c)
  unfold State.outputOf State.targetOf at output
  simp only [raws, channels, outputs, zones] at output
  have moved (goal : Half) (rate : Nat) : (moveToward s.outputs[c].setpoint goal rate).toInt = toward prev goal.toInt rate :=
    moveToward_toInt _ _ _
  have slews (rate : Nat) : (moveToward s.outputs[c].setpoint (windowed raw ch.fmin ch.fmax) rate).toInt = toward prev target rate :=
    (moved _ rate).trans (by rw [targets])
  have clamped := outsideWindow_eq raw ch.fmin ch.fmax
  have named : s.zones[s.channels[c].zone].state = z.state := rfl
  rw [named] at output
  cases state : z.state <;> rw [state] at output <;> dsimp only at output <;> rw [output] <;> dsimp only
  case normal =>
    refine ⟨fun _ => rfl, fun _ => clamped, fun other => absurd rfl other, fun _ => ⟨fun unlimited => ?_, fun limited => ?_⟩, nofun, nofun,
      nofun, nofun, nofun⟩
    · rw [slewed_of_unlimited unlimited]
      exact ⟨targets, rfl⟩
    · rw [slewed_of_limited limited]
      exact ⟨slews ch.rmax.toNat, by rw [targets]⟩
  case held =>
    have held : (limit s.outputs[c].held ch.fmin ch.fmax).toInt = within s.outputs[c].held.toInt := limit_toInt window
    exact ⟨fun other => absurd rfl other, fun _ => clamped, fun _ => rfl, nofun, fun _ => ⟨held, rfl⟩, nofun, nofun, nofun, nofun⟩
  case unloading =>
    exact ⟨fun _ => rfl, fun _ => clamped, fun _ => rfl, nofun, nofun, fun _ => moved _ _, nofun, nofun, nofun⟩
  case unloaded =>
    exact ⟨fun _ => rfl, fun _ => clamped, fun _ => rfl, nofun, nofun, nofun, fun _ => rfl, nofun, nofun⟩
  case reloading =>
    exact ⟨fun _ => rfl, fun _ => clamped, fun _ => rfl, nofun, nofun, nofun, nofun, fun _ => slews z.reloadRate.toNat, nofun⟩
  case dumped =>
    exact ⟨fun _ => rfl, fun other => absurd rfl other, fun _ => rfl, nofun, nofun, nofun, nofun, nofun, fun _ => ⟨rfl, rfl⟩⟩

end Sys2Proof.Machine


/-! O32: the arrival report of an update (R52, R136), zone by zone. -/
namespace Sys2Proof.Machine

/-! ### One zone of the report -/

/-- The state in which the arrival report leaves a zone. -/
def State.arrivesAt (v : State) (d : Int) (z : Fin 4) : ZoneState :=
  if v.zones[z].state = .unloading ∧ v.atUnloadLevel z then .unloaded
  else if v.zones[z].state = .reloading ∧ v.atTarget d z then .normal
  else v.zones[z].state

theorem State.arriveIn_eq (v : State) (d : Int) (z : Fin 4) : v.arriveIn d z = v.changeZone z (v.arrivesAt d z) false := by
  unfold State.arriveIn State.arrivesAt
  split
  · rfl
  · split
    · rfl
    · exact (State.changeZone_of_same rfl).symm

theorem State.members_congr {v u : State} (channels : v.channels = u.channels) (z : Fin 4) : v.members z = u.members z := by
  simp only [State.members, channels]

/-- The report of a zone reads the zone, the channels, the outputs and the load set. -/
theorem State.arrivesAt_congr {v u : State} {z : Fin 4} (zone : v.zones[z] = u.zones[z]) (channels : v.channels = u.channels)
    (outputs : v.outputs = u.outputs) (set : v.activeSet = u.activeSet) (d : Int) : v.arrivesAt d z = u.arrivesAt d z := by
  have unload : v.atUnloadLevel z = u.atUnloadLevel z := by
    simp only [State.atUnloadLevel, State.members_congr channels, outputs, channels]
  have target : v.atTarget d z = u.atTarget d z := by
    simp only [State.atTarget, State.members_congr channels, outputs, channels, State.targetOf, State.rawOf, set]
  rw [State.arrivesAt, zone, unload, target, State.arrivesAt]

/-! ### The pause in the report (R21, R146) -/

/-- A generator that acts on the pause inputs: RUNNING or PAUSED. -/
def Generator.Acting (g : Generator) : Prop := g.state = .running ∨ g.state = .paused

theorem Generator.Acting.synced {g : Generator} (h : g.Acting) (demand : Bool) : (g.synced demand).Acting := by
  unfold Generator.synced
  split
  · exact .inr rfl
  · exact .inl rfl
  all_goals exact h

theorem State.changeZone_gen_of_other {v : State} {z : Fin 4} {st : ZoneState} (other : v.zones[z].state ≠ st) :
    (v.changeZone z st false).gen = v.gen.synced (v.changeZone z st false).pauseDemand := by
  have demand : (v.changed z st).syncPause.pauseDemand = (v.changed z st).pauseDemand :=
    State.pauseDemand_congr (State.syncPause_zones _)
  have change : v.changeZone z st false = (v.changed z st).syncPause := State.changeZone_of_change other
  have gen : (v.changed z st).gen = v.gen := v.enterZone_gen z st
  rw [change, demand, State.syncPause_gen, gen]

theorem Generator.Acting.changeZone {v : State} (h : v.gen.Acting) (z : Fin 4) (st : ZoneState) : (v.changeZone z st false).gen.Acting := by
  by_cases same : v.zones[z].state = st
  · rwa [State.changeZone_of_same same]
  · rw [State.changeZone_gen_of_other same]
    exact h.synced _

/-- A generator without a requested pause that is PAUSED under a demand only. -/
def State.Paces (v : State) : Prop :=
  v.gen.requestedPause = false ∧ (v.gen.state = .running ∨ (v.gen.state = .paused ∧ v.pauseDemand = true))

/-- A change of a zone's state leaves the generator in pace with the demand. -/
theorem State.paces_of_change {v : State} {z : Fin 4} {st : ZoneState} (acting : v.gen.Acting) (free : v.gen.requestedPause = false)
    (other : v.zones[z].state ≠ st) : (v.changeZone z st false).Paces := by
  have gen := State.changeZone_gen_of_other other
  cases demand : (v.changeZone z st false).pauseDemand <;> rw [demand] at gen <;> obtain running | paused := acting
  · exact ⟨by rw [gen]; simp [Generator.synced, running, free], .inl (by rw [gen]; simp [Generator.synced, running, free])⟩
  · exact ⟨by rw [gen]; simp [Generator.synced, paused, free], .inl (by rw [gen]; simp [Generator.synced, paused, free])⟩
  · exact ⟨by rw [gen]; simp [Generator.synced, running, free], .inr ⟨by rw [gen]; simp [Generator.synced, running], demand⟩⟩
  · exact ⟨by rw [gen]; simp [Generator.synced, paused, free], .inr ⟨by rw [gen]; simp [Generator.synced, paused], demand⟩⟩

theorem State.Paces.acting {v : State} (h : v.Paces) : v.gen.Acting := h.2.imp id And.left

theorem State.Paces.arriveIn {v : State} (h : v.Paces) (d : Int) (z : Fin 4) : (v.arriveIn d z).Paces := by
  rw [State.arriveIn_eq]
  by_cases same : v.zones[z].state = v.arrivesAt d z
  · rwa [State.changeZone_of_same same]
  · exact State.paces_of_change h.acting h.1 same

/-! ### The whole report (R136) -/

theorem State.Appends.arrivals (l : List (Fin 4)) (d : Int) (s : State) :
    s.Appends (2 * l.length) (l.foldl (fun s z => s.arriveIn d z) s) := by
  induction l generalizing s with
  | nil => exact .of_records
  | cons z l ih => exact ((State.Appends.arriveIn s d z).trans (ih _)).mono (by simp only [List.length_cons]; omega)

/-- The arrival report at one zone: the zones before it leave it, its channels and their outputs. -/
theorem State.arrive_split (u : State) (d : Int) (z : Fin 4) :
    ∃ (v : State) (post : List (Fin 4)),
      u.arrive d = post.foldl (fun s z => s.arriveIn d z) (v.changeZone z (u.arrivesAt d z) false)
        ∧ z ∉ post ∧ v.zones[z] = u.zones[z] ∧ Keeps u v ∧ u.Appends 6 v ∧ (u.gen.Acting → v.gen.Acting) := by
  have every : z ∈ allZones := (by decide : ∀ z : Fin 4, z ∈ allZones) z
  obtain ⟨pre, post, split, before, after⟩ := exists_split every (List.nodup_iff_count.mp (by decide) z)
  let v := pre.foldl (fun s z => s.arriveIn d z) u
  have reached : v = pre.foldl (fun s z => s.arriveIn d z) u := rfl
  have zone : v.zones[z] = u.zones[z] := foldl_keeps (π := fun s : State => s.zones[z]) (fun w mem s => by
    rw [State.arriveIn_eq, State.changeZone_zones, State.updZone_get, if_neg (by rintro rfl; exact before mem)]) u
  have keeps : Keeps u v := (⟨Keeps.refl, Keeps.trans⟩ : Chains Keeps).foldl (fun s w => by
    rw [State.arriveIn_eq]
    exact .of_changeZone _ _ _ _) pre u
  have outputs : v.outputs = u.outputs := foldl_keeps (π := State.outputs) (fun w _ s => s.arriveIn_outputs d w) u
  have few : pre.length ≤ 3 := by
    have length := congrArg List.length split
    rw [List.length_append, List.length_cons, show allZones.length = 4 from rfl] at length
    omega
  refine ⟨v, post, ?_, after, zone, keeps, (State.Appends.arrivals pre d u).mono (by omega), fun acting => ?_⟩
  · rw [State.arrive, split, List.foldl_append, List.foldl_cons, ← reached, State.arriveIn_eq,
      State.arrivesAt_congr zone keeps.channels outputs keeps.activeSet]
  · refine foldl_holds (P := fun s : State => s.gen.Acting) (fun w _ s h => ?_) acting
    rw [State.arriveIn_eq]
    exact h.changeZone _ _

/-- The zones as the report leaves them. -/
theorem State.arrive_zone (u : State) (d : Int) (z : Fin 4) :
    (u.arrive d).zones[z] = { u.zones[z] with state := u.arrivesAt d z } := by
  obtain ⟨v, post, eq, after, zone, -⟩ := u.arrive_split d z
  have kept := foldl_keeps (π := fun s : State => s.zones[z]) (f := fun s w => s.arriveIn d w) (l := post) (fun w mem s => by
    rw [State.arriveIn_eq, State.changeZone_zones, State.updZone_get, if_neg (by rintro rfl; exact after mem)])
    (v.changeZone z (u.arrivesAt d z) false)
  rw [eq, kept, State.changeZone_zones, State.updZone_get, if_pos rfl, zone]

/-- With a ramp complete and no demand left, a PAUSED generator without the requested pause resumes. -/
theorem State.arrive_resumes {u : State} {d : Int} {z : Fin 4} (acting : u.gen.Acting) (free : u.gen.requestedPause = false)
    (turns : u.zones[z].state ≠ u.arrivesAt d z) (none : (u.arrive d).pauseDemand = false) : (u.arrive d).gen.state = .running := by
  obtain ⟨v, post, eq, -, zone, keeps, -, acts⟩ := u.arrive_split d z
  have unrequested : v.gen.requestedPause = false := by rw [keeps.gen]; exact free
  have paces : (u.arrive d).Paces := by
    rw [eq]
    exact foldl_holds (P := State.Paces) (fun w _ s h => h.arriveIn d w)
      (State.paces_of_change (acts acting) unrequested (by rwa [zone]))
  exact paces.2.resolve_right fun h => absurd h.2 (by rw [none]; decide)

/-! ### The ramps of an update (R48, R52) -/

theorem moveToward_eq_iff {prev goal : Half} {rate : Nat} :
    moveToward prev goal rate = goal ↔ (goal.toInt - prev.toInt).natAbs ≤ rate := by
  have moved := moveToward_toInt prev goal rate
  refine ⟨fun same => ?_, fun near => BitVec.eq_of_toInt_eq (by rw [moved, if_pos near])⟩
  rw [same] at moved
  refine Classical.byContradiction fun far => ?_
  rw [if_neg far] at moved
  split at moved <;> omega

theorem State.atUnloadLevel_iff (v : State) (z : Fin 4) :
    v.atUnloadLevel z = true ↔ ∀ c : Fin 8, v.channels[c].zone = z → v.outputs[c].setpoint = v.channels[c].ul := by
  simp [State.atUnloadLevel, State.members, Classical.or_iff_not_imp_left]

theorem State.atTarget_iff (v : State) (d : Int) (z : Fin 4) :
    v.atTarget d z = true ↔ ∀ c : Fin 8, v.channels[c].zone = z → v.outputs[c].setpoint = v.targetOf d c := by
  simp [State.atTarget, State.members, Classical.or_iff_not_imp_left]

/-- What an update does after its arrival report, for what every operation keeps. -/
theorem Composes.afterReport {R : State → State → Prop} (h : Composes R) {v s : State}
    (report : R v (s.updateSetpoints.arrive s.updateDemand)) : R v s.update := by
  unfold State.update
  dsimp only
  split
  · exact h.trans report (h.updates.boundaryNotice _)
  · exact report

section
variable {s : State} {z : Fin 4}

theorem State.updateSetpoints_zones (s : State) : s.updateSetpoints.zones = s.zones := s.updateGenerator_zones

theorem State.updateSetpoints_channels (s : State) : s.updateSetpoints.channels = s.channels :=
  (generates_of_field State.channels).updateGenerator s

/-- An unload ramp arrives where every member is within a step of its UL. -/
theorem State.unloads_iff (unloading : s.zones[z].state = .unloading) :
    s.updateSetpoints.atUnloadLevel z = true ↔ ∀ c : Fin 8, s.channels[c].zone = z →
      (s.channels[c].ul.toInt - s.outputs[c].setpoint.toInt).natAbs ≤ s.zones[z].unloadRate.toNat := by
  have channels : s.updateGenerator.channels = s.channels := (generates_of_field State.channels).updateGenerator s
  have outputs : s.updateGenerator.outputs = s.outputs := (generates_of_field State.outputs).updateGenerator s
  rw [State.atUnloadLevel_iff, State.updateSetpoints_channels]
  refine forall₂_congr fun c member => ?_
  have output := s.updateSetpoints_output c
  unfold State.outputOf at output
  simp only [channels, outputs, s.updateGenerator_zones, member, unloading] at output
  rw [output]
  exact moveToward_eq_iff

/-- A reload ramp arrives where every member is within a step of its target. -/
theorem State.reloads_iff (reloading : s.zones[z].state = .reloading) :
    s.updateSetpoints.atTarget s.updateDemand z = true ↔ ∀ c : Fin 8, s.channels[c].zone = z →
      ((s.updateGenerator.targetOf s.updateDemand c).toInt - s.outputs[c].setpoint.toInt).natAbs ≤ s.zones[z].reloadRate.toNat := by
  have channels : s.updateGenerator.channels = s.channels := (generates_of_field State.channels).updateGenerator s
  have outputs : s.updateGenerator.outputs = s.outputs := (generates_of_field State.outputs).updateGenerator s
  rw [State.atTarget_iff, State.updateSetpoints_channels]
  refine forall₂_congr fun c member => ?_
  have output := s.updateSetpoints_output c
  have target : s.updateSetpoints.targetOf s.updateDemand c = s.updateGenerator.targetOf s.updateDemand c := rfl
  unfold State.outputOf at output
  simp only [channels, outputs, s.updateGenerator_zones, member, reloading] at output
  rw [output, target]
  exact moveToward_eq_iff

/-- ZONE_RAMP_COMPLETE is the update that turns the zone. -/
theorem State.rampCompletes_iff :
    s.rampCompletes z = true ↔ s.zones[z].state ≠ s.updateSetpoints.arrivesAt s.updateDemand z := by
  have zones := s.updateSetpoints_zones
  simp only [State.rampCompletes, State.arrivesAt, zones, Bool.or_eq_true, Bool.and_eq_true, beq_iff_eq]
  split
  · next unloads => exact iff_of_true (.inl unloads) (by rw [unloads.1]; decide)
  · next unloads =>
    split
    · next reloads => exact iff_of_true (.inr reloads) (by rw [reloads.1]; decide)
    · next reloads => exact iff_of_false (not_or.mpr ⟨unloads, reloads⟩) fun other => other rfl

/-! ### The update that completes a ramp -/

theorem State.Appends.commitAtBoundary (s : State) : s.Appends 1 s.commitAtBoundary := by
  unfold State.commitAtBoundary
  split
  · exact .of_record ((s.setActiveSet s.stagedSet).setCommit .none) _
  · exact .of_records

theorem State.updateGenerator_appends (s : State) : s.Appends 3 s.updateGenerator := by
  have advanced : s.Appends 2 s.commitNow.advance := (Appends.commitNow s).trans (.advance _)
  unfold State.updateGenerator
  dsimp only
  split
  · exact advanced.trans (.commitAtBoundary _)
  · exact advanced.mono

/-- An update that turns a zone makes its ZONE_CHANGE record and event, and resumes the generator where the demand goes (R136, R146). -/
theorem State.update_turns {after : ZoneState} (arrives : s.updateSetpoints.arrivesAt s.updateDemand z = after)
    (turns : s.zones[z].state ≠ after) :
    (s.updateSetpoints.arrive s.updateDemand).zones[z] = { s.zones[z] with state := after }
      ∧ (∀ q, s.update.holds q .zoneChange = true)
      ∧ (s.queue.records.length ≤ 110 → ∃ r ∈ s.update.queue.records, r.stamp = s.stamp
          ∧ r.cycle = (s.updateSetpoints.arrive s.updateDemand).gen.cycles ∧ r.body = .zoneChange z s.zones[z].state after)
      ∧ (s.gen.state = .paused → s.gen.requestedPause = false → (s.updateSetpoints.arrive s.updateDemand).pauseDemand = false →
          (s.updateSetpoints.arrive s.updateDemand).gen.state = .running) := by
  have zones := s.updateSetpoints_zones
  have turned := s.updateSetpoints.arrive_zone s.updateDemand z
  obtain ⟨v, post, eq, -, zone, keeps, appends, -⟩ := s.updateSetpoints.arrive_split s.updateDemand z
  rw [arrives] at eq turned
  have other : v.zones[z].state ≠ after := by rw [zone]; simpa only [zones] using turns
  have later {R : State → State → Prop} (h : Composes R) : R (v.changeZone z after false) s.update := by
    have report : R (v.changeZone z after false) (s.updateSetpoints.arrive s.updateDemand) := by
      rw [eq]
      exact h.toChains.foldl (fun s w => (h.lists false).arriveIn _ _ _) post _
    exact h.afterReport report
  refine ⟨by simpa only [zones] using turned, fun q => (later latches_composes).holds (by decide) (State.changeZone_holds other q),
    fun room => ?record, fun paused free none => ?resumes⟩
  case record =>
    have rest : Keeps v (s.updateSetpoints.arrive s.updateDemand) := by
      rw [eq]
      exact (Keeps.of_changeZone v z after false).trans ((⟨Keeps.refl, Keeps.trans⟩ : Chains Keeps).foldl (fun s w => by
        rw [State.arriveIn_eq]
        exact .of_changeZone _ _ _ _) post _)
    have cycles : v.gen.cycles = (s.updateSetpoints.arrive s.updateDemand).gen.cycles := by rw [rest.gen]
    have stamp : v.stamp = s.stamp := keeps.stamp.trans ((generates_of_field State.stamp).updateGenerator s)
    have few : v.queue.records.length ≤ s.queue.records.length + (3 + 6) :=
      (s.updateGenerator_appends.trans appends).length_le (by omega)
    have made := State.changeZone_records (z := z) (st := after) (late := false) (s := v) (by omega)
    rw [if_neg other] at made
    have noted : v.note 0#16 (.zoneChange z v.zones[z].state after) ∈ s.update.queue.records :=
      later retains_composes _ (made.subset (List.mem_append_right _ List.mem_cons_self)) rfl
    refine ⟨_, noted, stamp, cycles, ?_⟩
    simp only [State.note, zone, zones]
  case resumes =>
    have still : s.updateSetpoints.gen = s.gen := State.updateGenerator_gen_of_still (by rw [paused]; decide)
    refine State.arrive_resumes (z := z) (.inr (by rw [still, paused])) (by rw [still, free]) ?_ none
    rw [arrives]
    simpa only [zones] using turns
end

/-- Settles O32, by the zone's state and whether every member arrives. -/
theorem rampsCompleteOnTheReport : Obligations.RampsCompleteOnTheReport := by
  intro s z near arrives reported turned
  have zones := s.updateSetpoints_zones
  have whole := s.updateSetpoints.arrive_zone s.updateDemand z
  have ramp (b : Bool) (h : s.rampCompletes z = b) : exec (.zoneRampComplete z) s = .next (s.updateIf b) := by
    rw [← h]
    rfl
  have turns {after : ZoneState} (at_ : s.updateSetpoints.arrivesAt s.updateDemand z = after) (other : s.zones[z].state ≠ after) :
      turned s.update after := by
    obtain ⟨zone, holds, record, resumes⟩ := State.update_turns at_ other
    have run := (ramp true (State.rampCompletes_iff.mpr (by rwa [at_]))).trans (congrArg Host.Outcome.next (if_pos rfl))
    dsimp only [turned, reported]
    exact ⟨run, zone, holds, record, resumes⟩
  have stays (at_ : s.updateSetpoints.arrivesAt s.updateDemand z = s.zones[z].state) :
      reported.zones[z] = s.zones[z] ∧ exec (.zoneRampComplete z) s = .next s := by
    refine ⟨?_, ramp false (Bool.eq_false_iff.mpr fun h => State.rampCompletes_iff.mp h at_.symm)⟩
    rw [whole, at_]
    simp only [zones]
  have plain (carries : s.gen.carries = false) : s.update = s.updateSetpoints.arrive s.updateDemand := if_neg (by rw [carries]; decide)
  refine ⟨s.update, rfl, plain, fun carries => State.update_of_carry carries, fun unloading all => ?unloads,
    fun reloading all => ?reloads, fun c member away => ?away, fun notUnloading notReloading => ?other⟩
  case unloads =>
    refine turns ?_ (by rw [unloading]; decide)
    have arrived := (State.unloads_iff unloading).mpr fun c member => (all c member).1 unloading
    rw [State.arrivesAt, if_pos ⟨by rw [zones]; exact unloading, arrived⟩]
  case reloads =>
    refine turns ?_ (by rw [reloading]; decide)
    have arrived := (State.reloads_iff reloading).mpr fun c member => (all c member).2 reloading
    rw [State.arrivesAt, if_neg (by rw [zones, reloading]; exact fun h => absurd h.1 (by decide)),
      if_pos ⟨by rw [zones]; exact reloading, arrived⟩]
  case away =>
    refine stays ?_
    rw [State.arrivesAt, if_neg, if_neg, zones]
    · rintro ⟨reloading, arrived⟩
      rw [zones] at reloading
      exact away ⟨fun unloading => absurd (unloading.symm.trans reloading) (by decide),
        fun _ => (State.reloads_iff reloading).mp arrived c member⟩
    · rintro ⟨unloading, arrived⟩
      rw [zones] at unloading
      exact away ⟨fun _ => (State.unloads_iff unloading).mp arrived c member,
        fun reloading => absurd (unloading.symm.trans reloading) (by decide)⟩
  case other =>
    refine stays ?_
    rw [State.arrivesAt, if_neg (by rw [zones]; exact fun h => notUnloading h.1),
      if_neg (by rw [zones]; exact fun h => notReloading h.1), zones]

end Sys2Proof.Machine


/-! The reads (R20, R37, R63, R92, R113, R124, R148, R156): each is answered OK with the bytes of its answer, which are those of the
shared blocks of section 10.4 one after another, and leaves the part as it stands. -/
namespace Sys2Proof.Machine

/-! ### Parts of a run of equal blocks -/

/-- Block k of a run of blocks of one length stands n·k bytes in. -/
theorem block_of_flatMap {α β : Type} {f : α → List β} {n : Nat} (h : ∀ x, (f x).length = n) {l : List α} {k : Nat} {a : α}
    (at_ : l[k]? = some a) (rest : List β) : ((l.flatMap f ++ rest).drop (n * k)).take n = f a := by
  induction l generalizing k with
  | nil => simp at at_
  | cons x xs ih =>
    cases k with
    | zero =>
      obtain rfl : x = a := by simpa using at_
      rw [List.flatMap_cons, Nat.mul_zero, List.drop_zero, List.append_assoc]
      exact List.take_left' (h x)
    | succ k =>
      rw [List.flatMap_cons, List.append_assoc, Nat.mul_succ, Nat.add_comm, ← List.drop_drop, List.drop_left' (h x)]
      exact ih (by simpa using at_)

/-- Two ascending lists of the same numbers are one. -/
theorem eq_of_ascends {l l' : List Nat} (h : l.Pairwise (· < ·)) (h' : l'.Pairwise (· < ·)) (same : ∀ n, n ∈ l ↔ n ∈ l') : l = l' :=
  List.Perm.eq_of_pairwise (fun _ _ _ _ less more => absurd more (Nat.lt_asymm less)) h h'
    ((List.perm_ext_iff_of_nodup (h.imp Nat.ne_of_lt) (h'.imp Nat.ne_of_lt)).mpr same)

/-- The gauges from `first` are `first`, `first` + 1 and so on: two ascending lists of the same numbers. -/
theorem gaugeRange_eq {first count : Nat} (within : first + count ≤ 64) :
    (gaugeRange first count).map Fin.val = List.range' first count := by
  have ascends : ((gaugeRange first count).map Fin.val).Pairwise (· < ·) :=
    List.pairwise_map.mpr ((List.pairwise_lt_finRange 64).filter _)
  refine eq_of_ascends ascends (List.pairwise_lt_range' 1) fun n => ?_
  simp only [gaugeRange, List.mem_map, List.mem_filter, List.mem_finRange, List.mem_range'_1, true_and, Bool.and_eq_true,
    decide_eq_true_eq]
  exact ⟨fun ⟨g, inside, eq⟩ => eq ▸ inside, fun inside => ⟨⟨n, by omega⟩, inside, rfl⟩⟩

theorem length_gaugeRange {first count : Nat} (within : first + count ≤ 64) : (gaugeRange first count).length = count := by
  rw [← List.length_map Fin.val, gaugeRange_eq within, List.length_range']

theorem gaugeRange_getElem? {first count k : Nat} {g : Fin 64} (within : first + count ≤ 64) (low : k < count)
    (named : g.val = first + k) : (gaugeRange first count)[k]? = some g := by
  have place : ((gaugeRange first count).map Fin.val)[k]? = some g.val := by
    rw [gaugeRange_eq within, named, List.getElem?_range' (by omega), Nat.one_mul]
  obtain ⟨x, found, eq⟩ := by simpa only [List.getElem?_map, Option.map_eq_some_iff] using place
  rw [found, Fin.ext eq]

/-! ### The bytes of the blocks -/

theorem flagByte_two (a b : Bool) : flagByte [a, b] = BitVec.ofNat 8 (a.toNat + 2 * b.toNat) := by
  revert a b
  decide

theorem flagByte_seven (a b c d e f g : Bool) :
    flagByte [a, b, c, d, e, f, g] = BitVec.ofNat 8 (a.toNat + 2 * b.toNat + 4 * c.toNat + 8 * d.toNat + 16 * e.toNat
      + 32 * f.toNat + 64 * g.toNat) := by
  revert a b c d e f g
  decide

@[simp] theorem length_opt3 (x : Option Raw24) : (opt3 x).length = 4 := by
  cases x
  case none => rfl
  case some => rfl

theorem Gauge.length_bytes (g : Fin 64) (x : Gauge) : (x.bytes g).length = 45 := by
  simp [Gauge.bytes, GaugeConfig.bytes, bytes2, bytes3]

theorem Record.isSnapshot_eq : Record.isSnapshot = fun r => r.body.kindCode == 0x01#8 := by
  funext ⟨_, _, _, body⟩
  cases body <;> rfl

theorem FrameRec.length_bytes (f : Fin 4) (x : FrameRec) : (x.bytes f).length = 14 := by simp [FrameRec.bytes, bytes2]

theorem GaugeConfig.length_bytes (g : Fin 64) (x : GaugeConfig) : (x.bytes g).length = 24 := by
  simp [GaugeConfig.bytes, bytes2, bytes3]

theorem Crack.length_bytes (i : Fin 16) (x : Crack) : (x.bytes i).length = 13 := by simp [Crack.bytes, bytes2]

theorem Entry.length_bytes (e : Entry) : e.bytes.length = 24 := by
  simp [Entry.bytes, Source.bytes, bytes2, bytes4, bytes5]

theorem Supervision.length_bytes (v : Supervision) : v.bytes.length = 11 := by
  simp [Supervision.bytes]

theorem State.length_crackInputs (s : State) :
    ((List.finRange 16).flatMap fun i => s.cracks[i].bytes i).length = 208 :=
  length_flatMap_of_constant (fun i => Crack.length_bytes i s.cracks[i]) _

/-! ### The requests -/

section
variable {p : PortId} {s : State}

theorem exec_readGenerator : exec (.readGenerator p) s = .next (s.answer p 0x18#8 0#16 .ok s.generatorBytes) :=
  congrArg Host.Outcome.next (State.serve_ok (r := .readGenerator) (n := 0) rfl rfl)

theorem exec_readChannel_of_channel {c : Fin 8} {b : Byte} (h : b.toNat = c.val) :
    exec (.readChannel p b) s = .next (s.answer p 0x21#8 1#16 .ok (s.channelBytes c)) :=
  congrArg Host.Outcome.next (State.serve_ok (r := .readChannel) (n := 1) rfl (by rw [index?_of_toNat_eq h]))

theorem exec_readChannel_of_range {b : Byte} (h : 8 ≤ b.toNat) :
    exec (.readChannel p b) s = .next (s.answer p 0x21#8 1#16 .range []) :=
  congrArg Host.Outcome.next (State.serve_refused (r := .readChannel) (n := 1) rfl (by rw [index?_of_le h]))

theorem exec_readFrame_of_frame {f : Fin 4} {b : Byte} (h : b.toNat = f.val) :
    exec (.readFrame p (some b)) s = .next (s.answer p 0x33#8 1#16 .ok (s.frameBytes f)) :=
  congrArg Host.Outcome.next (State.serve_ok (r := .readFrame) (n := 1) rfl (by simp only [index?_of_toNat_eq h]))

theorem exec_readFrame_of_range {b : Byte} (h : 4 ≤ b.toNat) :
    exec (.readFrame p (some b)) s = .next (s.answer p 0x33#8 1#16 .range []) :=
  congrArg Host.Outcome.next (State.serve_refused (r := .readFrame) (n := 1) rfl (by simp only [index?_of_le h]))

theorem exec_readFrame_own (f : Fin 4) :
    exec (.readFrame (.frame f) none) s = .next (s.answer (.frame f) 0x33#8 0#16 .ok (s.frameBytes f)) :=
  congrArg Host.Outcome.next (State.serve_ok (r := .readFrame) (n := 0) rfl rfl)

theorem exec_readFrame_of_conflict (h : p = .director ∨ p = .logger) :
    exec (.readFrame p none) s = .next (s.answer p 0x33#8 0#16 .conflict []) := by
  obtain rfl | rfl := h
  · exact congrArg Host.Outcome.next (State.serve_refused (r := .readFrame) (n := 0) rfl rfl)
  · exact congrArg Host.Outcome.next (State.serve_refused (r := .readFrame) (n := 0) rfl rfl)

theorem exec_readGauges_of_range {first count : Byte}
    (h : 63 < first.toNat ∨ count = 0#8 ∨ 64 < first.toNat + count.toNat) :
    exec (.readGauges p first count) s = .next (s.answer p 0x42#8 2#16 .range []) :=
  congrArg Host.Outcome.next (State.serve_refused (r := .readGauges) (n := 2) rfl
    (if_pos (h.imp_right (Or.imp_left (congrArg BitVec.toNat)))))

theorem exec_readGauges_of_within {first count : Byte} (low : first.toNat ≤ 63) (some : 1 ≤ count.toNat)
    (within : first.toNat + count.toNat ≤ 64) :
    exec (.readGauges p first count) s = .next (s.answer p 0x42#8 2#16 .ok
      ((gaugeRange first.toNat count.toNat).flatMap fun g => s.gauges[g].bytes g)) :=
  congrArg Host.Outcome.next (State.serve_ok (r := .readGauges) (n := 2) rfl (if_neg (by omega)))

theorem exec_readCrack : exec (.readCrack p) s = .next (s.answer p 0x4A#8 0#16 .ok s.crackBytes) :=
  congrArg Host.Outcome.next (State.serve_ok (r := .readCrack) (n := 0) rfl rfl)

theorem exec_readZone_of_zone {z : Fin 4} {b : Byte} (h : b.toNat = z.val) :
    exec (.readZone p b) s = .next (s.answer p 0x53#8 1#16 .ok (s.zoneBytes z)) :=
  congrArg Host.Outcome.next (State.serve_ok (r := .readZone) (n := 1) rfl (by rw [index?_of_toNat_eq h]))

theorem exec_readZone_of_range {b : Byte} (h : 4 ≤ b.toNat) :
    exec (.readZone p b) s = .next (s.answer p 0x53#8 1#16 .range []) :=
  congrArg Host.Outcome.next (State.serve_refused (r := .readZone) (n := 1) rfl (by rw [index?_of_le h]))

theorem exec_readQueue : exec (.readQueue p) s =
    .next ((s.setQueue { s.queue with lost := s.queue.lost && p != .logger }).answer p 0x64#8 0#16 .ok s.queue.bytes) := by
  refine congrArg Host.Outcome.next (State.serve_ok (r := .readQueue) (n := 0) rfl (congrArg (fun t => Except.ok (t, _)) ?_))
  by_cases logger : p = .logger
  · simp [logger]
  · have other : (p != .logger) = true := bne_iff_ne.mpr logger
    rw [if_neg logger, other, Bool.and_true]
    rfl
end

/-- Settles O19, by each request's own lemma and the names of the blocks its answer is made of. -/
theorem readsAnswerAndChangeNothing : Obligations.ReadsAnswerAndChangeNothing := by
  intro p s opt setpoint entryBytes byte two three supervised protection frameRecord gaugeConfig gaugeEntry crackInput
    current block kind remaining
  have opt_eq : opt = opt2 := by funext x; cases x <;> rfl
  clear_value opt
  subst opt_eq
  have two_eq : two = fun a b => flagByte [a, b] := by funext a b; exact (flagByte_two a b).symm
  clear_value two
  subst two_eq
  have three_eq : three = fun a b c => flagByte [a, b, c] := by funext a b c; exact (flagByte_three a b c).symm
  clear_value three
  subst three_eq
  have setpoint_eq : setpoint = s.setpoint? := rfl
  clear_value setpoint
  subst setpoint_eq
  have byte_eq : byte = byteOf := rfl
  clear_value byte
  subst byte_eq
  have protection_eq : protection = Channel.bytes := rfl
  clear_value protection
  subst protection_eq
  have frame_eq : frameRecord = FrameRec.bytes := rfl
  clear_value frameRecord
  subst frame_eq
  have supervised_eq : supervised = fun c => s.supervision[c].bytes := rfl
  clear_value supervised
  subst supervised_eq
  have crack_eq : crackInput = Crack.bytes := rfl
  clear_value crackInput
  subst crack_eq
  have entry_eq : entryBytes = Entry.bytes := by funext e; simp [entryBytes, Entry.bytes, Source.bytes, byteOf]
  clear_value entryBytes
  subst entry_eq
  have config_eq : gaugeConfig = GaugeConfig.bytes := rfl
  clear_value gaugeConfig
  subst config_eq
  have gauge_eq : gaugeEntry = Gauge.bytes := by
    funext g x
    simp only [gaugeEntry, Gauge.bytes, GaugeRun.flags, flagByte_seven]
    cases x.run.lastRaw <;> cases x.run.last <;> cases x.run.baseline <;> simp [opt3, extremeBytes, bytes2_zero, byteOf]
  clear_value gaugeEntry
  subst gauge_eq
  have current_eq : current = blockIndex s.gen.current := by
    simp only [current]
    cases s.gen.current <;> rfl
  clear_value current
  subst current_eq
  refine ⟨⟨?gen, ?genLength⟩, fun c b h => ⟨exec_readChannel_of_channel h, ?chLength⟩,
    fun f b h => ⟨exec_readFrame_of_frame h, exec_readFrame_own f, ?frLength⟩, fun first count low some within => ?gauges,
    ⟨_, exec_readCrack, ?crLength, ?crack, ?stop⟩, fun z b h => ?zone,
    ⟨?queue, ?queueLength⟩, fun b => exec_readChannel_of_range,
    fun b h => ⟨exec_readFrame_of_range h, exec_readZone_of_range h⟩, exec_readFrame_of_conflict,
    fun first count => exec_readGauges_of_range, fun c x => ?protection, fun f x => ?frame, fun g x => ?config, fun i x => ?input,
    rfl, rfl, rfl, rfl, rfl, rfl, rfl, rfl, rfl, fun z f i g c => rfl, rfl, rfl, rfl, rfl, rfl, rfl, rfl⟩
  case protection => exact ⟨rfl, x.length_bytes c⟩
  case frame => exact ⟨rfl, x.length_bytes f⟩
  case config => exact ⟨rfl, x.length_bytes g⟩
  case input => exact ⟨rfl, x.length_bytes i⟩
  case gen =>
    refine exec_readGenerator.trans (congrArg (fun bytes => Host.Outcome.next (s.answer p 0x18#8 0#16 .ok bytes)) ?_)
    simp only [State.generatorBytes, Generator.currentBlock, Generator.sineIndex, kind, remaining, block]
    cases s.gen.current with
    | none => rfl
    | some i =>
      simp only [Option.map_some]
      cases s.gen.program[i] <;> rfl
  case genLength => simp [bytes2, bytes4, bytes5]
  case chLength => simp [bytes2, Channel.length_bytes]
  case frLength => simp [FrameRec.length_bytes, Supervision.length_bytes]
  case gauges =>
    refine ⟨_, exec_readGauges_of_within low some within, ?_, fun k g below named => ?_⟩
    · rw [length_flatMap_of_constant fun g => Gauge.length_bytes g _, length_gaugeRange within]
    · simpa using block_of_flatMap (fun g => Gauge.length_bytes g s.gauges[g]) (gaugeRange_getElem? within below named) []
  case crLength => rw [State.crackBytes, List.length_append, s.length_crackInputs]; rfl
  case crack => exact fun i => block_of_flatMap (fun i => Crack.length_bytes i s.cracks[i]) (by simp) _
  case stop => exact List.drop_left' s.length_crackInputs
  case zone =>
    have named : b = byteOf z.val := by rw [← h]; simp [byteOf]
    refine ⟨(exec_readZone_of_zone h).trans (by rw [State.zoneBytes, ← named]; rfl), ?_⟩
    simp only [List.length_append, List.length_map, List.length_cons, List.length_nil, bytes2,
      length_flatMap_of_constant Entry.length_bytes]
    omega
  case queue =>
    refine exec_readQueue.trans ?_
    rw [Queue.bytes, Record.isSnapshot_eq]
    rfl
  case queueLength => simp [bytes2]

end Sys2Proof.Machine


/-! O18: REINIT (R15): the RESTART entries under consecutive tags, their records in order, and the defaults around them. -/
namespace Sys2Proof.Machine

/-! ### Records made one after another -/

/-- Two parts make the same records with the same numbers, and drop and evict the same: what the records, the numbering, the LOST
flag, the time stamp and the cycle counter decide. -/
structure State.LogsLike (s t : State) : Prop where
  records : t.queue.records = s.queue.records
  nextSeq : t.queue.nextSeq = s.queue.nextSeq
  lost : t.queue.lost = s.queue.lost
  stamp : t.stamp = s.stamp
  cycles : t.gen.cycles = s.gen.cycles

theorem Queue.offer_log {q u : Queue} (records : u.records = q.records) (lost : u.lost = q.lost) (r : Record) :
    (u.offer r).records = (q.offer r).records ∧ (u.offer r).lost = (q.offer r).lost := by
  unfold Queue.offer Queue.admits
  rw [records]
  split
  · exact ⟨rfl, lost⟩
  · split <;> exact ⟨by simp only [records], rfl⟩

theorem State.LogsLike.record {s t : State} (h : s.LogsLike t) (b : Body) : (s.record b).LogsLike (t.record b) := by
  have made : ({ seq := t.queue.nextSeq, stamp := t.stamp, cycle := t.gen.cycles, body := b } : Record) =
      { seq := s.queue.nextSeq, stamp := s.stamp, cycle := s.gen.cycles, body := b } := by rw [h.nextSeq, h.stamp, h.cycles]
  obtain ⟨records, lost⟩ := Queue.offer_log (q := { s.queue with nextSeq := s.queue.nextSeq + 1#16 })
    (u := { t.queue with nextSeq := t.queue.nextSeq + 1#16 }) h.records h.lost
    { seq := s.queue.nextSeq, stamp := s.stamp, cycle := s.gen.cycles, body := b }
  rw [← made] at records lost
  refine ⟨records.trans ?_, ?_, lost.trans ?_, h.stamp, h.cycles⟩
  · rw [made]; rfl
  · rw [State.record_nextSeq, State.record_nextSeq, h.nextSeq]
  · rw [made]; rfl

theorem State.LogsLike.foldl_record {s t : State} (h : s.LogsLike t) (l : List Body) :
    (l.foldl State.record s).LogsLike (l.foldl State.record t) := by
  induction l generalizing s t with
  | nil => exact h
  | cons b l ih => exact ih (h.record b)

theorem State.foldl_record_nextSeq (l : List Body) (s : State) :
    (l.foldl State.record s).queue.nextSeq = s.queue.nextSeq + BitVec.ofNat 16 l.length := by
  induction l generalizing s with
  | nil => exact (BitVec.add_zero _).symm
  | cons b l ih =>
    rw [List.foldl_cons, ih, State.record_nextSeq, List.length_cons, BitVec.add_assoc, Nat.add_comm, BitVec.ofNat_add]

theorem State.record_note (s : State) (b c : Body) (k : Half) : (s.record b).note k c = s.note (1#16 + k) c := by
  rw [State.note, State.note, State.record_nextSeq, BitVec.add_assoc]
  rfl

theorem State.foldl_record_records {l : List Body} {s : State} (room : s.queue.records.length + l.length ≤ 128) :
    (l.foldl State.record s).queue.records = s.queue.records ++ l.mapIdx fun k b => s.note (BitVec.ofNat 16 k) b := by
  induction l generalizing s with
  | nil => simp
  | cons b l ih =>
    have room : s.queue.records.length + l.length < 128 := room
    have made := State.record_noted (s := s) (by omega) b
    rw [List.foldl_cons, ih (by rw [made]; simp; omega), made, List.mapIdx_cons, List.append_assoc]
    simp only [State.record_note, List.singleton_append, BitVec.ofNat_add, BitVec.add_comm]

theorem State.record_lost_of_room {s : State} (room : s.queue.records.length < 128) (b : Body) :
    (s.record b).queue.lost = s.queue.lost := by
  have offer := Queue.offer_of_room (q := { s.queue with nextSeq := s.queue.nextSeq + 1#16 }) room
    { seq := s.queue.nextSeq, stamp := s.stamp, cycle := s.gen.cycles, body := b }
  exact (congrArg Queue.lost offer :)

theorem State.foldl_record_lost {l : List Body} {s : State} (room : s.queue.records.length + l.length ≤ 128) :
    (l.foldl State.record s).queue.lost = s.queue.lost := by
  induction l generalizing s with
  | nil => rfl
  | cons b l ih =>
    have room : s.queue.records.length + l.length < 128 := room
    rw [List.foldl_cons, ih (by rw [State.record_noted (by omega)]; simp; omega), State.record_lost_of_room (by omega)]

/-! ### The RESTART entries and their tags (R15, step 3) -/

/-- The part while REINIT enters the RESTART entries: the first k zones hold theirs, under consecutive tags. -/
structure State.Restarting (s : State) (first : Half) (k : Nat) (t : State) : Prop where
  stamp : t.stamp = s.stamp
  cycles : t.gen.cycles = s.gen.cycles
  zones : ∀ z : Fin 4, t.zones[z] = Zone.dumpedWith
    (if z.val < k then [restartEntry z (Nat.repeat succTag z.val first) s.stamp s.gen.cycles] else [])

/-- A tag counter that is not 0 and in no list is the next tag. -/
theorem State.nextTag_of_free {s : State} (nonzero : s.tagCounter ≠ 0#16) (free : s.tagCounter ∉ s.usedTags) :
    s.nextTag = s.tagCounter :=
  if_neg (not_or.mpr ⟨nonzero, free⟩)

theorem repeat_succTag_ne_zero {first : Half} (nonzero : first ≠ 0#16) (k : Nat) : Nat.repeat succTag k first ≠ 0#16 := by
  intro zero
  have value := repeat_succTag_toNat nonzero k
  rw [zero] at value
  simp at value

namespace State.Restarting
variable {s t : State} {first : Half} {k : Nat}

theorem nextTag (h : s.Restarting first k t) (lt : k < 4) (nonzero : first ≠ 0#16)
    (counter : t.tagCounter = Nat.repeat succTag k first) : t.nextTag = Nat.repeat succTag k first := by
  rw [← counter]
  refine State.nextTag_of_free (counter ▸ repeat_succTag_ne_zero nonzero k) fun used => ?_
  obtain ⟨z, mem⟩ := State.mem_usedTags.mp used
  rw [Zone.tags, h.zones z, counter] at mem
  split at mem
  · next below =>
    have same : Nat.repeat succTag k first = Nat.repeat succTag z.val first := by simpa [Zone.dumpedWith, restartEntry] using mem
    exact Nat.ne_of_gt below (repeat_succTag_inj (by omega) (by omega) same)
  · simp [Zone.dumpedWith] at mem

theorem restartZone (h : s.Restarting first k t) {z : Fin 4} (named : z.val = k)
    (tag : t.nextTag = Nat.repeat succTag k first) :
    s.Restarting first (k + 1) (t.restartZone z) ∧ (t.restartZone z).tagCounter = Nat.repeat succTag (k + 1) first := by
  refine ⟨⟨h.stamp, h.cycles, fun w => ?_⟩, congrArg succTag tag⟩
  rw [State.restartZone_zones, State.updZone_get, tag, h.stamp, h.cycles]
  split
  · next same =>
    subst same
    rw [h.zones]
    simp [named, Zone.dumpedWith]
  · next other =>
    have apart : w.val ≠ k := fun eq => other (Fin.ext (by omega))
    rw [h.zones w]
    simp only [Nat.lt_succ_iff, Nat.lt_iff_le_and_ne, apart, ne_eq, not_false_eq_true, and_true]

/-- From empty lists, the four zones take four consecutive tags. -/
theorem allZones (h : s.Restarting first 0 t) (nonzero : first ≠ 0#16) (tag : t.nextTag = first) :
    s.Restarting first 4 (allZones.foldl State.restartZone t)
      ∧ (allZones.foldl State.restartZone t).tagCounter = Nat.repeat succTag 4 first := by
  obtain ⟨one, counter⟩ := h.restartZone (z := 0) rfl tag
  obtain ⟨two, counter⟩ := one.restartZone (z := 1) rfl (one.nextTag (by decide) nonzero counter)
  obtain ⟨three, counter⟩ := two.restartZone (z := 2) rfl (two.nextTag (by decide) nonzero counter)
  exact three.restartZone (z := 3) rfl (three.nextTag (by decide) nonzero counter)
end State.Restarting

/-- The first tag REINIT takes: the tag counter, or 1 where that is 0. -/
def State.firstTag (s : State) : Half := if s.tagCounter = 0#16 then 1#16 else s.tagCounter

theorem State.firstTag_ne_zero (s : State) : s.firstTag ≠ 0#16 := by
  unfold State.firstTag
  split
  · decide
  · assumption

theorem State.defaults_restarting (s : State) : s.Restarting s.firstTag 0 s.defaults :=
  ⟨rfl, rfl, fun z => by simp [State.defaults]⟩

theorem State.defaults_nextTag (s : State) : s.defaults.nextTag = s.firstTag := by
  have used : s.defaults.usedTags = [] := rfl
  have counter : s.defaults.tagCounter = s.tagCounter := rfl
  unfold State.nextTag State.firstTag
  rw [used, counter]
  by_cases zero : s.tagCounter = 0#16
  · rw [zero]; rfl
  · rw [if_neg zero]
    exact if_neg (by simp [zero])

/-- The RESTART entries of the four zones. -/
theorem State.entered_restarting (s : State) :
    s.Restarting s.firstTag 4 (allZones.foldl State.restartZone s.defaults)
      ∧ (allZones.foldl State.restartZone s.defaults).tagCounter = Nat.repeat succTag 4 s.firstTag :=
  s.defaults_restarting.allZones s.firstTag_ne_zero s.defaults_nextTag

/-! ### The records (R15, step 4) -/

/-- The records of one zone, given the tag of its RESTART entry and its state before REINIT. -/
def restartBodies (tag : Half) (before : ZoneState) (z : Fin 4) : List Body :=
  .alarmRaised z tag (.restart z) .dumpZone 1#8 .dumped :: (if before = .dumped then [] else [.zoneChange z before .dumped])

theorem State.restartRecords_eq (s : State) (z : Fin 4) (before : ZoneState) :
    s.restartRecords z before = (restartBodies s.zones[z].restartTag before z).foldl State.record s := by
  unfold State.restartRecords restartBodies
  dsimp only
  split <;> rfl

theorem State.foldl_restartRecords_eq (before : Fin 4 → ZoneState) (l : List (Fin 4)) (t : State) :
    l.foldl (fun t z => t.restartRecords z (before z)) t =
      (l.flatMap fun z => restartBodies t.zones[z].restartTag (before z) z).foldl State.record t := by
  induction l generalizing t with
  | nil => rfl
  | cons z l ih =>
    rw [List.foldl_cons, ih, List.flatMap_cons, List.foldl_append, State.restartRecords_zones, State.restartRecords_eq]

/-- The records REINIT makes, in order. -/
def State.restartLog (s : State) : List Body :=
  allZones.flatMap fun z => restartBodies (Nat.repeat succTag z.val s.firstTag) s.zones[z].state z

theorem State.restarted_log (s : State) :
    s.restarted = s.restartLog.foldl State.record (allZones.foldl State.restartZone s.defaults) := by
  rw [State.restarted, State.foldl_restartRecords_eq, State.restartLog]
  refine congrArg (List.foldl State.record _) (congrArg (List.flatMap · allZones) (funext fun z => ?_))
  rw [s.entered_restarting.1.zones z, if_pos z.isLt]
  rfl

theorem State.restartLog_length (s : State) :
    s.restartLog.length = 4 + (allZones.filter fun z => s.zones[z].state != .dumped).length := by
  have counted (l : List (Fin 4)) :
      (l.flatMap fun z => restartBodies (Nat.repeat succTag z.val s.firstTag) s.zones[z].state z).length =
        l.length + (l.filter fun z => s.zones[z].state != .dumped).length := by
    induction l with
    | nil => rfl
    | cons z l ih =>
      rw [List.flatMap_cons, List.length_append, ih, List.filter_cons]
      by_cases dumped : s.zones[z].state = .dumped
      · rw [restartBodies, if_pos dumped, if_neg (by rw [dumped]; decide), List.length_singleton, List.length_cons]
        omega
      · rw [restartBodies, if_neg dumped, if_pos (bne_iff_ne.mpr dumped)]
        simp only [List.length_cons, List.length_nil]
        omega
  exact counted allZones

theorem State.restartLog_length_le (s : State) : s.restartLog.length ≤ 8 := by
  have := List.length_filter_le (fun z => s.zones[z].state != .dumped) allZones
  have : allZones.length = 4 := rfl
  rw [s.restartLog_length]
  omega

/-- REINIT makes its records as the part before it would. -/
theorem State.reinit_logs (s : State) : (s.restartLog.foldl State.record s).LogsLike s.restarted := by
  have entered : s.LogsLike (allZones.foldl State.restartZone s.defaults) := ⟨rfl, rfl, rfl, rfl, rfl⟩
  rw [State.restarted_log]
  exact entered.foldl_record _

theorem State.foldl_record_tagCounter (l : List Body) (s : State) :
    (l.foldl State.record s).tagCounter = s.tagCounter := by
  induction l generalizing s with
  | nil => rfl
  | cons b l ih => exact ih (s.record b)

/-! ### The part REINIT leaves -/

theorem State.reinit_zones_first (s : State) :
    s.reinit.zones = Vector.ofFn fun z : Fin 4 =>
      { State.reset.zones[z] with
        entries := [restartEntry z (Nat.repeat succTag z.val s.firstTag) s.stamp s.gen.cycles] } := by
  rw [State.reinit_zones_eq]
  refine Vector.ext fun i lt => ?_
  have zone := s.entered_restarting.1.zones ⟨i, lt⟩
  rw [if_pos lt] at zone
  have reset : State.reset.zones[(⟨i, lt⟩ : Fin 4)] = Zone.reset ⟨i, lt⟩ := Vector.getElem_ofFn _
  rw [Vector.getElem_ofFn, reset]
  exact zone

theorem State.restartEvents_tagCounter (s : State) : s.restartEvents.tagCounter = s.tagCounter := rfl

theorem State.reinit_tagCounter (s : State) : s.reinit.tagCounter = Nat.repeat succTag 4 s.firstTag := by
  rw [State.reinit_eq, State.restartEvents_tagCounter, State.restarted_log, State.foldl_record_tagCounter]
  exact s.entered_restarting.2

/-- REINIT leaves the load sets at their reset values, and nothing armed. -/
theorem State.reinit_sets (s : State) :
    s.reinit.outputs = State.reset.outputs ∧ s.reinit.activeSet = State.reset.activeSet
      ∧ s.reinit.stagedSet = State.reset.stagedSet ∧ s.reinit.commit = .none ∧ s.reinit.stamp = s.stamp := by
  rw [State.reinit_eq, State.restarted_eq]
  exact ⟨rfl, rfl, rfl, rfl, rfl⟩

theorem State.reinit_latched (s : State) (q : Fin 6) :
    s.reinit.ports[q].latched = Event.restart.bit ∧ s.reinit.ports[q].mask = 0#7 := by
  simp [State.reinit_eq, State.restartEvents]

theorem exec_reinit_of_executing {s : State} (h : s.gen.executing = true) :
    exec (.reinit .director) s = .next (s.answer .director 0x0E#8 0#16 .state []) :=
  congrArg Host.Outcome.next (State.serve_refused (r := .reinit) (n := 0) rfl (if_pos h))

theorem exec_reinit_of_resting {s : State} (h : s.gen.executing = false) :
    exec (.reinit .director) s = .next (s.reinit.answer .director 0x0E#8 0#16 .ok []) :=
  congrArg Host.Outcome.next (State.serve_ok (r := .reinit) (n := 0) rfl (if_neg (by simp [h])))

/-- Settles O18, by the four consecutive tags, the records made one after another, and the defaults around them. -/
theorem reinitRestoresTheDefaults : Obligations.ReinitRestoresTheDefaults := by
  refine fun s => ⟨fun executing => exec_reinit_of_executing (by simp [Generator.executing, executing]), fun resting => ?_⟩
  have resting : s.gen.executing = false := by obtain h | h := resting <;> simp [Generator.executing, h]
  obtain ⟨channels, supervision, frames, gauges, cracks, stopLine, -⟩ := s.reinit_blocks
  obtain ⟨outputs, activeSet, stagedSet, commit, stamp⟩ := s.reinit_sets
  have logs := s.reinit_logs
  have few := s.restartLog_length_le
  refine ⟨_, exec_reinit_of_resting resting, State.answer_answerOf .., stamp, s.reinit_gen, channels, outputs, supervision,
    activeSet, stagedSet, commit, frames, gauges, cracks, stopLine, s.reinit_stopHold,
    ⟨s.reinit_zones_first, s.reinit_tagCounter, logs.records, logs.lost, ?next, fun room => ?records⟩, ?nextSeq,
    ⟨?on, ?off, ?interval, ?auto, ?suspended, rfl⟩, fun room => ⟨?lost, ?kept⟩, fun q => ⟨?status, ?mask⟩,
    fun q other => ?window⟩
  case next => exact logs.nextSeq.trans (State.foldl_record_nextSeq _ _)
  case records => exact logs.records.trans (State.foldl_record_records (by omega))
  case nextSeq =>
    have next := logs.nextSeq.trans (State.foldl_record_nextSeq _ _)
    rw [s.restartLog_length, BitVec.ofNat_add, ← BitVec.add_assoc] at next
    exact next
  case on => exact (QueueKept.composes.restarted s).on
  case off => exact (QueueKept.composes.restarted s).off
  case interval => exact s.reinit_auto.2
  case auto => exact s.reinit_auto.1
  case suspended => exact congrArg (·.2.1) (settings_protects.restarted s)
  case lost => exact logs.lost.trans (State.foldl_record_lost (by omega))
  case kept => exact ⟨_, (logs.records.trans (State.foldl_record_records (by omega))).symm⟩
  case status =>
    rw [State.answer_eventStatus, State.eventStatus, (s.reinit_latched _).1]
    cases h : s.reinit.queue.logReady <;> simp [h, Event.bit]
  case mask => exact (s.reinit.answer_mask ..).trans (s.reinit_latched _).2
  case window => exact (congrArg Port.window (s.reinit.updPort_other .director q _ other.symm)).trans (s.reinit_window _)

end Sys2Proof.Machine


/-! O15: clocking the bytes of a request takes it (R2, R3, R165). A request does not read its own port's window, so the window the
bytes have moved is nothing to it. -/
namespace Sys2Proof.Machine

/-! ### The generator's requests and a replacement it does not read -/

section
variable {W : State → State} (h : Unread W) (s : State)
include h

theorem Unread.programRecord (i : Fin 64) (r : Reason) : (W s).programRecord i r = W (s.programRecord i r) := by
  simp only [State.programRecord, h.gen, h.setGen, h.record, h.addEvent]

theorem Unread.moveGenerator (st : GenState) (r : Reason) : (W s).moveGenerator st r = W (s.moveGenerator st r) := by
  simp only [State.moveGenerator, h.gen, h.setGen, h.programRecord]

theorem Unread.stopGenerator : (W s).stopGenerator = W s.stopGenerator := by
  simp only [State.stopGenerator, h.gen, h.setGen, h.programRecord]

theorem Unread.startProgram : (W s).startProgram = W s.startProgram := by
  have transition (s : State) (n : Nat) : (W s).transition n true false = W (s.transition n true false) := by
    unfold State.transition
    rw [h.gen]
    split <;> simp only [h.setGen, h.programRecord]
  simp only [State.startProgram, h.gen, h.setGen, transition]

theorem Unread.afterPause : (W s).afterPause = W s.afterPause := by
  unfold State.afterPause
  dsimp only
  rw [h.gen]
  by_cases running : s.gen.executing = true
  · simp only [if_pos running, h.setGen, h.gen, h.moveGenerator]
    split <;> rfl
  · simp only [if_neg running, h.gen, h.moveGenerator]
    split <;> rfl

theorem Unread.afterResume : (W s).afterResume = W s.afterResume := by
  unfold State.afterResume
  simp only [h.gen, h.setGen, h.pauseDemand, h.moveGenerator, apply_ite W]

theorem Unread.afterStop (m : StopMode) : (W s).afterStop m = W (s.afterStop m) := by
  simp only [State.afterStop, h.gen, h.setGen, h.stopGenerator, apply_ite W]

theorem Unread.afterAdvance : (W s).afterAdvance = W s.afterAdvance := by
  simp only [State.afterAdvance, h.gen, h.setGen, apply_ite W]

theorem Unread.replaceZone (z : Fin 4) (i : Bool) (u r : Half) : (W s).replaceZone z i u r = W (s.replaceZone z i u r) := by
  simp only [State.replaceZone, h.updZone, h.pauseDemand, h.syncPause, apply_ite W]
end

/-! ### The window -/

/-- No event is set or read through a window. -/
theorem Unread.of_setWindow (p : PortId) (w : Window) : Unread fun s => s.setWindow p w := by
  constructor
  case addEvent =>
    intro s e
    simp [State.addEvent, State.setWindow, State.updPort, State.setPorts, Vector.map_set]
  all_goals intros; rfl

theorem State.setWindow_answer (s : State) (p : PortId) (w : Window) (code : Byte) (length : Half) (res : Result)
    (body : List Byte) : (s.setWindow p w).answer p code length res body = s.answer p code length res body := by
  simp [State.answer, State.setWindow, State.updPort, State.setPorts]

section
variable (s : State) (p : PortId) (w : Window)

theorem State.setWindow_eventStatus (q : PortId) : (s.setWindow p w).eventStatus q = s.eventStatus q := by
  have latched : (s.setWindow p w).ports[portIndex q].latched = s.ports[portIndex q].latched :=
    State.updPort_keeps Port.latched (by intro; rfl) s p q
  exact State.eventStatus_congr latched rfl

theorem State.updPort_setWindow (g : Port → Port) (beside : ∀ q, g { q with window := w } = { g q with window := w }) :
    (s.setWindow p w).updPort p g = (s.updPort p g).setWindow p w := by
  simp [State.setWindow, State.updPort, State.setPorts, beside]

theorem State.clear_setWindow (x : Source) : (s.setWindow p w).clear x = (s.clear x).setWindow p w :=
  (Unread.of_setWindow p w).clear s x

theorem State.raise_setWindow (r : Raise) (own : List (Fin 4)) (d : Bool) :
    (s.setWindow p w).raise r own d = (s.raise r own d).setWindow p w :=
  (Unread.of_setWindow p w).raise s r own d

theorem State.updFrame_setWindow (f : Fin 4) (g : FrameRec → FrameRec) :
    (s.setWindow p w).updFrame f g = (s.updFrame f g).setWindow p w := rfl

theorem State.updSupervision_setWindow (c : Fin 8) (g : Supervision → Supervision) :
    (s.setWindow p w).updSupervision c g = (s.updSupervision c g).setWindow p w := rfl

/-! ### The frames' requests -/

theorem State.clearLate_setWindow (f : Fin 4) : (s.setWindow p w).clearLate f = (s.clearLate f).setWindow p w := by
  simp only [State.clearLate, State.setWindow_frames, State.updFrame_setWindow, State.clear_setWindow]
  split <;> rfl

theorem State.clearLost_setWindow (f : Fin 4) : (s.setWindow p w).clearLost f = (s.clearLost f).setWindow p w := by
  simp only [State.clearLost, State.setWindow_frames, State.updFrame_setWindow, State.clear_setWindow]
  split <;> rfl

theorem State.replaceFrame_setWindow (f : Fin 4) (x : FrameFields) :
    (s.setWindow p w).replaceFrame f x = (s.replaceFrame f x).setWindow p w := by
  simp only [State.replaceFrame, State.updFrame_setWindow, State.clearLate_setWindow, State.clearLost_setWindow]

theorem State.tripFrame_setWindow (f : Fin 4) (reason : Byte) :
    (s.setWindow p w).tripFrame f reason = (s.tripFrame f reason).setWindow p w := by
  have raises (s : State) (x : Source) (a : Action) :
      (s.setWindow p w).raiseFrame f x a = (s.raiseFrame f x a).setWindow p w := State.raise_setWindow s p w _ _ _
  simp only [State.tripFrame, State.setWindow_frames, State.updFrame_setWindow, State.clear_setWindow, raises]
  split
  · split <;> rfl
  · rfl

theorem State.checkChannel_setWindow (c : Fin 8) (force stroke : Half) :
    (s.setWindow p w).checkChannel c force stroke = (s.checkChannel c force stroke).setWindow p w := by
  have hands (s : State) (ch : Channel) (x : Source) (a : Action) (before after : Bool) :
      (s.setWindow p w).hand ch x a before after = (s.hand ch x a before after).setWindow p w := by
    simp only [State.hand, State.raise_setWindow, State.clear_setWindow]
    split
    · rfl
    · split <;> rfl
  have checks (s : State) (ch : Channel) (x : Source) (a : Action) (v : Supervision) (before after : Bool) :
      (s.setWindow p w).check ch c x a v before after = (s.check ch c x a v before after).setWindow p w :=
    hands (s.setSupervision (s.supervision.set c v)) ch x a before after
  simp only [State.checkChannel_eq, State.checkTracking, State.checkOverforce, State.checkStroke, checks,
    State.setWindow_supervision, State.setWindow_channels]

theorem State.exchangeDog_setWindow (f : Fin 4) : (s.setWindow p w).exchangeDog f = (s.exchangeDog f).setWindow p w := by
  simp only [State.exchangeDog, State.setWindow_frames, State.updFrame_setWindow, State.clearLate_setWindow,
    State.clearLost_setWindow]
  cases s.frames[f].dog <;> rfl

theorem State.exchangeChecks_setWindow (f : Fin 4) (forceA forceB strokeA strokeB : Half) :
    (s.setWindow p w).exchangeChecks f forceA forceB strokeA strokeB
      = (s.exchangeChecks f forceA forceB strokeA strokeB).setWindow p w := by
  have measures (s : State) (c : Fin 8) (x y : Half) :
      (s.setWindow p w).storeMeasured c x y = (s.storeMeasured c x y).setWindow p w := rfl
  simp only [State.exchangeChecks, State.checkChannel_setWindow, measures]

theorem State.handedOut_setWindow (f : Fin 4) :
    (((s.setWindow p w).handOut (channelA f)).handOut (channelB f)).exchangeDog f
      = (((s.handOut (channelA f)).handOut (channelB f)).exchangeDog f).setWindow p w :=
  ((s.handOut (channelA f)).handOut (channelB f)).exchangeDog_setWindow p w f

/-! ### The requests on gauges and crack inputs, and REINIT -/

theorem State.replaceGauge_setWindow (g : Fin 64) (x : GaugeConfig) :
    (s.setWindow p w).replaceGauge g x = (s.replaceGauge g x).setWindow p w := by
  have sets (s : State) (v : Vector Gauge 64) : (s.setWindow p w).setGauges v = (s.setGauges v).setWindow p w := rfl
  simp only [State.replaceGauge, State.setWindow_gauges, sets, State.clear_setWindow]
  split <;> split <;> simp only [State.clear_setWindow]

theorem State.replaceCrack_setWindow (i : Fin 16) (x : CrackConfig) :
    (s.setWindow p w).replaceCrack i x = (s.replaceCrack i x).setWindow p w := by
  have sets (s : State) (g : Crack → Crack) : (s.setWindow p w).updCrack i g = (s.updCrack i g).setWindow p w := rfl
  simp only [State.replaceCrack, State.setWindow_cracks, sets, State.clear_setWindow]
  split
  · rfl
  · split <;> rfl

theorem State.restartEvents_setWindow : (s.setWindow p w).restartEvents = s.restartEvents.setWindow p w := by
  have ports : (s.setWindow p w).setPorts ((s.setWindow p w).ports.map fun q => { q with latched := Event.restart.bit, mask := 0#7 })
      = (s.setPorts (s.ports.map fun q => { q with latched := Event.restart.bit, mask := 0#7 })).setWindow p w := by
    simp [State.setWindow, State.updPort, State.setPorts, Vector.map_set]
  rw [State.restartEvents, ports]
  rfl

theorem State.reinit_setWindow : (s.setWindow p w).reinit = s.reinit.setWindow p w := by
  have records (s : State) (b : Body) : (s.setWindow p w).record b = (s.record b).setWindow p w := rfl
  have entered : allZones.foldl State.restartZone (s.setWindow p w).defaults
      = (allZones.foldl State.restartZone s.defaults).setWindow p w :=
    foldl_comm_of_forall (f := fun s => s.setWindow p w) State.restartZone (fun _ _ => rfl) allZones s.defaults
  have recorded : (s.setWindow p w).restarted = s.restarted.setWindow p w := by
    rw [State.restarted_log, State.restarted_log, entered]
    exact foldl_comm_of_forall (f := fun s => s.setWindow p w) State.record (fun _ _ => rfl) s.restartLog _
  rw [State.reinit_eq, State.reinit_eq, recorded]
  exact s.restarted.restartEvents_setWindow p w
end

/-! ### A request and its own port's window -/

/-- A reply with its state moved, if it has one. -/
def Reply.moved (W : State → State) : Reply → Reply
  | .ok (t, body) => .ok (W t, body)
  | .error e => .error e

theorem Reply.moved_ok {W : State → State} {t u : State} (body : State → List Byte) (moved : u = W t)
    (same : ∀ t, body (W t) = body t := by intros; rfl) : Except.ok (u, body u) = Reply.moved W (.ok (t, body t)) := by
  rw [moved, same]
  rfl

theorem Reply.moved_if {W : State → State} {c : Prop} [Decidable c] {a b x y : Reply} (pos : x = Reply.moved W a)
    (neg : y = Reply.moved W b) : (if c then x else y) = Reply.moved W (if c then a else b) := by
  split
  · exact pos
  · exact neg

section
variable {s : State} {p : PortId} {w : Window}

/-- A request whose row does not read its port's window is served as if the window had not moved: the answer replaces it. -/
theorem State.serve_setWindow {r : ReqName} {n : Nat} {act : State → Reply}
    (moves : act (s.setWindow p w) = Reply.moved (fun t => t.setWindow p w) (act s)) :
    (s.setWindow p w).serve p r n act = s.serve p r n act := by
  simp only [State.serve, moves, State.setWindow_answer]
  cases act s with
  | ok x => exact congrArg (ite _ · _) (x.1.setWindow_answer p w _ _ _ _)
  | error e => rfl

/-- A request does as much whatever its own port's window holds. -/
theorem exec_setWindow {i : Instr} {r : ReqName} (h : requestName? i = some (p, r)) :
    exec i (s.setWindow p w) = exec i s := by
  have unread := Unread.of_setWindow p w
  cases i
  all_goals first | cases h; done | skip
  all_goals (cases h; refine congrArg Host.Outcome.next (State.serve_setWindow ?_))
  case readIdent | readGenerator | readCrack | captureBaseline | snapshot | resumeAutoSnapshot | clearCrackLatch => rfl
  case readEvents =>
    refine Reply.moved_ok (fun t => [eventByte (t.eventStatus p), eventByte t.ports[portIndex p].mask]) rfl fun t => ?_
    rw [State.setWindow_eventStatus, (t.setWindow_moved p p w).2]
  case clearEvents set =>
    refine Reply.moved_ok (fun t => [eventByte (t.eventStatus p)]) (s.updPort_setWindow p w _ fun _ => rfl) fun t => ?_
    rw [State.setWindow_eventStatus]
  case setEventMask mask =>
    refine Reply.moved_if rfl (Reply.moved_ok (fun t => [eventByte t.ports[portIndex p].mask, eventByte (t.eventStatus p)])
      (s.updPort_setWindow p w _ fun _ => rfl) fun t => ?_)
    rw [State.setWindow_eventStatus, (t.setWindow_moved p p w).2]
  case reinit =>
    exact Reply.moved_if rfl (Reply.moved_ok (fun _ => []) (s.reinit_setWindow p w))
  case writeBlock a =>
    cases index? 64 a.index with
    | none => rfl
    | some i =>
      cases block? a with
      | none => rfl
      | some b => exact Reply.moved_if rfl (Reply.moved_if rfl rfl)
  case readBlock index => cases index? 64 index <;> rfl
  case setStartBlock index => cases index? 64 index <;> rfl
  case start =>
    exact Reply.moved_if rfl
      (Reply.moved_ok (fun t => [t.gen.state.code, blockIndex t.gen.current]) (unread.startProgram s))
  case pause => exact Reply.moved_ok (fun t => [t.gen.state.code, yes t.gen.requestedPause]) (unread.afterPause s)
  case resume => exact Reply.moved_ok (fun t => [t.gen.state.code, yes t.gen.requestedPause]) (unread.afterResume s)
  case stop mode =>
    cases stopMode? mode with
    | none => rfl
    | some m => exact Reply.moved_ok (fun t => [t.gen.state.code, yes t.gen.pendingStop]) (unread.afterStop s m)
  case advance => exact Reply.moved_ok (fun t => [t.gen.state.code, yes t.gen.pendingAdvance]) (unread.afterAdvance s)
  case setChannel a =>
    cases channelOf? a with
    | none => rfl
    | some x => exact Reply.moved_if rfl (Reply.moved_if rfl rfl)
  case readChannel c => cases index? 8 c <;> rfl
  case stageChannel b share offset =>
    cases index? 8 b with
    | none => rfl
    | some c => exact Reply.moved_if rfl (Reply.moved_if rfl rfl)
  case stageScale ascale => exact Reply.moved_if rfl (Reply.moved_if rfl rfl)
  case armCommit mode =>
    cases commitMode? mode with
    | none => rfl
    | some m => exact Reply.moved_if rfl rfl
  case disarm =>
    exact Reply.moved_if rfl (Reply.moved_ok (fun _ => [CommitOutcome.cancelled.code])
      (unread.addEvent ((s.setCommit .none).record (.commit .cancelled)) .commitDone))
  case servoExchange forceA forceB strokeA strokeB =>
    cases p with
    | frame f =>
      refine (congrArg (fun u : State => (Except.ok (((u.handOut (channelA f)).handOut (channelB f)).exchangeDog f,
        u.exchangeBytes f) : Reply)) (s.exchangeChecks_setWindow (.frame f) w f forceA forceB strokeA strokeB)).trans ?_
      exact Reply.moved_ok (fun _ => (s.exchangeChecks f forceA forceB strokeA strokeB).exchangeBytes f)
        (State.handedOut_setWindow _ _ w f)
    | director | logger => rfl
  case trip reason =>
    cases p with
    | frame f =>
      exact Reply.moved_ok (fun t => [t.frames[f].conditions, t.frames[f].tripReason, (t.channelZone (channelA f)).mode.code,
        (t.channelZone (channelB f)).mode.code]) (s.tripFrame_setWindow _ w f reason)
    | director | logger => rfl
  case setFrame a =>
    cases frameOf? a with
    | none => rfl
    | some x => exact Reply.moved_if rfl (Reply.moved_ok (fun t => t.frames[x.1].bytes x.1) (s.replaceFrame_setWindow p w x.1 x.2))
  case readFrame frame =>
    cases frame with
    | none => cases p <;> rfl
    | some b => 
      dsimp only
      cases index? 4 b <;> rfl
  case setGauge a =>
    cases gaugeOf? a with
    | none => rfl
    | some x => exact Reply.moved_if rfl (Reply.moved_ok (fun _ => x.2.bytes x.1) (s.replaceGauge_setWindow p w x.1 x.2))
  case readGauges first count =>
    exact Reply.moved_if rfl rfl
  case setCrack a =>
    cases crackOf? a with
    | none => rfl
    | some x => exact Reply.moved_if rfl (Reply.moved_ok (fun t => t.cracks[x.1].bytes x.1) (s.replaceCrack_setWindow p w x.1 x.2))
  case setZone zone isolate u r =>
    cases index? 4 zone with
    | none => rfl
    | some z => cases flag? isolate with
      | none => rfl
      | some i => cases rate? u with
        | none => rfl
        | some u => cases rate? r with
          | none => rfl
          | some r =>
            exact Reply.moved_ok (fun t => [zone, isolate] ++ bytes2 u ++ bytes2 r ++ [t.zones[z].state.code])
              (unread.replaceZone s z i u r)
  case release zone tag =>
    cases index? 4 zone with
    | none => rfl
    | some z =>
      have zones : (s.setWindow p w).zones = s.zones := rfl
      dsimp only
      rw [zones]
      cases s.zones[z].entries.find? fun e => e.tag == tag with
      | none => rfl
      | some e =>
        exact Reply.moved_if rfl (Reply.moved_ok (fun t => [t.zones[z].state.code, byteOf t.zones[z].entries.length])
          (unread.removeEntry s z e .manual false))
  case reloadZone zone =>
    cases index? 4 zone with
    | none => rfl
    | some z => exact Reply.moved_if rfl (Reply.moved_ok (fun t => [t.zones[z].state.code]) (unread.changeZone s z .reloading false))
  case readZone zone => cases index? 4 zone <;> rfl
  case takeRecord =>
    rw [State.setWindow_queue]
    cases s.queue.records <;> rfl
  case setQueue on off n => cases thresholds? on off <;> rfl
  case readQueue =>
    refine Reply.moved_ok (fun _ => s.queue.bytes) ?_
    split <;> rfl
end

/-! ### The bytes of a request (R2, R3) -/

theorem execAll_one (c : Instr) (s : State) : execAll [c] s = exec c s := by
  rw [execAll]
  cases exec c s <;> rfl

theorem length_encodeArgs {i : Instr} {p : PortId} {r : ReqName} (h : requestName? i = some (p, r)) :
    (encodeArgs i).length ∈ reqLengths r ∧ (encodeArgs i).length ≤ 25 := by
  cases i
  all_goals first | cases h; done | skip
  all_goals cases h
  case readFrame frame => cases frame <;> exact ⟨by simp [encodeArgs, reqLengths], by simp [encodeArgs]⟩
  all_goals exact ⟨by simp [encodeArgs, reqLengths, bytes2, bytes3, bytes4], by simp [encodeArgs, bytes2, bytes3, bytes4]⟩

section
variable {p : PortId} {code : Byte} {length : Half} {o : Host.Outcome State Fault Refusal} {s : State}

/-- Where the last argument byte takes the request with some outcome whatever the window holds, clocking the bytes has that
outcome. -/
theorem execAll_arguments (rest : List Byte) (w : Window) (more : rest ≠ []) (selected : w.selected = true)
    (phase : w.phase = .arguments) (named : w.code = code ∧ w.length = length) (left : w.expected = rest.length)
    (taken : ∀ v, takeRequest p code length (w.args ++ rest) (s.setWindow p v) = o) :
    execAll (rest.map (.portByteClocked p)) (s.setWindow p w) = o := by
  induction rest generalizing w with
  | nil => exact absurd rfl more
  | cons b rest ih =>
    have window : (s.setWindow p w).ports[portIndex p].window = w := by simp
    obtain _ | ⟨c, rest⟩ := rest
    · rw [List.map_singleton, execAll_one,
        exec_portByteClocked_of_lastArgument (by rw [window, selected]) (by rw [window, phase]) (by rw [window, left]; exact Nat.le.refl),
        window, named.1, named.2]
      exact taken w
    · rw [List.map_cons, execAll,
        exec_portByteClocked_of_argument (by rw [window, selected]) (by rw [window, phase]) (by rw [window, left]; simp)]
      simp only [State.setWindow_setWindow, window]
      exact ih { w with expected := w.expected - 1, args := w.args ++ [b], sdo := some Config.fillerByte } (by simp) selected phase
        named (by simp [left]) (by simpa using taken)

/-- The second byte of the length, and the arguments after it. -/
theorem execAll_secondLength (args : List Byte) (w : Window) (selected : w.selected = true) (phase : w.phase = .length)
    (first : w.lengthHigh = some (length.extractLsb' 8 8)) (named : w.code = code)
    (accepted : (accepted? code length.toNat).isSome = true) (fits : args.length = length.toNat)
    (taken : ∀ v, takeRequest p code length args (s.setWindow p v) = o) :
    execAll ((length.extractLsb' 0 8 :: args).map (.portByteClocked p)) (s.setWindow p w) = o := by
  have window : (s.setWindow p w).ports[portIndex p].window = w := by simp
  have byte := exec_portByteClocked_of_secondLength (b := length.extractLsb' 0 8) (by rw [window, selected])
    (by rw [window, phase]) (by rw [window, first])
  rw [window, named, be2_extract, State.setWindow_setWindow] at byte
  obtain _ | ⟨b, args⟩ := args
  · have empty : length = 0#16 := BitVec.eq_of_toNat_eq fits.symm
    rw [List.map_singleton, execAll_one, byte, if_neg (fun h => h.2 empty)]
    exact taken w
  · have some : length ≠ 0#16 := fun empty => by rw [empty] at fits; simp at fits
    rw [List.map_cons, execAll, byte, if_pos ⟨accepted, some⟩]
    exact execAll_arguments (b :: args) _ (by simp) selected rfl ⟨named, rfl⟩ fits.symm taken

/-- The three bytes before the arguments, and these. -/
theorem execAll_request (args : List Byte) (selected : s.ports[portIndex p].window.selected = true)
    (phase : s.ports[portIndex p].window.phase = .code) (accepted : (accepted? code length.toNat).isSome = true)
    (fits : args.length = length.toNat) (taken : ∀ v, takeRequest p code length args (s.setWindow p v) = o) :
    execAll ((code :: (bytes2 length ++ args)).map (.portByteClocked p)) s = o := by
  rw [List.map_cons, execAll, exec_portByteClocked_of_code selected phase]
  dsimp only [bytes2, List.cons_append, List.nil_append]
  obtain ⟨w, hw⟩ : ∃ w, w = { s.ports[portIndex p].window with
    phase := .length, code := code, lengthHigh := none, sdo := some Config.fillerByte } := ⟨_, rfl⟩
  have window : (s.setWindow p w).ports[portIndex p].window = w := by simp
  rw [← hw, List.map_cons, execAll,
    exec_portByteClocked_of_length (by rw [window, hw]; exact selected) (by rw [window, hw]) (by rw [window, hw]), window]
  simp only [State.setWindow_setWindow]
  exact execAll_secondLength args _ (by rw [hw]; exact selected) (by rw [hw]) rfl (by rw [hw]) accepted fits taken
end

/-- Settles O15: the bytes move the window alone until the last takes the request, which does not read it. -/
theorem requestBytesTakeTheRequest : Obligations.RequestBytesTakeTheRequest := by
  intro i p r s name selected code
  obtain ⟨listed, short⟩ := length_encodeArgs name
  have length : (BitVec.ofNat 16 (encodeArgs i).length).toNat = (encodeArgs i).length := by rw [BitVec.toNat_ofNat]; omega
  have accepted : accepted? (reqCode r) (BitVec.ofNat 16 (encodeArgs i).length).toNat = some r :=
    accepted?_reqCode (by rwa [length])
  exact execAll_request (encodeArgs i) selected code (by rw [accepted]; rfl) length.symm fun v =>
    (takeRequest_of_accepted accepted (parseRequest_encodeArgs name) _).trans (exec_setWindow name)

end Sys2Proof.Machine
